-- ==== Sys2Proof/Word.lean ====
section
/-!
DEFINITION. The byte of the link and sensor ports, and the two operations by which a table of fixed length is
updated and computed entry by entry. Nothing of the HX-216 itself stands here.
-/
namespace Sys2Proof

/-- A byte of the host link or of the sensor port (R165). -/
abbrev Byte := BitVec 8

/-- The table `v` with entry `i` replaced by `x`. -/
def put {α : Type} {n : Nat} (v : Vector α n) (i : Fin n) (x : α) : Vector α n := v.set i.1 x i.2

/-- The table whose entry `i` is `f i v[i]`. -/
def each {α β : Type} {n : Nat} (v : Vector α n) (f : Fin n → α → β) : Vector β n :=
  Vector.ofFn fun i => f i v[i]

@[simp] theorem put_getElem_self {α : Type} {n : Nat} (v : Vector α n) (i : Fin n) (x : α) :
    (put v i x)[i] = x := by
  simp [put]

theorem put_getElem_ne {α : Type} {n : Nat} (v : Vector α n) {i j : Fin n} (x : α) (h : i ≠ j) :
    (put v i x)[j] = v[j] := by
  have h' : i.1 ≠ j.1 := fun e => h (Fin.ext e)
  simp [put, h']

@[simp] theorem each_getElem {α β : Type} {n : Nat} (v : Vector α n) (f : Fin n → α → β) (i : Fin n) :
    (each v f)[i] = f i v[i] := by
  simp [each]

end Sys2Proof
end

