-- ==== Sys2Proof/Syntax.lean ====
section
/-!
DEFINITION. The commands of the HX-216: one constructor per row of spec/opcode_table.json. A request row carries
the payload of its frame, as bytes (R165, R168); the other rows carry what the field, the link or the crystal
gives at that event.
-/
namespace Sys2Proof

/-- The order in which the blocks take the events of one tick of the timebase, where the manual leaves it open
(R5, R33, R62, R133; log entry 3). -/
structure TickOrder where
  /-- The FIU ages its points before the boundary is taken. -/
  fiuFirst : Bool
  /-- The HMU counts its readings down before the boundary is taken. -/
  hmuFirst : Bool
  /-- The EXS takes the boundary before the GBU does. -/
  exsFirst : Bool
  /-- The slot timers take the step start before the EXS and the GBU take the boundary. -/
  timersFirst : Bool
deriving DecidableEq, Repr

/-- How a link frame being collected is broken (R166). -/
inductive LinkBreak where
  /-- A LEN of 0 or above 1,023. -/
  | badLen (len : BitVec 16)
  /-- A gap of more than 10 ms, ended by this byte, with or without its stop bit. -/
  | gap (byte : Byte) (stopBit : Bool)
  /-- A byte received with a missing stop bit. -/
  | stop
deriving DecidableEq, Repr

/-- How a sensor record being collected is broken (R28). -/
inductive SensorBreak where
  /-- A gap of more than 10 ms, ended by this byte, with or without its stop bit. -/
  | gap (byte : Byte) (stopBit : Bool)
  /-- A byte received with a missing stop bit. -/
  | stop
deriving DecidableEq, Repr

/-- A command: one constructor per row of spec/opcode_table.json, in the table's order. -/
inductive Instr where
  | coldReset (lsel : BitVec 2) (levels : BitVec 8)
  | warmReset
  | identify (p : List Byte)
  | status (p : List Byte)
  | modeStart (p : List Byte)
  | modeStop (p : List Byte)
  | restart (p : List Byte)
  | clockSet (p : List Byte)
  | clockTrim (p : List Byte)
  | clockRead (p : List Byte)
  | timerSet (p : List Byte)
  | timerDisarm (p : List Byte)
  | captureSet (p : List Byte)
  | captureDisarm (p : List Byte)
  | captureTrigger (p : List Byte)
  | captureFetch (p : List Byte)
  | pulseSet (p : List Byte)
  | pulseRead (p : List Byte)
  | eventSet (p : List Byte)
  | eventRead (p : List Byte)
  | pointSet (p : List Byte)
  | pointRead (p : List Byte)
  | gradeSet (p : List Byte)
  | holderSet (p : List Byte)
  | gradeRead (p : List Byte)
  | consumerSet (p : List Byte)
  | consumerEnable (p : List Byte)
  | requestSet (p : List Byte)
  | consumerRead (p : List Byte)
  | stepRead (p : List Byte)
  | driveSet (p : List Byte)
  | driveSetpoint (p : List Byte)
  | driveStart (p : List Byte)
  | driveStop (p : List Byte)
  | drivePosition (p : List Byte)
  | driveRead (p : List Byte)
  | exportSet (p : List Byte)
  | nominate (p : List Byte)
  | nominateCancel (p : List Byte)
  | nominateAmend (p : List Byte)
  | exportArm (p : List Byte)
  | exportHalt (p : List Byte)
  | exportRelease (p : List Byte)
  | curtail (p : List Byte)
  | exportLogFetch (p : List Byte)
  | exportRead (p : List Byte)
  | nominationRead (p : List Byte)
  | meterSet (p : List Byte)
  | meterKey (p : List Byte)
  | meterConfirm (p : List Byte)
  | meterRead (p : List Byte)
  | retireRead (p : List Byte)
  | accountAdd (p : List Byte)
  | accountRemove (p : List Byte)
  | accountSuspend (p : List Byte)
  | accountResume (p : List Byte)
  | accountTariff (p : List Byte)
  | accountRead (p : List Byte)
  | directoryRead (p : List Byte)
  | lookasidePurge (p : List Byte)
  | lookasideRead (p : List Byte)
  | tariffSet (p : List Byte)
  | bandmapSet (p : List Byte)
  | tariffRead (p : List Byte)
  | suspenseRead (p : List Byte)
  | periodClose (p : List Byte)
  | statementFetch (p : List Byte)
  | periodRead (p : List Byte)
  | conditionRead (p : List Byte)
  | conditionClear (p : List Byte)
  | conditionRaise (p : List Byte)
  | conditionRoute (p : List Byte)
  | unknownKind (kind : Byte) (p : List Byte)
  | linkFrameBroken (cause : LinkBreak)
  | frameDiscarded (bytes : List Byte)
  | replySent
  | timebaseTick (order : TickOrder)
  | pointAgeExpiry (point : Fin 32) (order : TickOrder)
  | stepBoundary (order : TickOrder)
  | timerExpiry (timer : Fin 4) (order : TickOrder)
  | pulseArrival (channel : Fin 24)
  | eventLineChange (line : Fin 8) (levels : BitVec 8)
  | sensorRecord (bytes : List Byte)
  | sensorRecordBroken (bytes : List Byte) (cause : SensorBreak)
  | readingExpiry (position : Fin 64) (order : TickOrder)
  | emissionStep
  | periodStart (channel : Fin 16)
  | activeTimeEnd (channel : Fin 16)
  | pairTick (channel : Fin 16)
  | moveEnd (channel : Fin 16)
  | pauseEnd (channel : Fin 16)
  | eventLineSample (levels : BitVec 8)
  | linkStartByte
  | sensorStartByte
deriving DecidableEq, Repr

end Sys2Proof
end

