-- ==== Sys2Proof/Decode.lean ====
section
/-!
DEFINITION. Decoding of the opcode table's words. The HX-216 is a block: spec/opcode_table.json gives no row any bits,
so no word spells a command (log entry 20). The encoding of frames and payloads (R165) stands in Machine/Operands.lean
and Machine/Link.lean.
-/
namespace Sys2Proof

/-- The command that a word spells by the table's bits: none, since no row gives bits (log entry 20). -/
def decodeTableWord (_nbits _w : Nat) : Option Instr := none

end Sys2Proof
end

