-- ==== Sys2Proof/Config.lean ====
section
/-!
DEFINITION. What the HX-216 fixes for every part (sizes, codes), and the values its manual leaves open: those
have no body, so nothing can be proved of them but that they are some value (log entry 11).
-/
namespace Sys2Proof.Config

/-- The part code returned by IDENTIFY (R175). -/
def partCode : Nat := 0x0216

/-- The revision number returned by IDENTIFY (R175). -/
def revision : Nat := 1

/-- The start byte of a link frame (Table 9-1). -/
def linkStart : Byte := 0xE7

/-- The start byte of a sensor record (Table 9-2). -/
def sensorStart : Byte := 0x5A

/-- The greatest request kind number of Table 9-6. -/
def lastKind : Nat := 0x46

/-- Slots of a frame (Table 1-1). -/
def slotsPerFrame : Nat := 96

/-- Records held by the capture log (R16). -/
def captureLogSize : Nat := 16

/-- Records held by the export log (R122). -/
def exportLogSize : Nat := 16

/-- Entries held by the retire queue (R131). -/
def retireQueueSize : Nat := 64

/-- Statements held by the statement queue (R160, R162). -/
def statementQueueSize : Nat := 32

/-- Entries held by the lookaside (R150). -/
def lookasideSize : Nat := 8

/-- Places that emission judges: 256 directory entries, then 16 suspenses (R143). -/
def emissionPlaces : Nat := 272

/-- Records returned by one fetch (R17, R123, R163). -/
def fetchSize : Nat := 4

/-- The greatest value of rec_kJ, sup_kJ and charge_mu (Table 8-3). -/
def accumulatorTop : Nat := 281474976710655

/-- Kilojoules of a megawatt-hour: the denominator of a charge (section 8.5). -/
def kJPerMWh : Nat := 3600000

/-- FREE VALUE. The KIND byte of the reply to an unknown kind of 80H or above: R168 makes it the kind plus 80H,
which no byte holds, and states nothing else (log entry 11). -/
opaque wideReplyKind : Byte → Byte

/-- FREE VALUE. The item index of a NOMINATION-READ whose table names neither CURRENT nor NEXT: R125 numbers the
first slot 1 and the count 2, and gives the table no item (log entry 11). -/
opaque nominationTableItem : Byte

/-- FREE VALUE. The byte by which DRIVE-READ encodes the mode CASCADE-MEMBER: Table 5-1 lists DUTY to LOWER and not
this mode (log entry 11). -/
opaque cascadeMemberCode : Byte

/-- FREE VALUE. The active time DRIVE-READ returns for a DUTY, PULSE or CASCADE channel that has no period in
progress: R99 speaks of the period in progress alone (log entry 11). -/
opaque activeTimeWithoutPeriod : Fin 16 → Fin 65536

end Sys2Proof.Config
end

