-- ==== Sys2Proof/Machine/State.lean ====
section
/-!
DEFINITION. The state of the HX-216 as plain data, block by block (Table 1-2), the outcomes of a step, and the
state after a cold reset. Quantities are integers in the manual's units (section 0.5.1), kept as Nat or Int; the
commands keep them in the manual's ranges.
-/
namespace Sys2Proof.Machine

/-- A command of the HX-216 never stops the part: a refused request is a reply (R169) and a broken frame is a
condition (R166). So there is no fault, and nothing raises one. -/
inductive Fault where
deriving DecidableEq, Repr

/-- Why the model gives no next state. -/
inductive Refusal where
  /-- Raised by `exec`'s arm of a command that has no meaning yet; safe. -/
  | notModelled (mnemonic : String)
deriving DecidableEq, Repr

/-! ## Positions, levels, modes -/

/-- A time tag: frame 0..65,535, slot 0..95, step 0..steps per slot - 1 (section 0.5.3). -/
structure Tag where
  frame : Nat
  slot : Fin 96
  step : Nat
deriving DecidableEq, Repr

/-- The level of a pin. -/
inductive Level where
  | low
  | high
deriving DecidableEq, Repr

/-- The operating mode (R170). -/
inductive Mode where
  | setup
  | run
deriving DecidableEq, Repr

/-- A receive state: of the host link (R166) and of the sensor port (R28). -/
inductive Receiver where
  | hunting
  /-- With the bytes collected since the start byte. -/
  | collecting (bytes : List Byte)
deriving DecidableEq, Repr

/-! ## LKP (Chapter 9) -/

/-- The result codes of Table 9-3, in its order. -/
inductive ResultCode where
  | ok
  | clamped
  | unknown
  | length
  | range
  | state
  | locked
  | busy
  | full
  | duplicate
  | absent
deriving DecidableEq, Repr

/-- A reply: its KIND byte, its result and its payload (Table 9-1). -/
structure Reply where
  kind : Byte
  code : ResultCode
  payload : List Byte
deriving DecidableEq, Repr

/-- Link port and mode control. -/
structure Lkp where
  mode : Mode
  rx : Receiver
  /-- The answer mark (R166). -/
  answer : Bool
  /-- The overrun mark (R166). -/
  overrun : Bool
  /-- LSEL1 and LSEL0 as sampled at the last cold reset (R165). -/
  lsel : BitVec 2
  /-- The reply being sent (R168). -/
  reply : Option Reply
deriving DecidableEq, Repr

/-! ## SCK (Chapter 1) -/

/-- When a slot timer expires again (R10). -/
inductive TimerRepeat where
  | once
  | eachSlot
  | eachFrame
deriving DecidableEq, Repr

/-- A slot timer (R10). -/
structure SlotTimer where
  /-- The slot, `none` for ANY. -/
  slot : Option (Fin 96)
  offset : Nat
  again : TimerRepeat
  /-- The capture unit it triggers. -/
  unit : Option (Fin 4)
  armed : Bool
deriving DecidableEq, Repr

/-- The edge an EVENT capture watches for (R13). -/
inductive Edge where
  | rising
  | falling
  | both
deriving DecidableEq, Repr

/-- The trigger of a capture unit (R13). -/
inductive Trigger where
  | event (line : Fin 8) (edge : Edge)
  | timer
  | exportChange
  | request
deriving DecidableEq, Repr

/-- A capture unit (R13). -/
structure CaptureUnit where
  trigger : Trigger
  snapshot : Option (Fin 24)
  continuous : Bool
  armed : Bool
deriving DecidableEq, Repr

/-- The export state (R107). -/
inductive ExportState where
  | idle
  | armed
  | active
  | passive
  | halted
deriving DecidableEq, Repr

/-- What triggered a capture: trigger kind and trigger source of the record (R14). -/
inductive CaptureCause where
  | event (line : Fin 8) (rising : Bool)
  | timer (number : Fin 4)
  | exportChange (entered : ExportState)
  | request
deriving DecidableEq, Repr

/-- A capture record (R14). -/
structure CaptureRecord where
  unit : Fin 4
  cause : CaptureCause
  pos : Tag
  ms : Nat
  running : Bool
  /-- The snapshot channel with its raw count. -/
  snapshot : Option (Fin 24 × Nat)
deriving DecidableEq, Repr

/-- Schedule clock. -/
structure Sck where
  running : Bool
  pos : Tag
  slotS : Nat
  stepS : Nat
  trim : Int
  endCount : Nat
  /-- Ticks of the timebase since the start of the step: the whole seconds of the elapsed count (R3). -/
  ticks : Nat
  /-- Milliseconds since the last tick of the timebase (R3). -/
  phaseMs : Nat
  timers : Vector SlotTimer 4
  units : Vector CaptureUnit 4
  /-- The capture log, oldest first (R16). -/
  log : List CaptureRecord
deriving DecidableEq, Repr

/-! ## FIU (Chapter 2) -/

/-- The width of a pulse channel (R18). -/
inductive Width where
  | single
  | cascade
deriving DecidableEq, Repr

/-- The role of a pulse channel (Table 2-1). -/
inductive PulseRole where
  | unassigned
  | gasSupply (grade : Fin 3)
  | gasWorks (grade : Fin 3)
  | heatFlow (meter : Fin 16)
  | exportEnergy
deriving DecidableEq, Repr

/-- A pulse channel (R18). -/
structure PulseChannel where
  width : Width
  role : PulseRole
  scale : Nat
  limit : Nat
  counter : Nat
deriving DecidableEq, Repr

/-- An event line (R24). -/
structure EventLine where
  debounce : Nat
  raw : Level
  debounced : Level
  steady : Nat
deriving DecidableEq, Repr

/-- The role of a sample point (Table 2-4). -/
inductive PointRole where
  | unassigned
  | holderLevel (grade : Fin 3)
  | calorific (grade : Fin 3)
  | supplyTemp (meter : Fin 16)
  | returnTemp (meter : Fin 16)
deriving DecidableEq, Repr

/-- The quality of a sample point (R30). -/
inductive Quality where
  | empty
  | good
  | held
  | failed
deriving DecidableEq, Repr

/-- A sample point (R30). -/
structure SamplePoint where
  role : PointRole
  holdAfter : Nat
  failAfter : Nat
  value : Int
  age : Nat
  quality : Quality
deriving DecidableEq, Repr

/-- Field input unit. -/
structure Fiu where
  pulses : Vector PulseChannel 24
  lines : Vector EventLine 8
  sensor : Receiver
  points : Vector SamplePoint 32
deriving DecidableEq, Repr

/-! ## GBU (Chapters 3 and 4) -/

/-- A holder band, lowest first (Table 3-3). -/
inductive Band where
  | lowlow
  | low
  | normal
  | high
  | highhigh
deriving DecidableEq, Repr

/-- The last evaluation of a grade (R47). -/
structure Evaluation where
  tag : Tag
  es : Nat
  supplyDelta : Option Nat
  worksDelta : Option Nat
  supplyClamped : Bool
  worksClamped : Bool
  vs : Option Nat
  vw : Option Nat
  cv : Option Nat
  /-- Whether the CV came from the CV point (SAMPLE) or is the configured one. -/
  cvSampled : Option Bool
  level : Option Int
  levelQuality : Option Quality
  sg : Int
  hg : Int
  bandBefore : Band
  bandAfter : Band
  placed : Bool
  ag : Nat
deriving DecidableEq, Repr

/-- A grade entry (R37), without the bindings, which are found by role. -/
structure GradeEntry where
  used : Bool
  cv : Nat
  agMax : Nat
  retain : Nat
  flareCapacity : Nat
  flareChannel : Option (Fin 16)
  target : Nat
  gain : Nat
  theta1 : Nat
  theta2 : Nat
  theta3 : Nat
  theta4 : Nat
  hysteresis : Nat
  band : Band
  placed : Bool
  last : Option Evaluation
deriving DecidableEq, Repr

/-- The kind of a consumer (Table 4-1). -/
inductive ConsumerKind where
  | heat
  | power
  | towngas
deriving DecidableEq, Repr

/-- The state of a consumer (R58). -/
inductive ConsumerState where
  | ready
  | blocked
  | out
deriving DecidableEq, Repr

/-- A consumer entry (R56). -/
structure Consumer where
  kind : ConsumerKind
  tier : Nat
  mc : Nat
  xc : Nat
  dc : Nat
  main : Option (Fin 16)
  supp : Option (Fin 16)
  smax : Option Nat
  weight : Option Nat
  /-- Enable IN. -/
  enabled : Bool
  request : Nat
  pc : Nat
  state : ConsumerState
deriving DecidableEq, Repr

/-- A grade's part of the step record (R75). -/
structure GradeShare where
  sg : Int
  hg : Int
  ag : Nat
  band : Band
  takes : Vector Nat 4
  flare : Nat
  retained : Nat
deriving DecidableEq, Repr

/-- A tier's part of the step record (R75). -/
structure TierShare where
  pool : Nat
  demand : Nat
  total : Nat
  skipped : Bool
deriving DecidableEq, Repr

/-- A consumer's part of the step record (R75). -/
structure ConsumerShare where
  state : ConsumerState
  request : Nat
  target : Nat
  ac : Nat
  sc : Nat
  released : Bool
deriving DecidableEq, Repr

/-- The step record (R75). -/
structure StepRecord where
  ended : Tag
  es : Nat
  begins : Tag
  slot : Fin 96
  neff : Nat
  gNominal : Nat
  grades : Vector GradeShare 3
  tiers : Vector TierShare 4
  consumers : Vector ConsumerShare 12
  rho : Nat
  rhoHeld : Bool
  sufficient : Bool
deriving DecidableEq, Repr

/-- A pair of a step tag, which may be absent, and a recovered share (R71). -/
structure RhoPair where
  tag : Option Tag
  value : Nat
deriving DecidableEq, Repr

/-- Gas balance unit. -/
structure Gbu where
  grades : Vector GradeEntry 3
  /-- Baselines of the roles GAS-SUPPLY g (R21). -/
  supplyBase : Vector Nat 3
  /-- Baselines of the roles GAS-WORKS g (R21). -/
  worksBase : Vector Nat 3
  consumers : Vector Consumer 12
  stepRecord : Option StepRecord
  rhoPrev : Option RhoPair
  rhoNow : RhoPair
deriving DecidableEq, Repr

/-! ## DCU (Chapter 5) -/

/-- The mode of a drive channel; a member's mode follows from its even channel (R79). -/
inductive DriveMode where
  | duty
  | pulse
  | cascade
  | raise
deriving DecidableEq, Repr

/-- The source of a drive channel (Table 5-1). -/
inductive DriveSource where
  | consumerMain (consumer : Fin 12)
  | consumerSupp (consumer : Fin 12)
  | flare (grade : Fin 3)
  | manual
deriving DecidableEq, Repr

/-- The state of a drive channel (Table 5-3). -/
inductive DriveState where
  | stopped
  | running
  | blocked
deriving DecidableEq, Repr

/-- The sub-state of a raise and lower pair (Table 5-4). -/
inductive PairState where
  | atRest
  | raising
  | lowering
  | reversalPause
  | seating
deriving DecidableEq, Repr

/-- A drive channel: the items of Table 5-1, its pin, and the pair items of Table 5-4. -/
structure DriveChannel where
  mode : DriveMode
  baseTick : Nat
  period : Option Nat
  wmin : Option Nat
  idle : Level
  permissive : Option (Fin 8 × Level)
  source : DriveSource
  staged : Nat
  active : Nat
  state : DriveState
  count : Nat
  tick : Nat
  /-- Milliseconds of the base tick in progress: the channel's crystal divider (section 5.5). -/
  divider : Nat
  /-- The level of the pin of the same number (R88). -/
  pin : Level
  ttr : Nat
  deadband : Nat
  reversal : Nat
  minMove : Nat
  seatRun : Nat
  sub : PairState
  /-- E, the estimate. -/
  est : Nat
  /-- E0, the estimate at the start of the move. -/
  est0 : Nat
  /-- t, ticks moved. -/
  moved : Nat
  /-- L, length of the move. -/
  length : Nat
  remaining : Nat
deriving DecidableEq, Repr

/-- Drive channel unit. -/
structure Dcu where
  channels : Vector DriveChannel 16
deriving DecidableEq, Repr

/-! ## EXS (Chapter 6) -/

/-- The export configuration (Table 6-1). -/
structure ExportConfig where
  eta : Nat
  capacity : Nat
  tolerance : Nat
  floorWh : Nat
  devLimit : Nat
  recoveryPairs : Nat
  haltOnDev : Bool
  graceSlots : Nat
  gridHold : Option (Fin 8)
deriving DecidableEq, Repr

/-- The plan status (R104). -/
inductive PlanStatus where
  | valid
  | grace
  | void
deriving DecidableEq, Repr

/-- The sufficiency of a slot (R121). -/
inductive Sufficiency where
  | sufficient
  | insufficient
  | notJudged
deriving DecidableEq, Repr

/-- The verdict of a slot (R119), in the order of R122. -/
inductive Verdict where
  | compliant
  | deviant
  | notExporting
  | unmeasured
deriving DecidableEq, Repr

/-- The step items kept for one step (R117). -/
structure StepItem where
  tag : Tag
  neff : Nat
  sufficient : Bool
deriving DecidableEq, Repr

/-- The slot accumulators (R117). -/
structure SlotAccumulators where
  energy : Nat
  steps : Nat
  allSufficient : Bool
  lastNeff : Nat
deriving DecidableEq, Repr

/-- The export demand record (R111). -/
structure DemandRecord where
  slot : Fin 96
  state : ExportState
  plan : PlanStatus
  nSlot : Nat
  cap : Option Nat
  hold : Bool
  neff : Nat
  gas : Nat
  gasNominal : Nat
  requests : Vector (Option Nat) 12
deriving DecidableEq, Repr

/-- A slot record of the export log (R122). -/
structure SlotRecord where
  frame : Nat
  slot : Fin 96
  stateStart : ExportState
  stateEnd : ExportState
  planEnd : PlanStatus
  neff : Nat
  steps : Nat
  nominated : Nat
  measured : Nat
  verdict : Verdict
  sufficiency : Sufficiency
  deviations : Nat
  recoveries : Nat
  gap : Bool
deriving DecidableEq, Repr

/-- A curtailment in force (R115). -/
structure Curtailment where
  cap : Nat
  remaining : Nat
deriving DecidableEq, Repr

/-- Export scheduler. -/
structure Exs where
  config : ExportConfig
  current : Vector Nat 96
  nextTab : Vector Nat 96
  /-- The written set of NEXT, one mark per slot (R102). -/
  written : Vector Bool 96
  plan : PlanStatus
  held : Nat
  grace : Nat
  phase : ExportState
  slotInHand : Fin 96
  curtail : Option Curtailment
  deviations : Nat
  recoveries : Nat
  firstHalf : Sufficiency
  stepItems : List StepItem
  acc : SlotAccumulators
  startState : ExportState
  startPlan : PlanStatus
  record : DemandRecord
  /-- The export log, oldest first (R122). -/
  log : List SlotRecord
  /-- The baseline of EXPORT-ENERGY (R21). -/
  base : Nat
deriving DecidableEq, Repr

/-! ## HMU (Chapter 7) -/

/-- A meter channel (R126), without the bindings, which are found by role. -/
structure Meter where
  used : Bool
  k : Nat
  limit : Nat
  key : Nat
  litres : Nat
  base : Nat
  pendingSteps : Nat
  lagged : Bool
  carry : Nat
deriving DecidableEq, Repr

/-- The finished fields of a reading (Table 7-2). -/
structure Finished where
  ts : Int
  tr : Int
  deltaT : Nat
  kJ : Nat
  recovered : Nat
  supplementary : Nat
  estimated : Bool
  reverse : Bool
deriving DecidableEq, Repr

/-- A reading (Table 7-2); it is WAITING while `finished` is absent. -/
structure Reading where
  meter : Fin 16
  key : Nat
  tag : Tag
  steps : Nat
  pulses : Nat
  litres : Nat
  rho : Nat
  remaining : Nat
  supplyFresh : Bool
  returnFresh : Bool
  expired : Bool
  suspect : Bool
  finished : Option Finished
deriving DecidableEq, Repr

/-- An entry of the retire queue (R131). -/
inductive RetireEntry where
  | reading (r : Reading)
  | marker (period : Nat)
deriving DecidableEq, Repr

/-- Heat metering unit. -/
structure Hmu where
  meters : Vector Meter 16
  confirmS : Nat
  /-- The retire queue, head first (R131). -/
  queue : List RetireEntry
deriving DecidableEq, Repr

/-! ## ABU (Chapter 8) -/

/-- A bank of an account (Table 8-3). -/
structure Bank where
  recKJ : Nat
  supKJ : Nat
  charge : Nat
  rem : Nat
  readings : Nat
  estimated : Nat
deriving DecidableEq, Repr

/-- A bank of a suspense (R157). -/
structure SuspenseBank where
  recKJ : Nat
  supKJ : Nat
  readings : Nat
  estimated : Nat
deriving DecidableEq, Repr

/-- A directory entry (Table 8-2). -/
structure DirEntry where
  valid : Bool
  key : Nat
  /-- H: placed in the secondary group. -/
  secondary : Bool
  tariff : Fin 8
  suspended : Bool
  banks : Vector Bank 2
deriving DecidableEq, Repr

/-- A lookaside entry (R150). -/
structure LookEntry where
  key : Nat
  location : Fin 256
  tariff : Fin 8
deriving DecidableEq, Repr

/-- The close state (Table 8-1). -/
inductive CloseState where
  | idle
  | marked
  | emitting
  | paused
deriving DecidableEq, Repr

/-- Whose statement it is (Table 8-4): an account, with its key and tariff, or the suspense of a meter. -/
inductive StatementHolder where
  | account (key : Nat) (tariff : Fin 8)
  | suspense (meter : Fin 16)
deriving DecidableEq, Repr

/-- A statement (Table 8-4). -/
structure Statement where
  holder : StatementHolder
  period : Nat
  recKJ : Nat
  supKJ : Nat
  charge : Nat
  readings : Nat
  estimated : Nat
deriving DecidableEq, Repr

/-- Account and billing unit. -/
structure Abu where
  period : Nat
  active : Fin 2
  close : CloseState
  closing : Option Nat
  cursor : Nat
  emitted : Nat
  directory : Vector DirEntry 256
  /-- The lookaside, most recently used first (R150). -/
  lookaside : List LookEntry
  /-- Eight tariffs of eight prices: band 0 recovered, band 0 supplementary, band 1 recovered, ... (R153). -/
  tariffs : Vector (Vector Nat 8) 8
  bandMap : Vector (Fin 4) 96
  suspense : Vector (Vector SuspenseBank 2) 16
  /-- The statement queue, oldest first (R162). -/
  statements : List Statement
deriving DecidableEq, Repr

/-! ## CNU (Chapter 10) -/

/-- The route of a condition (R177). -/
inductive Route where
  | unrouted
  | a
  | b
deriving DecidableEq, Repr

/-- A condition record (R177). -/
structure CondRecord where
  active : Bool
  count : Nat
  source : Nat
  time : Tag
  route : Route
  alarm : Bool
deriving DecidableEq, Repr

/-- Condition unit, with its three outputs: `true` is asserted, the low level (R181). -/
structure Cnu where
  records : Vector CondRecord 32
  attnA : Bool
  attnB : Bool
  alarm : Bool
deriving DecidableEq, Repr

/-! ## The whole state -/

/-- The state of the part: the nine blocks of Table 1-2 and the queue of commands that are waiting. -/
structure State where
  /-- The commands waiting, first in first out (log entry 1). -/
  pending : List Instr
  lkp : Lkp
  sck : Sck
  fiu : Fiu
  gbu : Gbu
  dcu : Dcu
  exs : Exs
  hmu : Hmu
  abu : Abu
  cnu : Cnu
deriving DecidableEq, Repr

/-- What the owning block answers to a request (R168, R169). A refused request carries no state: it "leaves the
state of the part as it was". -/
inductive Answer where
  | done (code : ResultCode) (payload : List Byte) (s : State)
  | refuse (code : ResultCode) (payload : List Byte)
deriving DecidableEq, Repr

/-! ## The cold reset (R174) -/

/-- The position after a cold reset (R1). -/
def Tag.zero : Tag := { frame := 0, slot := 0, step := 0 }

/-- LKP after a cold reset (Table 9-6a), with the LSEL bits sampled at its end (R165). -/
def Lkp.cold (lsel : BitVec 2) : Lkp :=
  { mode := .setup, rx := .hunting, answer := false, overrun := false, lsel := lsel, reply := none }

/-- A slot timer after a cold reset (R10). -/
def SlotTimer.cold : SlotTimer :=
  { slot := some 0, offset := 0, again := .once, unit := none, armed := false }

/-- A capture unit after a cold reset (R13). -/
def CaptureUnit.cold : CaptureUnit :=
  { trigger := .request, snapshot := none, continuous := false, armed := false }

/-- SCK after a cold reset (R1, R10, R13, R16). -/
def Sck.cold : Sck :=
  { running := false, pos := Tag.zero, slotS := 900, stepS := 10, trim := 0, endCount := 10, ticks := 0,
    phaseMs := 0, timers := Vector.replicate 4 SlotTimer.cold, units := Vector.replicate 4 CaptureUnit.cold,
    log := [] }

/-- A pulse channel after a cold reset (R18). -/
def PulseChannel.cold : PulseChannel :=
  { width := .single, role := .unassigned, scale := 1, limit := 65535, counter := 0 }

/-- An event line after a cold reset that found this level at its pin (R24). -/
def EventLine.cold (pin : Level) : EventLine :=
  { debounce := 20, raw := pin, debounced := pin, steady := 0 }

/-- A sample point after a cold reset (R30). -/
def SamplePoint.cold : SamplePoint :=
  { role := .unassigned, holdAfter := 30, failAfter := 300, value := 0, age := 0, quality := .empty }

/-- The level that bit `i` of eight sampled levels gives. -/
def levelOf (levels : BitVec 8) (i : Fin 8) : Level := if levels.getLsbD i.1 then .high else .low

/-- FIU after a cold reset that found these levels at the event lines (R18, R24, R28, R30). -/
def Fiu.cold (levels : BitVec 8) : Fiu :=
  { pulses := Vector.replicate 24 PulseChannel.cold,
    lines := Vector.ofFn fun i => EventLine.cold (levelOf levels i),
    sensor := .hunting, points := Vector.replicate 32 SamplePoint.cold }

/-- A grade entry after a cold reset (R37). -/
def GradeEntry.cold : GradeEntry :=
  { used := false, cv := 4000, agMax := 0, retain := 0, flareCapacity := 0, flareChannel := none, target := 5000,
    gain := 0, theta1 := 1000, theta2 := 2500, theta3 := 7500, theta4 := 9000, hysteresis := 200,
    band := .normal, placed := false, last := none }

/-- A consumer entry after a cold reset (R56). -/
def Consumer.cold : Consumer :=
  { kind := .heat, tier := 1, mc := 1, xc := 1, dc := 1, main := none, supp := none, smax := none, weight := none,
    enabled := false, request := 0, pc := 0, state := .out }

/-- GBU after a cold reset (R37, R56, R71, R75). -/
def Gbu.cold : Gbu :=
  { grades := Vector.replicate 3 GradeEntry.cold, supplyBase := Vector.replicate 3 0,
    worksBase := Vector.replicate 3 0, consumers := Vector.replicate 12 Consumer.cold, stepRecord := none,
    rhoPrev := none, rhoNow := { tag := none, value := 1000 } }

/-- A drive channel after a cold reset (R78, R93). -/
def DriveChannel.cold : DriveChannel :=
  { mode := .duty, baseTick := 10, period := some 100, wmin := none, idle := .low, permissive := none,
    source := .manual, staged := 0, active := 0, state := .stopped, count := 0, tick := 0, divider := 0,
    pin := .low, ttr := 600, deadband := 50, reversal := 10, minMove := 0, seatRun := 0, sub := .atRest, est := 0,
    est0 := 0, moved := 0, length := 0, remaining := 0 }

/-- DCU after a cold reset (R78). -/
def Dcu.cold : Dcu := { channels := Vector.replicate 16 DriveChannel.cold }

/-- The export configuration after a cold reset (R100). -/
def ExportConfig.cold : ExportConfig :=
  { eta := 350, capacity := 0, tolerance := 30, floorWh := 1000, devLimit := 3, recoveryPairs := 2,
    haltOnDev := false, graceSlots := 2, gridHold := none }

/-- Empty slot accumulators (R117). -/
def SlotAccumulators.zero : SlotAccumulators :=
  { energy := 0, steps := 0, allSufficient := true, lastNeff := 0 }

/-- The export demand record after a cold reset (R111). -/
def DemandRecord.cold : DemandRecord :=
  { slot := 0, state := .idle, plan := .void, nSlot := 0, cap := none, hold := false, neff := 0, gas := 0,
    gasNominal := 0, requests := Vector.replicate 12 none }

/-- EXS after a cold reset (R100, R102, R104, R107, R111, R112, R115, R117, R120, R121, R122). -/
def Exs.cold : Exs :=
  { config := ExportConfig.cold, current := Vector.replicate 96 0, nextTab := Vector.replicate 96 0,
    written := Vector.replicate 96 false, plan := .void, held := 0, grace := 0, phase := .idle, slotInHand := 0,
    curtail := none, deviations := 0, recoveries := 0, firstHalf := .notJudged, stepItems := [],
    acc := SlotAccumulators.zero, startState := .idle, startPlan := .void, record := DemandRecord.cold, log := [],
    base := 0 }

/-- A meter channel after a cold reset (R126). -/
def Meter.cold : Meter :=
  { used := false, k := 4060, limit := 65535, key := 0, litres := 1, base := 0, pendingSteps := 0, lagged := false,
    carry := 0 }

/-- HMU after a cold reset (R126, R131). -/
def Hmu.cold : Hmu := { meters := Vector.replicate 16 Meter.cold, confirmS := 5, queue := [] }

/-- A bank with every field 0 (R144). -/
def Bank.zero : Bank := { recKJ := 0, supKJ := 0, charge := 0, rem := 0, readings := 0, estimated := 0 }

/-- A suspense bank with every field 0 (R157). -/
def SuspenseBank.zero : SuspenseBank := { recKJ := 0, supKJ := 0, readings := 0, estimated := 0 }

/-- A directory entry after a cold reset (R144). -/
def DirEntry.cold : DirEntry :=
  { valid := false, key := 0, secondary := false, tariff := 0, suspended := false,
    banks := Vector.replicate 2 Bank.zero }

/-- ABU after a cold reset (R143, R144, R150, R153, R154, R157, R162). -/
def Abu.cold : Abu :=
  { period := 0, active := 0, close := .idle, closing := none, cursor := 0, emitted := 0,
    directory := Vector.replicate 256 DirEntry.cold, lookaside := [],
    tariffs := Vector.replicate 8 (Vector.replicate 8 0), bandMap := Vector.replicate 96 0,
    suspense := Vector.replicate 16 (Vector.replicate 2 SuspenseBank.zero), statements := [] }

/-- The alarm class that Table 10-1 fixes for a condition; HOST-A and HOST-B have `no` after a cold reset. -/
def fixedAlarm (n : Fin 32) : Bool :=
  n == 4 || n == 5 || n == 6 || n == 7 || n == 13 || n == 15

/-- A condition record after a cold reset (R177). -/
def CondRecord.cold (n : Fin 32) : CondRecord :=
  { active := false, count := 0, source := 0, time := Tag.zero, route := .unrouted, alarm := fixedAlarm n }

/-- CNU after a cold reset: nothing active, every output deasserted (R177, R181). -/
def Cnu.cold : Cnu :=
  { records := Vector.ofFn CondRecord.cold, attnA := false, attnB := false, alarm := false }

/-- The state after a cold reset that sampled these LSEL bits and found these levels at the event lines (R174). -/
def State.cold (lsel : BitVec 2) (levels : BitVec 8) : State :=
  { pending := [], lkp := Lkp.cold lsel, sck := Sck.cold, fiu := Fiu.cold levels, gbu := Gbu.cold, dcu := Dcu.cold,
    exs := Exs.cold, hmu := Hmu.cold, abu := Abu.cold, cnu := Cnu.cold }

/-- The machine right after reset: the cold reset (R174) with LSEL 00 and every event line LOW (DESIGN CHOICE, log
entry 12), and no command waiting. -/
def State.reset : State := State.cold 0 0

end Sys2Proof.Machine
end

