-- ==== Sys2Proof/Machine/Flags.lean ====
section
/-!
DEFINITION. The conditions and the three outputs they drive (Chapter 10): a setting event, the following of a
cause, the clearing of records, and the judgement of the outputs, which is made at every change (R181).
-/
namespace Sys2Proof.Machine

/-! ## The conditions of Table 10-1 by number -/

abbrev condLinkFrame : Fin 32 := 0
abbrev condLinkOverrun : Fin 32 := 1
abbrev condSensorFrame : Fin 32 := 2
abbrev condSampleHeld : Fin 32 := 3
abbrev condSampleFailed : Fin 32 := 4
abbrev condCountImplausible : Fin 32 := 5
abbrev condHolderLowlow : Fin 32 := 6
abbrev condHolderHighhigh : Fin 32 := 7
abbrev condFlaring : Fin 32 := 8
abbrev condPoolShort : Fin 32 := 9
abbrev condConsumerBlocked : Fin 32 := 10
abbrev condConsumerReleased : Fin 32 := 11
abbrev condExportPassive : Fin 32 := 12
abbrev condExportHalted : Fin 32 := 13
abbrev condPlanGrace : Fin 32 := 14
abbrev condPlanStarved : Fin 32 := 15
abbrev condSlotDeviant : Fin 32 := 16
abbrev condNominationClamped : Fin 32 := 17
abbrev condRetireLag : Fin 32 := 18
abbrev condDeltaTReverse : Fin 32 := 19
abbrev condUnassignedKey : Fin 32 := 20
abbrev condStatementReady : Fin 32 := 21
abbrev condCloseDone : Fin 32 := 22
abbrev condCaptureReady : Fin 32 := 23
abbrev condCaptureOverwrite : Fin 32 := 24
abbrev condExportLogReady : Fin 32 := 25

/-- TIMER0..TIMER3, conditions 26 to 29. -/
def condTimer (n : Fin 4) : Fin 32 := ⟨26 + n.1, by omega⟩

/-- Whether Table 10-1 makes the condition LEVEL; the others are LATCHED. -/
def isLevelCondition (n : Fin 32) : Bool :=
  n == 3 || n == 4 || n == 6 || n == 7 || n == 8 || n == 10 || n == 12 || n == 13 || n == 14 || n == 15 ||
    n == 21 || n == 23 || n == 25

/-! ## Records and outputs -/

/-- The three outputs judged on the records as they stand (R181). -/
def judgeOutputs (c : Cnu) : Cnu :=
  { c with
    attnA := c.records.toList.any fun r => r.active && decide (r.route = .a)
    attnB := c.records.toList.any fun r => r.active && decide (r.route = .b)
    alarm := c.records.toList.any fun r => r.active && r.alarm }

/-- Record `n` replaced, and the outputs judged again (R181). -/
def setRecord (n : Fin 32) (r : CondRecord) (c : Cnu) : Cnu :=
  judgeOutputs { c with records := put c.records n r }

/-- A count of a condition record, one higher, saturating at 255 (R177). -/
def countUp (k : Nat) : Nat := min (k + 1) 255

/-- The record entering active with this source and time (R177, R178). -/
def enterRecord (source : Nat) (time : Tag) (r : CondRecord) : CondRecord :=
  { r with active := true, count := countUp r.count, source := source, time := time }

/-- A setting event of a LATCHED record: source and time are written when it is inactive and kept when it is active,
and the count increases in either case (R177). -/
def raiseRecord (source : Nat) (time : Tag) (r : CondRecord) : CondRecord :=
  if r.active then { r with count := countUp r.count } else enterRecord source time r

/-- A LEVEL record following its cause: an entry when the cause begins, inactive with the rest kept when it ends, and
nothing while it stays as it is (R178). -/
def followRecord (cause : Bool) (source : Nat) (time : Tag) (r : CondRecord) : CondRecord :=
  if cause then (if r.active then r else enterRecord source time r) else { r with active := false }

/-- A record cleared: a LATCHED one becomes inactive, a LEVEL one keeps its active flag (R179). -/
def clearRecord (n : Fin 32) (r : CondRecord) : CondRecord :=
  { r with active := isLevelCondition n && r.active, count := 0, source := 0, time := Tag.zero }

/-- A setting event of LATCHED condition `n`. -/
def raiseCond (n : Fin 32) (source : Nat) (time : Tag) (c : Cnu) : Cnu :=
  setRecord n (raiseRecord source time c.records[n]) c

/-- LEVEL condition `n` following its cause. -/
def followCond (n : Fin 32) (cause : Bool) (source : Nat) (time : Tag) (c : Cnu) : Cnu :=
  setRecord n (followRecord cause source time c.records[n]) c

/-- The records selected by a mask cleared (R179). -/
def clearConds (mask : BitVec 32) (c : Cnu) : Cnu :=
  judgeOutputs { c with records := each c.records fun n r => if mask.getLsbD n.1 then clearRecord n r else r }

/-! ## On the whole state -/

/-- A setting event of condition `n` with this source and time. -/
def State.raise (n : Fin 32) (source : Nat) (time : Tag) (s : State) : State :=
  { s with cnu := raiseCond n source time s.cnu }

/-- A setting event with the position at which it is taken as its time (R6). -/
def State.raiseHere (n : Fin 32) (source : Nat) (s : State) : State := s.raise n source s.sck.pos

/-- LEVEL condition `n` following its cause. -/
def State.follow (n : Fin 32) (cause : Bool) (source : Nat) (time : Tag) (s : State) : State :=
  { s with cnu := followCond n cause source time s.cnu }

end Sys2Proof.Machine
end

