-- ==== Sys2Proof/Machine/Operands.lean ====
section
/-!
DEFINITION. The encoding of payloads (R165): numbers in whole bytes, high byte first, presence bytes and dependent
fields, the two CRCs, and for every request kind the reading of its payload into fields, which answers `none` where
the size is not one that the kind permits (R168), together with the writing of those fields as a payload.
-/
namespace Sys2Proof.Machine

/-! ## Bytes -/

/-- `n` in `w` bytes, high byte first. -/
def be : Nat → Nat → List Byte
  | 0, _ => []
  | w + 1, n => be w (n / 256) ++ [BitVec.ofNat 8 n]

/-- A signed number in `w` bytes of two's complement, high byte first. -/
def beInt (w : Nat) (z : Int) : List Byte := be w (z % (256 ^ w : Nat)).toNat

/-- A yes-or-no field. R165 numbers named values from 0 in the order they are listed, and every table lists yes first
(log entry 9). -/
def encYes (b : Bool) : List Byte := [if b then 0 else 1]

/-- A field that may be absent, after its presence byte (R165). -/
def encOpt {α : Type} (enc : α → List Byte) : Option α → List Byte
  | none => [0]
  | some x => 1 :: enc x

/-- A dependent field: omitted where it is absent (R165). -/
def encDep {α : Type} (enc : α → List Byte) : Option α → List Byte
  | none => []
  | some x => enc x

/-- A time tag: frame, slot, step. -/
def encTag (t : Tag) : List Byte := be 2 t.frame ++ be 1 t.slot.1 ++ be 2 t.step

/-- One step of a CRC register on one bit shifted out. -/
def crcShift {w : Nat} (poly c : BitVec w) : BitVec w := if c.msb then (c <<< 1) ^^^ poly else c <<< 1

/-- A CRC register after one byte, most significant bit first. -/
def crcByte {w : Nat} (poly : BitVec w) (c : BitVec w) (b : Byte) : BitVec w :=
  (List.range 8).foldl (fun c _ => crcShift poly c) (c ^^^ (b.setWidth w <<< (w - 8)))

/-- The CRC-16 of a link frame, over LEN through the last payload byte (Table 9-1). -/
def crc16 (bytes : List Byte) : BitVec 16 := bytes.foldl (crcByte 0x1021) 0xFFFF

/-- The CRC-8 of a sensor record, over POINT..STATUS (Table 9-2). -/
def crc8 (bytes : List Byte) : BitVec 8 := bytes.foldl (crcByte 0x07) 0

/-! ## Reading fields -/

/-- A field of one byte. -/
def u8 : List Byte → Option (Nat × List Byte)
  | a :: p => some (a.toNat, p)
  | _ => none

/-- A signed field of one byte. -/
def i8 : List Byte → Option (Int × List Byte)
  | a :: p => some (a.toInt, p)
  | _ => none

/-- A field of two bytes. -/
def u16 : List Byte → Option (Nat × List Byte)
  | a :: b :: p => some (a.toNat * 256 + b.toNat, p)
  | _ => none

/-- A field of three bytes. -/
def u24 : List Byte → Option (Nat × List Byte)
  | a :: b :: c :: p => some ((a.toNat * 256 + b.toNat) * 256 + c.toNat, p)
  | _ => none

/-- A field of four bytes. -/
def u32 : List Byte → Option (Nat × List Byte)
  | a :: b :: c :: d :: p => some (((a.toNat * 256 + b.toNat) * 256 + c.toNat) * 256 + d.toNat, p)
  | _ => none

/-- A field after its presence byte; another presence byte makes the size wrong (R165). -/
def optional {α : Type} (f : List Byte → Option (α × List Byte)) : List Byte → Option (Option α × List Byte)
  | b :: p => if b = 0 then some (none, p) else if b = 1 then (f p).map fun x => (some x.1, x.2) else none
  | [] => none

/-- A dependent field, present when `c` holds. -/
def dependent {α : Type} (c : Bool) (f : List Byte → Option (α × List Byte)) (p : List Byte) :
    Option (Option α × List Byte) :=
  if c then (f p).map fun x => (some x.1, x.2) else some (none, p)

/-- `n` fields of one kind. -/
def many {α : Type} (f : List Byte → Option (α × List Byte)) : Nat → List Byte → Option (List α × List Byte)
  | 0, p => some ([], p)
  | n + 1, p => do
    let (x, p) ← f p
    let (xs, p) ← many f n p
    some (x :: xs, p)

/-- The payload ends here. -/
def ending {α : Type} (x : α) : List Byte → Option α
  | [] => some x
  | _ => none

/-! ## Payloads of a few plain fields -/

/-- A request that carries no fields. -/
def parseNone (p : List Byte) : Option Unit := ending () p

/-- One field of one byte. -/
def parse8 (p : List Byte) : Option Nat := do
  let (a, p) ← u8 p
  ending a p

/-- Two fields of one byte. -/
def parse88 (p : List Byte) : Option (Nat × Nat) := do
  let (a, p) ← u8 p
  let (b, p) ← u8 p
  ending (a, b) p

/-- Three fields of one byte. -/
def parse888 (p : List Byte) : Option (Nat × Nat × Nat) := do
  let (a, p) ← u8 p
  let (b, p) ← u8 p
  let (c, p) ← u8 p
  ending (a, b, c) p

/-- A field of one byte and one of two. -/
def parse816 (p : List Byte) : Option (Nat × Nat) := do
  let (a, p) ← u8 p
  let (b, p) ← u16 p
  ending (a, b) p

/-- A field of one byte and one of three. -/
def parse824 (p : List Byte) : Option (Nat × Nat) := do
  let (a, p) ← u8 p
  let (b, p) ← u24 p
  ending (a, b) p

/-- One field of three bytes: an account key. -/
def parse24 (p : List Byte) : Option Nat := do
  let (a, p) ← u24 p
  ending a p

/-- A field of three bytes and one of one. -/
def parse248 (p : List Byte) : Option (Nat × Nat) := do
  let (a, p) ← u24 p
  let (b, p) ← u8 p
  ending (a, b) p

/-- One field of four bytes. -/
def parse32 (p : List Byte) : Option Nat := do
  let (a, p) ← u32 p
  ending a p

/-- One mask of 32 bits (R179, R182). -/
def parseMask (p : List Byte) : Option (BitVec 32) := (parse32 p).map (BitVec.ofNat 32)

/-- One signed byte (R8). -/
def parseSigned (p : List Byte) : Option Int := do
  let (a, p) ← i8 p
  ending a p

/-! ## CLOCK-SET (Table 1-11) -/

/-- The fields of CLOCK-SET. -/
structure ClockSetFields where
  slotS : Nat
  stepS : Nat
  frame : Nat
  slot : Nat
  step : Nat
deriving DecidableEq, Repr

def parseClockSet (p : List Byte) : Option ClockSetFields := do
  let (slotS, p) ← u16 p
  let (stepS, p) ← u8 p
  let (frame, p) ← u16 p
  let (slot, p) ← u8 p
  let (step, p) ← u16 p
  ending ⟨slotS, stepS, frame, slot, step⟩ p

def encodeClockSet (f : ClockSetFields) : List Byte :=
  be 2 f.slotS ++ be 1 f.stepS ++ be 2 f.frame ++ be 1 f.slot ++ be 2 f.step

/-! ## TIMER-SET (R10) -/

/-- The fields of TIMER-SET; a slot of 96 is ANY (R165). -/
structure TimerSetFields where
  timer : Nat
  slot : Nat
  offset : Nat
  again : Nat
  unit : Option Nat
deriving DecidableEq, Repr

def parseTimerSet (p : List Byte) : Option TimerSetFields := do
  let (timer, p) ← u8 p
  let (slot, p) ← u8 p
  let (offset, p) ← u16 p
  let (again, p) ← u8 p
  let (unit, p) ← optional u8 p
  ending ⟨timer, slot, offset, again, unit⟩ p

def encodeTimerSet (f : TimerSetFields) : List Byte :=
  be 1 f.timer ++ be 1 f.slot ++ be 2 f.offset ++ be 1 f.again ++ encOpt (be 1) f.unit

/-! ## CAPTURE-SET (R13) -/

/-- The fields of CAPTURE-SET; line and edge depend on the trigger kind EVENT, number 0. -/
structure CaptureSetFields where
  unit : Nat
  trigger : Nat
  line : Option Nat
  edge : Option Nat
  snapshot : Option Nat
  mode : Nat
deriving DecidableEq, Repr

/-- Whether a trigger kind takes line and edge: EVENT, and a number that names no kind, which is judged as the first
value of the list (R165). -/
def triggerTakesLine (k : Nat) : Bool := k == 0 || 3 < k

def parseCaptureSet (p : List Byte) : Option CaptureSetFields := do
  let (unit, p) ← u8 p
  let (trigger, p) ← u8 p
  let (line, p) ← dependent (triggerTakesLine trigger) u8 p
  let (edge, p) ← dependent (triggerTakesLine trigger) u8 p
  let (snapshot, p) ← optional u8 p
  let (mode, p) ← u8 p
  ending ⟨unit, trigger, line, edge, snapshot, mode⟩ p

def encodeCaptureSet (f : CaptureSetFields) : List Byte :=
  be 1 f.unit ++ be 1 f.trigger ++ encDep (be 1) f.line ++ encDep (be 1) f.edge ++ encOpt (be 1) f.snapshot ++
    be 1 f.mode

/-! ## PULSE-SET (Table 2-2) and POINT-SET (R30) -/

/-- The fields of PULSE-SET. -/
structure PulseSetFields where
  channel : Nat
  width : Nat
  role : Nat
  scale : Nat
  limit : Nat
deriving DecidableEq, Repr

def parsePulseSet (p : List Byte) : Option PulseSetFields := do
  let (channel, p) ← u8 p
  let (width, p) ← u8 p
  let (role, p) ← u8 p
  let (scale, p) ← u16 p
  let (limit, p) ← u24 p
  ending ⟨channel, width, role, scale, limit⟩ p

def encodePulseSet (f : PulseSetFields) : List Byte :=
  be 1 f.channel ++ be 1 f.width ++ be 1 f.role ++ be 2 f.scale ++ be 3 f.limit

/-- The fields of POINT-SET. -/
structure PointSetFields where
  point : Nat
  role : Nat
  holdAfter : Nat
  failAfter : Nat
deriving DecidableEq, Repr

def parsePointSet (p : List Byte) : Option PointSetFields := do
  let (point, p) ← u8 p
  let (role, p) ← u8 p
  let (holdAfter, p) ← u16 p
  let (failAfter, p) ← u16 p
  ending ⟨point, role, holdAfter, failAfter⟩ p

def encodePointSet (f : PointSetFields) : List Byte :=
  be 1 f.point ++ be 1 f.role ++ be 2 f.holdAfter ++ be 2 f.failAfter

/-! ## GRADE-SET (Table 3-1) and HOLDER-SET (Table 3-2) -/

/-- The fields of GRADE-SET. -/
structure GradeSetFields where
  grade : Nat
  use : Nat
  cv : Nat
  agMax : Nat
  retain : Nat
  flareCapacity : Nat
  flareChannel : Option Nat
deriving DecidableEq, Repr

def parseGradeSet (p : List Byte) : Option GradeSetFields := do
  let (grade, p) ← u8 p
  let (use, p) ← u8 p
  let (cv, p) ← u16 p
  let (agMax, p) ← u24 p
  let (retain, p) ← u24 p
  let (flareCapacity, p) ← u24 p
  let (flareChannel, p) ← optional u8 p
  ending ⟨grade, use, cv, agMax, retain, flareCapacity, flareChannel⟩ p

def encodeGradeSet (f : GradeSetFields) : List Byte :=
  be 1 f.grade ++ be 1 f.use ++ be 2 f.cv ++ be 3 f.agMax ++ be 3 f.retain ++ be 3 f.flareCapacity ++
    encOpt (be 1) f.flareChannel

/-- The fields of HOLDER-SET. -/
structure HolderSetFields where
  grade : Nat
  target : Nat
  gain : Nat
  theta1 : Nat
  theta2 : Nat
  theta3 : Nat
  theta4 : Nat
  hysteresis : Nat
deriving DecidableEq, Repr

def parseHolderSet (p : List Byte) : Option HolderSetFields := do
  let (grade, p) ← u8 p
  let (target, p) ← u16 p
  let (gain, p) ← u16 p
  let (theta1, p) ← u16 p
  let (theta2, p) ← u16 p
  let (theta3, p) ← u16 p
  let (theta4, p) ← u16 p
  let (hysteresis, p) ← u16 p
  ending ⟨grade, target, gain, theta1, theta2, theta3, theta4, hysteresis⟩ p

def encodeHolderSet (f : HolderSetFields) : List Byte :=
  be 1 f.grade ++ be 2 f.target ++ be 2 f.gain ++ be 2 f.theta1 ++ be 2 f.theta2 ++ be 2 f.theta3 ++ be 2 f.theta4 ++
    be 2 f.hysteresis

/-! ## CONSUMER-SET (Table 4-2) -/

/-- The fields of CONSUMER-SET: Smax depends on the supplementary channel, wc on the kind POWER, number 1. -/
structure ConsumerSetFields where
  consumer : Nat
  kind : Nat
  tier : Nat
  mc : Nat
  xc : Nat
  dc : Nat
  main : Option Nat
  supp : Option Nat
  smax : Option Nat
  weight : Option Nat
deriving DecidableEq, Repr

def parseConsumerSet (p : List Byte) : Option ConsumerSetFields := do
  let (consumer, p) ← u8 p
  let (kind, p) ← u8 p
  let (tier, p) ← u8 p
  let (mc, p) ← u24 p
  let (xc, p) ← u24 p
  let (dc, p) ← u24 p
  let (main, p) ← optional u8 p
  let (supp, p) ← optional u8 p
  let (smax, p) ← dependent supp.isSome u24 p
  let (weight, p) ← dependent (kind == 1) u8 p
  ending ⟨consumer, kind, tier, mc, xc, dc, main, supp, smax, weight⟩ p

def encodeConsumerSet (f : ConsumerSetFields) : List Byte :=
  be 1 f.consumer ++ be 1 f.kind ++ be 1 f.tier ++ be 3 f.mc ++ be 3 f.xc ++ be 3 f.dc ++ encOpt (be 1) f.main ++
    encOpt (be 1) f.supp ++ encDep (be 3) f.smax ++ encDep (be 1) f.weight

/-! ## DRIVE-SET (Table 5-2) -/

/-- The pair fields of DRIVE-SET, present for the mode RAISE. -/
structure PairFields where
  ttr : Nat
  deadband : Nat
  reversal : Nat
  minMove : Nat
  seatRun : Nat
deriving DecidableEq, Repr

/-- The fields of DRIVE-SET: N, Wmin and the pair fields depend on the mode, the polarity on the permissive line. -/
structure DriveSetFields where
  channel : Nat
  mode : Nat
  baseTick : Nat
  period : Option Nat
  wmin : Option Nat
  idle : Nat
  line : Option Nat
  polarity : Option Nat
  source : Nat
  pair : Option PairFields
deriving DecidableEq, Repr

/-- The five pair fields. -/
def pairFields (p : List Byte) : Option (PairFields × List Byte) := do
  let (ttr, p) ← u16 p
  let (deadband, p) ← u16 p
  let (reversal, p) ← u16 p
  let (minMove, p) ← u16 p
  let (seatRun, p) ← u16 p
  some (⟨ttr, deadband, reversal, minMove, seatRun⟩, p)

def parseDriveSet (p : List Byte) : Option DriveSetFields := do
  let (channel, p) ← u8 p
  let (mode, p) ← u8 p
  let (baseTick, p) ← u8 p
  let (period, p) ← dependent (mode != 3) u16 p
  let (wmin, p) ← dependent (mode == 1) u16 p
  let (idle, p) ← u8 p
  let (line, p) ← optional u8 p
  let (polarity, p) ← dependent line.isSome u8 p
  let (source, p) ← u8 p
  let (pair, p) ← dependent (mode == 3) pairFields p
  ending ⟨channel, mode, baseTick, period, wmin, idle, line, polarity, source, pair⟩ p

/-- The pair fields as bytes. -/
def encodePair (f : PairFields) : List Byte :=
  be 2 f.ttr ++ be 2 f.deadband ++ be 2 f.reversal ++ be 2 f.minMove ++ be 2 f.seatRun

def encodeDriveSet (f : DriveSetFields) : List Byte :=
  be 1 f.channel ++ be 1 f.mode ++ be 1 f.baseTick ++ encDep (be 2) f.period ++ encDep (be 2) f.wmin ++ be 1 f.idle ++
    encOpt (be 1) f.line ++ encDep (be 1) f.polarity ++ be 1 f.source ++ encDep encodePair f.pair

/-! ## EXPORT-SET (Table 6-1), NOMINATE and NOMINATE-AMEND (R102, R103) -/

/-- The fields of EXPORT-SET. -/
structure ExportSetFields where
  eta : Nat
  capacity : Nat
  tolerance : Nat
  floorWh : Nat
  devLimit : Nat
  recoveryPairs : Nat
  haltOnDev : Nat
  graceSlots : Nat
  gridHold : Option Nat
deriving DecidableEq, Repr

def parseExportSet (p : List Byte) : Option ExportSetFields := do
  let (eta, p) ← u16 p
  let (capacity, p) ← u24 p
  let (tolerance, p) ← u16 p
  let (floorWh, p) ← u24 p
  let (devLimit, p) ← u8 p
  let (recoveryPairs, p) ← u8 p
  let (haltOnDev, p) ← u8 p
  let (graceSlots, p) ← u8 p
  let (gridHold, p) ← optional u8 p
  ending ⟨eta, capacity, tolerance, floorWh, devLimit, recoveryPairs, haltOnDev, graceSlots, gridHold⟩ p

def encodeExportSet (f : ExportSetFields) : List Byte :=
  be 2 f.eta ++ be 3 f.capacity ++ be 2 f.tolerance ++ be 3 f.floorWh ++ be 1 f.devLimit ++ be 1 f.recoveryPairs ++
    be 1 f.haltOnDev ++ be 1 f.graceSlots ++ encOpt (be 1) f.gridHold

/-- The fields of NOMINATE and of NOMINATE-AMEND. -/
structure NominateFields where
  first : Nat
  count : Nat
  entries : List Nat
deriving DecidableEq, Repr

/-- A number of entries that differs from the count is refused with LENGTH (R102, R103). -/
def parseNominate (p : List Byte) : Option NominateFields := do
  let (first, p) ← u8 p
  let (count, p) ← u8 p
  let (entries, p) ← many u24 count p
  ending ⟨first, count, entries⟩ p

def encodeNominate (f : NominateFields) : List Byte :=
  be 1 f.first ++ be 1 f.count ++ f.entries.flatMap (be 3)

/-! ## METER-SET (R127), TARIFF-SET (R153), BANDMAP-SET (R154) -/

/-- The fields of METER-SET. -/
structure MeterSetFields where
  meter : Nat
  use : Nat
  k : Nat
  limit : Nat
  key : Nat
deriving DecidableEq, Repr

def parseMeterSet (p : List Byte) : Option MeterSetFields := do
  let (meter, p) ← u8 p
  let (use, p) ← u8 p
  let (k, p) ← u16 p
  let (limit, p) ← u24 p
  let (key, p) ← u24 p
  ending ⟨meter, use, k, limit, key⟩ p

def encodeMeterSet (f : MeterSetFields) : List Byte :=
  be 1 f.meter ++ be 1 f.use ++ be 2 f.k ++ be 3 f.limit ++ be 3 f.key

/-- The fields of TARIFF-SET: the tariff number and its 8 prices. -/
structure TariffSetFields where
  tariff : Nat
  prices : List Nat
deriving DecidableEq, Repr

def parseTariffSet (p : List Byte) : Option TariffSetFields := do
  let (tariff, p) ← u8 p
  let (prices, p) ← many u24 8 p
  ending ⟨tariff, prices⟩ p

def encodeTariffSet (f : TariffSetFields) : List Byte := be 1 f.tariff ++ f.prices.flatMap (be 3)

/-- The fields of BANDMAP-SET. -/
structure BandmapSetFields where
  first : Nat
  count : Nat
  bands : List Nat
deriving DecidableEq, Repr

/-- A number of bands that differs from the count is refused with LENGTH (R154). -/
def parseBandmapSet (p : List Byte) : Option BandmapSetFields := do
  let (first, p) ← u8 p
  let (count, p) ← u8 p
  let (bands, p) ← many u8 count p
  ending ⟨first, count, bands⟩ p

def encodeBandmapSet (f : BandmapSetFields) : List Byte :=
  be 1 f.first ++ be 1 f.count ++ f.bands.flatMap (be 1)

/-! ## Named values by number (R165) -/

/-- An index below `n`, where the number is one. -/
def asFin (n k : Nat) : Option (Fin n) := if h : k < n then some ⟨k, h⟩ else none

/-- The pulse roles: NONE 0, GAS-SUPPLY 1 to 3, GAS-WORKS 4 to 6, HEAT-FLOW 7 to 22, EXPORT-ENERGY 23. -/
def pulseRoleOf (k : Nat) : Option PulseRole :=
  if k = 0 then some .unassigned
  else if k < 4 then (asFin 3 (k - 1)).map .gasSupply
  else if k < 7 then (asFin 3 (k - 4)).map .gasWorks
  else if k < 23 then (asFin 16 (k - 7)).map .heatFlow
  else if k = 23 then some .exportEnergy
  else none

/-- The number of a pulse role. -/
def pulseRoleCode : PulseRole → Nat
  | .unassigned => 0
  | .gasSupply g => 1 + g.1
  | .gasWorks g => 4 + g.1
  | .heatFlow m => 7 + m.1
  | .exportEnergy => 23

/-- The sample roles: NONE 0, HOLDER-LEVEL 1 to 3, CV 4 to 6, SUPPLY-TEMP 7 to 22, RETURN-TEMP 23 to 38. -/
def pointRoleOf (k : Nat) : Option PointRole :=
  if k = 0 then some .unassigned
  else if k < 4 then (asFin 3 (k - 1)).map .holderLevel
  else if k < 7 then (asFin 3 (k - 4)).map .calorific
  else if k < 23 then (asFin 16 (k - 7)).map .supplyTemp
  else (asFin 16 (k - 23)).map .returnTemp

/-- The number of a sample role. -/
def pointRoleCode : PointRole → Nat
  | .unassigned => 0
  | .holderLevel g => 1 + g.1
  | .calorific g => 4 + g.1
  | .supplyTemp m => 7 + m.1
  | .returnTemp m => 23 + m.1

/-- The drive sources: CONSUMER-MAIN n is n, CONSUMER-SUPP n is 12 + n, FLARE 24 to 26, MANUAL 27. -/
def driveSourceOf (k : Nat) : Option DriveSource :=
  if k < 12 then (asFin 12 k).map .consumerMain
  else if k < 24 then (asFin 12 (k - 12)).map .consumerSupp
  else if k < 27 then (asFin 3 (k - 24)).map .flare
  else if k = 27 then some .manual
  else none

/-- The number of a drive source. -/
def driveSourceCode : DriveSource → Nat
  | .consumerMain n => n.1
  | .consumerSupp n => 12 + n.1
  | .flare g => 24 + g.1
  | .manual => 27

/-- USED 0, UNUSED 1; also IN 0, OUT 1, and yes 0, no 1: the first of two named values is `true`. -/
def firstOfTwo (k : Nat) : Option Bool := if k = 0 then some true else if k = 1 then some false else none

/-- ONCE 0, EACH-SLOT 1, EACH-FRAME 2 (R10). -/
def timerRepeatOf (k : Nat) : Option TimerRepeat :=
  if k = 0 then some .once else if k = 1 then some .eachSlot else if k = 2 then some .eachFrame else none

/-- RISING 0, FALLING 1, BOTH 2 (R13). -/
def edgeOf (k : Nat) : Option Edge :=
  if k = 0 then some .rising else if k = 1 then some .falling else if k = 2 then some .both else none

/-- HEAT 0, POWER 1, TOWNGAS 2 (Table 4-1). -/
def consumerKindOf (k : Nat) : Option ConsumerKind :=
  if k = 0 then some .heat else if k = 1 then some .power else if k = 2 then some .towngas else none

/-- SINGLE 0, CASCADE 1 (R18). -/
def widthOf (k : Nat) : Option Width :=
  if k = 0 then some .single else if k = 1 then some .cascade else none

/-- DUTY 0, PULSE 1, CASCADE 2, RAISE 3 (Table 5-1). -/
def driveModeOf (k : Nat) : Option DriveMode :=
  if k = 0 then some .duty else if k = 1 then some .pulse else if k = 2 then some .cascade
  else if k = 3 then some .raise else none

/-- LOW 0, HIGH 1, as Table 5-1 lists the idle level. -/
def levelOfCode (k : Nat) : Option Level :=
  if k = 0 then some .low else if k = 1 then some .high else none

/-- HIGH 0, LOW 1, as Tables 5-1 and 5-2 list the polarity. -/
def polarityOf (k : Nat) : Option Level :=
  if k = 0 then some .high else if k = 1 then some .low else none

/-- NONE 0, A 1, B 2 (R177). -/
def routeOf (k : Nat) : Option Route :=
  if k = 0 then some .unrouted else if k = 1 then some .a else if k = 2 then some .b else none

end Sys2Proof.Machine
end

