-- ==== Sys2Proof/Machine/Ops.lean ====
section
/-!
DEFINITION. The operations that several blocks share: taking a request frame and sending its reply (R166 to R169),
the schedule position (R1, R5), pulse counts and bindings by role (R18, R21, R23), event line levels, and captures
(R13 to R16).
-/
namespace Sys2Proof.Machine

/-! ## Frames and replies -/

/-- Whether the frame now complete carries the overrun mark: the mark itself while collecting; for a frame whose start
byte has not been taken by a command of its own, what the start byte would have set (R166; log entry 6). -/
def linkOverrun (l : Lkp) : Bool :=
  match l.rx with
  | .hunting => l.answer
  | .collecting _ => l.overrun

/-- The receiver back in HUNTING, the overrun mark gone with the frame it belonged to (R166). -/
def closeFrame (s : State) : State := { s with lkp := { s.lkp with rx := .hunting, overrun := false } }

/-- The KIND byte of the reply to a request of this kind: the kind plus 80H (R168); a free value where no byte holds
that (log entry 11). -/
def replyKind (kind : Byte) : Byte := if kind.msb then Config.wideReplyKind kind else kind + 0x80

/-- The request is answered: the answer mark is set and the reply is being sent (R166, R168). -/
def State.answer (kind : Byte) (code : ResultCode) (payload : List Byte) (s : State) : State :=
  { s with
    lkp := { s.lkp with rx := .hunting, overrun := false, answer := true,
                        reply := some { kind := replyKind kind, code := code, payload := payload } } }

/-- A frame discarded for overrun: LINK-OVERRUN is raised with the KIND byte as source, and nothing else changes
(R167). -/
def overrunFrame (kind : Byte) (s : State) : State := (closeFrame s).raiseHere condLinkOverrun kind.toNat

/-- A frame discarded for a cause of Table 10-1's LINK-FRAME: 1 BAD-CRC, 2 BAD-LEN, 3 GAP, 4 STOP (R166). -/
def breakFrame (cause : Nat) (s : State) : State := (closeFrame s).raiseHere condLinkFrame cause

/-- The reply to a judged request: a refused one leaves the state as it was (R169). -/
def reply (kind : Byte) (a : Answer) (s : State) : State :=
  match a with
  | .done code payload t => t.answer kind code payload
  | .refuse code payload => s.answer kind code payload

/-- A complete frame of a known kind: discarded for overrun (R167), else answered LENGTH where the payload size does
not fit, else judged by the owning rule (R168). -/
def request {α : Type} (kind : Byte) (parse : List Byte → Option α) (judge : α → State → Answer) (p : List Byte)
    (s : State) : Host.Outcome State Fault Refusal :=
  if linkOverrun s.lkp then .next (overrunFrame kind s)
  else match parse p with
    | none => .next (s.answer kind .length [])
    | some f => .next (reply kind (judge f s) s)

/-- Refused with RANGE and this item index (R168). -/
def rangeItem (item : Nat) : Answer := .refuse .range [BitVec.ofNat 8 item]

/-- Refused with a code that carries no payload (R168). -/
def refused (code : ResultCode) : Answer := .refuse code []

/-- Done with OK, this payload and this state. -/
def okWith (payload : List Byte) (s : State) : Answer := .done .ok payload s

/-- Refused with LOCKED in RUN, before any check of the fields (R170). -/
def unlessRun (s : State) (a : Answer) : Answer :=
  match s.lkp.mode with
  | .run => refused .locked
  | .setup => a

/-- A read by first number and count: both in range, and their sum at most `n`; item 1 is the first number, item 2 the
count and the sum (log entry 18). -/
def checkRange (n maxCount first count : Nat) (a : Answer) : Answer :=
  if n ≤ first then rangeItem 1
  else if count = 0 ∨ maxCount < count ∨ n < first + count then rangeItem 2
  else a

/-! ## The schedule position -/

/-- Steps per slot (R1). -/
def stepsPerSlot (c : Sck) : Nat := c.slotS / c.stepS

/-- The elapsed count of the current step in milliseconds: below end count × 1,000 until the step ends, and 0 while the
clock is STOPPED (R3, R6). -/
def elapsedCount (c : Sck) : Nat :=
  if c.running then min (c.ticks * 1000 + c.phaseMs) (c.endCount * 1000 - 1) else 0

/-- Whether the step named by the position is the last of its slot (R5). -/
def lastOfSlot (c : Sck) : Bool := decide (stepsPerSlot c ≤ c.pos.step + 1)

/-- The position one step on (R5): slot 95 is followed by slot 0 of the next frame, mod 65,536. -/
def nextTag (c : Sck) : Tag :=
  if lastOfSlot c then
    { frame := if c.pos.slot = 95 then (c.pos.frame + 1) % 65536 else c.pos.frame, slot := c.pos.slot + 1, step := 0 }
  else { c.pos with step := c.pos.step + 1 }

/-- A step boundary as the blocks receive it (R5): the tags of the step that has ended and of the step that begins,
the elapsed seconds of the ended step, its slot-end mark, its frame-rollover mark and the steps per slot. -/
structure Boundary where
  ended : Tag
  begins : Tag
  es : Nat
  slotEnd : Bool
  rollover : Bool
  stepsPerSlot : Nat
deriving DecidableEq, Repr

/-- The boundary at the end of the step in progress (R4, R5). -/
def boundaryOf (c : Sck) : Boundary :=
  { ended := c.pos, begins := nextTag c, es := c.endCount, slotEnd := lastOfSlot c,
    rollover := lastOfSlot c && decide (c.pos.slot = 95), stepsPerSlot := stepsPerSlot c }

/-! ## Pulse counts and bindings -/

/-- Whether a channel is the odd partner of a cascaded pair: then it is no channel of its own (R18). -/
def isPulsePartner (v : Vector PulseChannel 24) (ch : Fin 24) : Bool :=
  decide (ch.1 % 2 = 1) && decide (v[ch - 1].width = .cascade)

/-- Whether a channel is the even channel of a cascaded pair (R18). -/
def isCascaded (v : Vector PulseChannel 24) (ch : Fin 24) : Bool :=
  decide (ch.1 % 2 = 0) && decide (v[ch].width = .cascade)

/-- The present count of a channel: of a cascaded pair, 32 bits, its odd half the upper one (R18). -/
def countOf (v : Vector PulseChannel 24) (ch : Fin 24) : Nat :=
  if isCascaded v ch then v[ch + 1].counter * 65536 + v[ch].counter else v[ch].counter

/-- The range of a channel's count (R21). -/
def countRange (v : Vector PulseChannel 24) (ch : Fin 24) : Nat :=
  if isCascaded v ch then 4294967296 else 65536

/-- The pulses counted since a baseline, reduced to the range of the channel (R21). -/
def deltaOf (v : Vector PulseChannel 24) (ch : Fin 24) (base : Nat) : Nat :=
  (countOf v ch + (countRange v ch - base % countRange v ch)) % countRange v ch

/-- The channel that holds a role: the lowest-numbered one, an odd partner not counted (R23). -/
def holderOf (v : Vector PulseChannel 24) (role : PulseRole) : Option (Fin 24) :=
  (List.finRange 24).find? fun ch => decide (v[ch].role = role) && !isPulsePartner v ch

/-- The point that holds a role: the lowest-numbered one (R30). -/
def pointOf (v : Vector SamplePoint 32) (role : PointRole) : Option (Fin 32) :=
  (List.finRange 32).find? fun sp => decide (v[sp].role = role)

/-! ## Captures -/

/-- A record appended to the capture log: against a full log the oldest is removed and CAPTURE-OVERWRITE raised;
CAPTURE-READY enters active with the first record (R16). -/
def appendCapture (r : CaptureRecord) (s : State) : State :=
  if s.sck.log.length < Config.captureLogSize then
    ({ s with sck := { s.sck with log := s.sck.log ++ [r] } }).follow condCaptureReady true r.unit.1 s.sck.pos
  else
    (({ s with sck := { s.sck with log := s.sck.log.tail ++ [r] } }).follow condCaptureReady true r.unit.1
      s.sck.pos).raise condCaptureOverwrite r.unit.1 s.sck.pos

/-- The record a trigger of a unit forms now (R14). -/
def captureRecord (u : Fin 4) (cause : CaptureCause) (s : State) : CaptureRecord :=
  { unit := u, cause := cause, pos := s.sck.pos, ms := elapsedCount s.sck, running := s.sck.running,
    snapshot := s.sck.units[u].snapshot.map fun ch => (ch, countOf s.fiu.pulses ch) }

/-- A trigger of a capture unit: an ARMED unit forms a record and applies its mode; an IDLE unit does nothing (R14). -/
def triggerUnit (u : Fin 4) (cause : CaptureCause) (s : State) : State :=
  if s.sck.units[u].armed then
    let t := appendCapture (captureRecord u cause s) s
    { t with sck := { t.sck with units := put t.sck.units u { t.sck.units[u] with armed := t.sck.units[u].continuous } } }
  else s

/-- Every unit whose trigger satisfies `p`, in ascending number, triggered (log entry 13). -/
def triggerUnits (p : Trigger → Bool) (cause : CaptureCause) (s : State) : State :=
  (List.finRange 4).foldl (fun s u => if p s.sck.units[u].trigger then triggerUnit u cause s else s) s

/-! ## Drive channels as other blocks read them -/

/-- Whether a channel is the member of its even partner (R79). -/
def isMember (v : Vector DriveChannel 16) (ch : Fin 16) : Bool :=
  decide (ch.1 % 2 = 1) && (decide (v[ch - 1].mode = .cascade) || decide (v[ch - 1].mode = .raise))

/-- The state of a channel as other blocks read it: a member has the state of its even channel (R79, R89). -/
def channelState (v : Vector DriveChannel 16) (ch : Fin 16) : DriveState :=
  if isMember v ch then v[ch - 1].state else v[ch].state

/-- The source of a channel for the MODE-START checks and for positions: a member has none (R79). -/
def channelSource (v : Vector DriveChannel 16) (ch : Fin 16) : Option DriveSource :=
  if isMember v ch then none else some v[ch].source

/-! ## Consumers -/

/-- A consumer is defined while its main drive channel is present (section 4.1). -/
def Consumer.defined (c : Consumer) : Bool := c.main.isSome

/-- Whether a consumer is a defined POWER consumer. -/
def Consumer.isPower (c : Consumer) : Bool := c.defined && decide (c.kind = .power)

/-- The defined POWER consumers in ascending number. -/
def powerConsumers (v : Vector Consumer 12) : List (Fin 12) := (List.finRange 12).filter fun n => v[n].isPower

end Sys2Proof.Machine
end

