-- ==== Sys2Proof/Machine/Replies.lean ====
section
/-!
DEFINITION. The payloads of replies: named values as bytes numbered from 0 in the order of the owning table, records
field by field in the order of the owning list, each number in the fewest whole bytes that hold its widest range
(R165; log entry 10).
-/
namespace Sys2Proof.Machine

/-! ## Named values -/

/-- A named value as its byte. -/
def encCode (k : Nat) : List Byte := be 1 k

def Mode.code : Mode → Nat
  | .setup => 0
  | .run => 1

def Level.code : Level → Nat
  | .low => 0
  | .high => 1

/-- The clock state: STOPPED 0, RUNNING 1, in the order of R1 (log entry 9). -/
def runningCode (running : Bool) : Nat := if running then 1 else 0

/-- IDLE 0, ARMED 1, of a timer or a capture unit (R10, R13). -/
def armedCode (armed : Bool) : Nat := if armed then 1 else 0

def TimerRepeat.code : TimerRepeat → Nat
  | .once => 0
  | .eachSlot => 1
  | .eachFrame => 2

def Edge.code : Edge → Nat
  | .rising => 0
  | .falling => 1
  | .both => 2

def ExportState.code : ExportState → Nat
  | .idle => 0
  | .armed => 1
  | .active => 2
  | .passive => 3
  | .halted => 4

def Width.code : Width → Nat
  | .single => 0
  | .cascade => 1

def Quality.code : Quality → Nat
  | .empty => 0
  | .good => 1
  | .held => 2
  | .failed => 3

def Band.code : Band → Nat
  | .lowlow => 0
  | .low => 1
  | .normal => 2
  | .high => 3
  | .highhigh => 4

def ConsumerKind.code : ConsumerKind → Nat
  | .heat => 0
  | .power => 1
  | .towngas => 2

def ConsumerState.code : ConsumerState → Nat
  | .ready => 0
  | .blocked => 1
  | .out => 2

def DriveMode.code : DriveMode → Nat
  | .duty => 0
  | .pulse => 1
  | .cascade => 2
  | .raise => 3

def DriveState.code : DriveState → Nat
  | .stopped => 0
  | .running => 1
  | .blocked => 2

def PairState.code : PairState → Nat
  | .atRest => 0
  | .raising => 1
  | .lowering => 2
  | .reversalPause => 3
  | .seating => 4

def PlanStatus.code : PlanStatus → Nat
  | .valid => 0
  | .grace => 1
  | .void => 2

def Sufficiency.code : Sufficiency → Nat
  | .sufficient => 0
  | .insufficient => 1
  | .notJudged => 2

def Verdict.code : Verdict → Nat
  | .compliant => 0
  | .deviant => 1
  | .notExporting => 2
  | .unmeasured => 3

def CloseState.code : CloseState → Nat
  | .idle => 0
  | .marked => 1
  | .emitting => 2
  | .paused => 3

def Route.code : Route → Nat
  | .unrouted => 0
  | .a => 1
  | .b => 2

/-- The result codes' values (Table 9-3). -/
def ResultCode.byte : ResultCode → Byte
  | .ok => 0x00
  | .clamped => 0x01
  | .unknown => 0x10
  | .length => 0x11
  | .range => 0x12
  | .state => 0x13
  | .locked => 0x14
  | .busy => 0x15
  | .full => 0x16
  | .duplicate => 0x17
  | .absent => 0x18

/-! ## The reply frame on the line -/

/-- The bytes of a reply frame: START, LEN, KIND, RESULT, payload, CRC-16 (Table 9-1). -/
def replyFrame (r : Reply) : List Byte :=
  let body := be 2 (r.payload.length + 2) ++ [r.kind, r.code.byte] ++ r.payload
  Config.linkStart :: body ++ be 2 (crc16 body).toNat

/-! ## SCK -/

/-- A slot timer: slot (ANY is 96), step offset, repeat, capture unit, state (R10). -/
def encTimer (t : SlotTimer) : List Byte :=
  be 1 (t.slot.elim 96 Fin.val) ++ be 2 t.offset ++ encCode t.again.code ++ encOpt (fun u => be 1 u.1) t.unit ++
    encCode (armedCode t.armed)

/-- A trigger: its kind, and for EVENT its line and edge (R13). -/
def encTrigger : Trigger → List Byte
  | .event line edge => [0] ++ be 1 line.1 ++ encCode edge.code
  | .timer => [1]
  | .exportChange => [2]
  | .request => [3]

/-- A capture unit: trigger, snapshot channel, mode, state (R13). -/
def encUnit (c : CaptureUnit) : List Byte :=
  encTrigger c.trigger ++ encOpt (fun ch => be 1 ch.1) c.snapshot ++ encCode (if c.continuous then 1 else 0) ++
    encCode (armedCode c.armed)

/-- The number of the trigger kind of a capture record (R13, R14). -/
def CaptureCause.code : CaptureCause → Nat
  | .event _ _ => 0
  | .timer _ => 1
  | .exportChange _ => 2
  | .request => 3

/-- The trigger source of a capture record, absent for REQUEST (R14). -/
def causeSource : CaptureCause → Option (List Byte)
  | .event line rising => some (be 1 line.1 ++ encCode (if rising then Edge.rising.code else Edge.falling.code))
  | .timer n => some (be 1 n.1)
  | .exportChange st => some (encCode st.code)
  | .request => none

/-- A capture record in the order of R14, each absent field marked absent by its presence byte (R17). Its Clock is
numbered in the order of R1, STOPPED 0, and not in that of R14's table, which names RUNNING first (DESIGN CHOICE, log
entry 9). -/
def encCapture (r : CaptureRecord) : List Byte :=
  be 1 r.unit.1 ++ encCode r.cause.code ++ encOpt id (causeSource r.cause) ++ encTag r.pos ++ be 2 r.ms ++
    encCode (runningCode r.running) ++ encOpt (be 1) (r.snapshot.map fun x => x.1.1) ++
    encOpt (be 4) (r.snapshot.map fun x => x.2)

/-! ## FIU -/

/-- A pulse channel, with the 32-bit count for the even channel of a cascaded pair (R23). -/
def encPulse (v : Vector PulseChannel 24) (ch : Fin 24) : List Byte :=
  encCode v[ch].width.code ++ be 1 (pulseRoleCode v[ch].role) ++ be 2 v[ch].scale ++ be 3 v[ch].limit ++
    be 2 v[ch].counter ++ (if isCascaded v ch then be 4 (countOf v ch) else [])

/-- An event line (R27). -/
def encLine (l : EventLine) : List Byte :=
  be 1 l.debounce ++ encCode l.raw.code ++ encCode l.debounced.code ++ be 1 l.steady

/-- A sample point (R36). -/
def encPoint (p : SamplePoint) : List Byte :=
  be 1 (pointRoleCode p.role) ++ be 2 p.holdAfter ++ be 2 p.failAfter ++ beInt 2 p.value ++ be 2 p.age ++
    encCode p.quality.code

/-! ## GBU -/

/-- The last evaluation of a grade in the order of R47; Sg in 56 bits (R45). -/
def encEvaluation (e : Evaluation) : List Byte :=
  encTag e.tag ++ be 1 e.es ++ encOpt (be 3) e.supplyDelta ++ encOpt (be 3) e.worksDelta ++ encYes e.supplyClamped ++
    encYes e.worksClamped ++ encOpt (be 5) e.vs ++ encOpt (be 5) e.vw ++ encOpt (be 2) e.cv ++
    encOpt (fun b : Bool => encCode (if b then 0 else 1)) e.cvSampled ++ encOpt (beInt 2) e.level ++
    encOpt (fun q : Quality => encCode q.code) e.levelQuality ++ beInt 7 e.sg ++ beInt 3 e.hg ++
    encCode e.bandBefore.code ++ encCode e.bandAfter.code ++ encYes e.placed ++ be 3 e.ag

/-- A grade entry with its bindings, band, placed mark and last evaluation (R40). -/
def encGrade (s : State) (g : Fin 3) : List Byte :=
  let e := s.gbu.grades[g]
  encYes e.used ++ be 2 e.cv ++ be 3 e.agMax ++ be 3 e.retain ++ be 3 e.flareCapacity ++
    encOpt (fun ch : Fin 16 => be 1 ch.1) e.flareChannel ++ be 2 e.target ++ be 2 e.gain ++ be 2 e.theta1 ++
    be 2 e.theta2 ++ be 2 e.theta3 ++ be 2 e.theta4 ++ be 2 e.hysteresis ++
    encOpt (fun ch : Fin 24 => be 1 ch.1) (holderOf s.fiu.pulses (.gasSupply g)) ++
    encOpt (fun ch : Fin 24 => be 1 ch.1) (holderOf s.fiu.pulses (.gasWorks g)) ++
    encOpt (fun sp : Fin 32 => be 1 sp.1) (pointOf s.fiu.points (.holderLevel g)) ++
    encOpt (fun sp : Fin 32 => be 1 sp.1) (pointOf s.fiu.points (.calorific g)) ++
    encCode e.band.code ++ encYes e.placed ++ encOpt encEvaluation e.last

/-- A consumer entry in the order of Table 4-1; the host request of a POWER consumer is returned as 0 (R59). -/
def encConsumer (c : Consumer) : List Byte :=
  encCode c.kind.code ++ be 1 c.tier ++ be 3 c.mc ++ be 3 c.xc ++ be 3 c.dc ++
    encOpt (fun ch : Fin 16 => be 1 ch.1) c.main ++ encOpt (fun ch : Fin 16 => be 1 ch.1) c.supp ++
    encDep (be 3) c.smax ++ encDep (be 1) c.weight ++ encCode (if c.enabled then 0 else 1) ++
    be 3 (if c.kind = .power then 0 else c.request) ++ be 3 c.pc ++ encCode c.state.code

/-- A grade's part of the step record. -/
def encGradeShare (g : GradeShare) : List Byte :=
  beInt 7 g.sg ++ beInt 3 g.hg ++ be 3 g.ag ++ encCode g.band.code ++ g.takes.toList.flatMap (be 3) ++ be 3 g.flare ++
    be 3 g.retained

/-- A tier's part of the step record; a demand can reach 24,000,000 kW. -/
def encTierShare (t : TierShare) : List Byte :=
  be 3 t.pool ++ be 4 t.demand ++ be 3 t.total ++ encYes t.skipped

/-- A consumer's part of the step record; the released flag is 0 where it is set, 1 where not (DESIGN CHOICE, log entry
9). -/
def encConsumerShare (c : ConsumerShare) : List Byte :=
  encCode c.state.code ++ be 3 c.request ++ be 3 c.target ++ be 3 c.ac ++ be 3 c.sc ++ encYes c.released

/-- The step record in the order of R75; that rho was held and the sufficiency flag are 0 where they are so, 1 where not
(DESIGN CHOICE, log entry 9). -/
def encStepRecord (r : StepRecord) : List Byte :=
  encTag r.ended ++ be 1 r.es ++ encTag r.begins ++ be 1 r.slot.1 ++ be 3 r.neff ++ be 3 r.gNominal ++
    r.grades.toList.flatMap encGradeShare ++ r.tiers.toList.flatMap encTierShare ++
    r.consumers.toList.flatMap encConsumerShare ++ be 2 r.rho ++ encYes r.rhoHeld ++ encYes r.sufficient

/-! ## EXS -/

/-- The export configuration in the order of Table 6-1. -/
def encExportConfig (c : ExportConfig) : List Byte :=
  be 2 c.eta ++ be 3 c.capacity ++ be 2 c.tolerance ++ be 3 c.floorWh ++ be 1 c.devLimit ++ be 1 c.recoveryPairs ++
    encYes c.haltOnDev ++ be 1 c.graceSlots ++ encOpt (fun l : Fin 8 => be 1 l.1) c.gridHold

/-- The export demand record in the order of R111. -/
def encDemand (r : DemandRecord) : List Byte :=
  be 1 r.slot.1 ++ encCode r.state.code ++ encCode r.plan.code ++ be 3 r.nSlot ++ encOpt (be 3) r.cap ++
    encCode (if r.hold then 0 else 1) ++ be 3 r.neff ++ be 3 r.gas ++ be 3 r.gasNominal ++
    r.requests.toList.flatMap (encOpt (be 3))

/-- A slot record in the order of R122. -/
def encSlotRecord (r : SlotRecord) : List Byte :=
  be 2 r.frame ++ be 1 r.slot.1 ++ encCode r.stateStart.code ++ encCode r.stateEnd.code ++ encCode r.planEnd.code ++
    be 3 r.neff ++ be 2 r.steps ++ be 4 r.nominated ++ be 6 r.measured ++ encCode r.verdict.code ++
    encCode r.sufficiency.code ++ be 1 r.deviations ++ be 1 r.recoveries ++ encYes r.gap

/-! ## HMU -/

/-- The finished fields of a reading (Table 7-2). -/
def encFinished (f : Finished) : List Byte :=
  beInt 2 f.ts ++ beInt 2 f.tr ++ be 2 f.deltaT ++ be 8 f.kJ ++ be 8 f.recovered ++ be 8 f.supplementary ++
    encYes f.estimated ++ encYes f.reverse

/-- An entry of the retire queue: its kind, then the fields of Table 7-2 or the period of the marker (R131, R132, R142).
No table lists both kinds: READING is 0 and MARKER 1, in the order in which R131 names them (DESIGN CHOICE, log entry
9). -/
def encRetireEntry : RetireEntry → List Byte
  | .reading r =>
    [0] ++ be 1 r.meter.1 ++ be 3 r.key ++ encTag r.tag ++ be 2 r.steps ++ be 4 r.pulses ++ be 6 r.litres ++
      be 2 r.rho ++ encCode (if r.finished.isSome then 1 else 0) ++ be 1 r.remaining ++ encYes r.supplyFresh ++
      encYes r.returnFresh ++ encYes r.expired ++ encYes r.suspect ++ encDep encFinished r.finished
  | .marker period => [1] ++ be 2 period

/-! ## ABU -/

/-- A bank of an account (Table 8-3). -/
def encBank (b : Bank) : List Byte :=
  be 6 b.recKJ ++ be 6 b.supKJ ++ be 6 b.charge ++ be 3 b.rem ++ be 2 b.readings ++ be 2 b.estimated

/-- A bank of a suspense (R157). -/
def encSuspenseBank (b : SuspenseBank) : List Byte :=
  be 6 b.recKJ ++ be 6 b.supKJ ++ be 2 b.readings ++ be 2 b.estimated

/-- ACTIVE 0, SUSPENDED 1 (Table 8-2). -/
def suspendedCode (suspended : Bool) : Nat := if suspended then 1 else 0

/-- A directory entry: its valid mark and, while valid, key, H, tariff, state and both banks (R149). -/
def encDirEntry (e : DirEntry) : List Byte :=
  encYes e.valid ++
    (if e.valid then
      be 3 e.key ++ be 1 (if e.secondary then 1 else 0) ++ be 1 e.tariff.1 ++ encCode (suspendedCode e.suspended) ++
        e.banks.toList.flatMap encBank
    else [])

/-- A lookaside entry: key, location, tariff (R152). -/
def encLook (e : LookEntry) : List Byte := be 3 e.key ++ be 1 e.location.1 ++ be 1 e.tariff.1

/-- The key, the meter and the tariff of a statement, each marked absent where Table 8-4 has none (R163). -/
def encHolder : StatementHolder → List Byte
  | .account key tariff => encOpt (be 3) (some key) ++ encOpt (be 1) none ++ encOpt (be 1) (some tariff.1)
  | .suspense meter => encOpt (be 3) none ++ encOpt (be 1) (some meter.1) ++ encOpt (be 1) none

/-- ACCOUNT 0, SUSPENSE 1 (Table 8-4). -/
def StatementHolder.code : StatementHolder → Nat
  | .account _ _ => 0
  | .suspense _ => 1

/-- A statement in the order of Table 8-4. -/
def encStatement (t : Statement) : List Byte :=
  encCode t.holder.code ++ be 2 t.period ++ encHolder t.holder ++ be 6 t.recKJ ++ be 6 t.supKJ ++ be 6 t.charge ++
    be 2 t.readings ++ be 2 t.estimated

/-! ## CNU -/

/-- A condition record with its number and kind: LATCHED 0, LEVEL 1 (R182). -/
def encCondition (v : Vector CondRecord 32) (n : Fin 32) : List Byte :=
  be 1 n.1 ++ encCode (if isLevelCondition n then 1 else 0) ++ encYes v[n].active ++ be 1 v[n].count ++
    be 2 v[n].source ++ encTag v[n].time ++ encCode v[n].route.code ++ encYes v[n].alarm

/-- An output's level: asserted is LOW (R181); LOW is 0 and HIGH 1 (DESIGN CHOICE, log entry 10). -/
def encOutput (asserted : Bool) : List Byte := encCode (if asserted then Level.low.code else Level.high.code)

end Sys2Proof.Machine
end

