-- ==== Sys2Proof/Machine/Condition.lean ====
section
/-!
DEFINITION. The requests of the condition unit: CONDITION-READ, CONDITION-CLEAR, CONDITION-RAISE, CONDITION-ROUTE.
-/
namespace Sys2Proof.Machine

/-- The conditions that a mask selects, in condition number order (R179, R182). -/
def selected (mask : BitVec 32) : List (Fin 32) := (List.finRange 32).filter fun n => mask.getLsbD n.1

/-- CONDITION-READ (R182): the number of conditions selected, then their records. -/
def judgeConditionRead (mask : BitVec 32) (s : State) : Answer :=
  okWith (be 1 (selected mask).length ++ (selected mask).flatMap (encCondition s.cnu.records)) s

def execConditionRead (p : List Byte) (s : State) : Host.Outcome State Fault Refusal :=
  request 0x43 parseMask judgeConditionRead p s

/-- CONDITION-CLEAR (R179). -/
def judgeConditionClear (mask : BitVec 32) (s : State) : Answer := okWith [] { s with cnu := clearConds mask s.cnu }

def execConditionClear (p : List Byte) (s : State) : Host.Outcome State Fault Refusal :=
  request 0x44 parseMask judgeConditionClear p s

/-- HOST-A or HOST-B by its number (R180). -/
def hostCondition (k : Nat) : Option (Fin 32) := if k = 30 then some 30 else if k = 31 then some 31 else none

/-- CONDITION-RAISE (R180). -/
def judgeConditionRaise (f : Nat × Nat) (s : State) : Answer :=
  match hostCondition f.1 with
  | none => rangeItem 1
  | some n => okWith [] (s.raiseHere n f.2)

def execConditionRaise (p : List Byte) (s : State) : Host.Outcome State Fault Refusal :=
  request 0x45 parse816 judgeConditionRaise p s

/-- Whether an alarm class may be written to condition `n`: any to HOST-A and HOST-B, the fixed one to the others
(R180). -/
def alarmFits (n : Fin 32) (alarm : Bool) : Bool := decide (30 ≤ n.1) || (alarm == fixedAlarm n)

/-- CONDITION-ROUTE (R180); the outputs are judged again at once (R181). -/
def judgeConditionRoute (f : Nat × Nat × Nat) (s : State) : Answer :=
  match asFin 32 f.1 with
  | none => rangeItem 1
  | some n =>
    match routeOf f.2.1 with
    | none => rangeItem 2
    | some route =>
      match firstOfTwo f.2.2 with
      | none => rangeItem 3
      | some alarm =>
        if !alarmFits n alarm then rangeItem 3
        else okWith [] { s with cnu := setRecord n { s.cnu.records[n] with route := route, alarm := alarm } s.cnu }

def execConditionRoute (p : List Byte) (s : State) : Host.Outcome State Fault Refusal :=
  request 0x46 parse888 judgeConditionRoute p s

end Sys2Proof.Machine
end

