-- ==== Sys2Proof/Machine/Frame.lean ====
section
/-!
DEFINITION. The request frame on the line: its bytes after the start byte, the reading of a frame as a command, and
the two tests by which the receiver knows a complete and a sound frame (Table 9-1, R166, R167).
-/
namespace Sys2Proof.Machine

/-- The KIND byte and the payload of a command that is a frame; the other commands are no frame (Table 9-6). -/
def requestFrame : Instr → Option (Byte × List Byte)
  | .coldReset _ _ => none
  | .warmReset => none
  | .identify p => some (0x01, p)
  | .status p => some (0x02, p)
  | .modeStart p => some (0x03, p)
  | .modeStop p => some (0x04, p)
  | .restart p => some (0x05, p)
  | .clockSet p => some (0x06, p)
  | .clockTrim p => some (0x07, p)
  | .clockRead p => some (0x08, p)
  | .timerSet p => some (0x09, p)
  | .timerDisarm p => some (0x0A, p)
  | .captureSet p => some (0x0B, p)
  | .captureDisarm p => some (0x0C, p)
  | .captureTrigger p => some (0x0D, p)
  | .captureFetch p => some (0x0E, p)
  | .pulseSet p => some (0x0F, p)
  | .pulseRead p => some (0x10, p)
  | .eventSet p => some (0x11, p)
  | .eventRead p => some (0x12, p)
  | .pointSet p => some (0x13, p)
  | .pointRead p => some (0x14, p)
  | .gradeSet p => some (0x15, p)
  | .holderSet p => some (0x16, p)
  | .gradeRead p => some (0x17, p)
  | .consumerSet p => some (0x18, p)
  | .consumerEnable p => some (0x19, p)
  | .requestSet p => some (0x1A, p)
  | .consumerRead p => some (0x1B, p)
  | .stepRead p => some (0x1C, p)
  | .driveSet p => some (0x1D, p)
  | .driveSetpoint p => some (0x1E, p)
  | .driveStart p => some (0x1F, p)
  | .driveStop p => some (0x20, p)
  | .drivePosition p => some (0x21, p)
  | .driveRead p => some (0x22, p)
  | .exportSet p => some (0x23, p)
  | .nominate p => some (0x24, p)
  | .nominateCancel p => some (0x25, p)
  | .nominateAmend p => some (0x26, p)
  | .exportArm p => some (0x27, p)
  | .exportHalt p => some (0x28, p)
  | .exportRelease p => some (0x29, p)
  | .curtail p => some (0x2A, p)
  | .exportLogFetch p => some (0x2B, p)
  | .exportRead p => some (0x2C, p)
  | .nominationRead p => some (0x2D, p)
  | .meterSet p => some (0x2E, p)
  | .meterKey p => some (0x2F, p)
  | .meterConfirm p => some (0x30, p)
  | .meterRead p => some (0x31, p)
  | .retireRead p => some (0x32, p)
  | .accountAdd p => some (0x33, p)
  | .accountRemove p => some (0x34, p)
  | .accountSuspend p => some (0x35, p)
  | .accountResume p => some (0x36, p)
  | .accountTariff p => some (0x37, p)
  | .accountRead p => some (0x38, p)
  | .directoryRead p => some (0x39, p)
  | .lookasidePurge p => some (0x3A, p)
  | .lookasideRead p => some (0x3B, p)
  | .tariffSet p => some (0x3C, p)
  | .bandmapSet p => some (0x3D, p)
  | .tariffRead p => some (0x3E, p)
  | .suspenseRead p => some (0x3F, p)
  | .periodClose p => some (0x40, p)
  | .statementFetch p => some (0x41, p)
  | .periodRead p => some (0x42, p)
  | .conditionRead p => some (0x43, p)
  | .conditionClear p => some (0x44, p)
  | .conditionRaise p => some (0x45, p)
  | .conditionRoute p => some (0x46, p)
  | .unknownKind kind p => some (kind, p)
  | .linkFrameBroken _ => none
  | .frameDiscarded _ => none
  | .replySent => none
  | .timebaseTick _ => none
  | .pointAgeExpiry _ _ => none
  | .stepBoundary _ => none
  | .timerExpiry _ _ => none
  | .pulseArrival _ => none
  | .eventLineChange _ _ => none
  | .sensorRecord _ => none
  | .sensorRecordBroken _ _ => none
  | .readingExpiry _ _ => none
  | .emissionStep => none
  | .periodStart _ => none
  | .activeTimeEnd _ => none
  | .pairTick _ => none
  | .moveEnd _ => none
  | .pauseEnd _ => none
  | .eventLineSample _ => none
  | .linkStartByte => none
  | .sensorStartByte => none

/-- The requests of Table 9-6 in the order of their kind numbers, from 01H. -/
def requestTable : List (List Byte → Instr) :=
  [.identify, .status, .modeStart, .modeStop, .restart, .clockSet, .clockTrim, .clockRead, .timerSet, .timerDisarm,
   .captureSet, .captureDisarm, .captureTrigger, .captureFetch, .pulseSet, .pulseRead, .eventSet, .eventRead,
   .pointSet, .pointRead, .gradeSet, .holderSet, .gradeRead, .consumerSet, .consumerEnable, .requestSet,
   .consumerRead, .stepRead, .driveSet, .driveSetpoint, .driveStart, .driveStop, .drivePosition, .driveRead,
   .exportSet, .nominate, .nominateCancel, .nominateAmend, .exportArm, .exportHalt, .exportRelease, .curtail,
   .exportLogFetch, .exportRead, .nominationRead, .meterSet, .meterKey, .meterConfirm, .meterRead, .retireRead,
   .accountAdd, .accountRemove, .accountSuspend, .accountResume, .accountTariff, .accountRead, .directoryRead,
   .lookasidePurge, .lookasideRead, .tariffSet, .bandmapSet, .tariffRead, .suspenseRead, .periodClose,
   .statementFetch, .periodRead, .conditionRead, .conditionClear, .conditionRaise, .conditionRoute]

/-- The command of a frame with this KIND and this payload: a request of Table 9-6, else an unknown kind (R168). -/
def requestOf (kind : Byte) (p : List Byte) : Instr :=
  match kind.toNat with
  | 0 => .unknownKind kind p
  | k + 1 =>
    match requestTable[k]? with
    | some c => c p
    | none => .unknownKind kind p

/-- The bytes that the CRC-16 covers: LEN, KIND and payload (Table 9-1). -/
def frameBody (kind : Byte) (p : List Byte) : List Byte := be 2 (p.length + 1) ++ kind :: p

/-- A frame after its start byte: LEN, KIND, payload, CRC-16 (Table 9-1). -/
def wireFrame (kind : Byte) (p : List Byte) : List Byte :=
  frameBody kind p ++ be 2 (crc16 (frameBody kind p)).toNat

/-- Whether LEN is one a request frame may have (Table 9-1). -/
def lenPermitted (len : Nat) : Bool := decide (1 ≤ len ∧ len ≤ 1023)

/-- The two bytes of LEN as a number, where they are all that has been collected. -/
def lenOf (l : List Byte) : Option Nat :=
  match l with
  | [hi, lo] => some (hi.toNat * 256 + lo.toNat)
  | _ => none

/-- Whether bytes are a complete frame: LEN permitted, and LEN + 2 bytes after it (R166). -/
def isComplete (f : List Byte) : Bool :=
  match lenOf (f.take 2) with
  | some len => lenPermitted len && decide (f.length = len + 4)
  | none => false

/-- Whether the CRC-16 of a complete frame is right (Table 9-1). -/
def crcRight (f : List Byte) : Bool :=
  decide (f.drop (f.length - 2) = be 2 (crc16 (f.take (f.length - 2))).toNat)

/-- The KIND byte of a complete frame. -/
def kindOf (f : List Byte) : Byte := f.getD 2 0

/-- The payload of a complete frame. -/
def payloadOf (f : List Byte) : List Byte := (f.take (f.length - 2)).drop 3

/-- The command that a complete and sound frame spells. -/
def readFrame (f : List Byte) : Option Instr :=
  if isComplete f && crcRight f then some (requestOf (kindOf f) (payloadOf f)) else none

end Sys2Proof.Machine
end

