-- ==== Sys2Proof/Machine/Drive.lean ====
section
/-!
DEFINITION. Drive channels: setpoints, states, periods and waveforms, raise and lower pairs, and the requests and
events of Chapter 5.
-/
namespace Sys2Proof.Machine

/-! ## Pins -/

/-- The active level: the other than the idle level (Table 5-1). -/
def activeLevel (c : DriveChannel) : Level :=
  match c.idle with
  | .low => .high
  | .high => .low

/-- The level of a line that is driven, or not. -/
def levelWhen (on : Bool) (c : DriveChannel) : Level := if on then activeLevel c else c.idle

/-- Whether a mode makes the odd partner a member (R79). -/
def DriveMode.takesPartner : DriveMode → Bool
  | .cascade => true
  | .raise => true
  | _ => false

/-- The raise line is driven (R88). -/
def raiseDriven (c : DriveChannel) : Bool := decide (c.state = .running) && decide (c.sub = .raising)

/-- The lower line is driven (R88). -/
def lowerDriven (c : DriveChannel) : Bool :=
  decide (c.state = .running) && (decide (c.sub = .lowering) || decide (c.sub = .seating))

/-- Channel `ch` replaced by `c`, an even channel in mode RAISE, and both lines at the levels of R88. -/
def putPair (v : Vector DriveChannel 16) (ch : Fin 16) (c : DriveChannel) : Vector DriveChannel 16 :=
  put (put v ch { c with pin := levelWhen (raiseDriven c) c }) (ch + 1)
    { v[ch + 1] with pin := levelWhen (lowerDriven c) c }

/-- Channel `ch` replaced by `c` with its pin idle, and a member's pin idle with it (R86, R87, R88). -/
def putIdle (v : Vector DriveChannel 16) (ch : Fin 16) (c : DriveChannel) : Vector DriveChannel 16 :=
  let v1 := put v ch { c with pin := c.idle }
  if c.mode.takesPartner then put v1 (ch + 1) { v1[ch + 1] with pin := c.idle } else v1

/-! ## Periods (R90 to R92) -/

/-- The setpoint in half-ticks of a period of `n` ticks (R91). -/
def halfTicks (p n : Nat) : Nat := (p * (2 * n) + 5000) / 10000

/-- The pulse width of a PULSE channel after the judgement against Wmin (R92). -/
def pulseWidth (p n wmin : Nat) : Nat :=
  let w := (p * n + 5000) / 10000
  if w < wmin then 0 else if n - wmin < w then n else w

/-- The active time of the period in progress, in ticks, from the active setpoint, N and the period count. -/
def activeTime (c : DriveChannel) : Nat :=
  match c.mode, c.period with
  | .raise, _ => 0
  | _, none => 0
  | .pulse, some n => pulseWidth c.active n (c.wmin.getD 0)
  | _, some n =>
    let h := halfTicks c.active n
    if c.count % 2 = 1 ∧ h % 2 = 1 then h / 2 + 1 else h / 2

/-- A period starts (R90): after a start or a return with period count 0, otherwise with the next. -/
def startPeriod (fresh : Bool) (c : DriveChannel) : DriveChannel :=
  let c1 := { c with active := c.staged, count := if fresh then 0 else (c.count + 1) % 65536, tick := 0, divider := 0 }
  { c1 with pin := levelWhen (decide (0 < activeTime c1)) c1 }

/-! ## Raise and lower pairs (R94 to R98) -/

/-- The length of a move to the active target: max(Mm, ceil(|target - E| x Ttr / 10,000)) ticks (R94). -/
def moveLength (c : DriveChannel) : Nat :=
  max c.minMove ((((c.active : Int) - c.est).natAbs * c.ttr + 9999) / 10000)

/-- E0, t and L become 0 (R95). -/
def clearMove (c : DriveChannel) : DriveChannel := { c with est0 := 0, moved := 0, length := 0 }

/-- A move starts, or runs on, from E toward the active target (R94, R96). -/
def startMove (sub : PairState) (c : DriveChannel) : DriveChannel :=
  { c with sub := sub, est0 := c.est, moved := 0, length := moveLength c, divider := 0 }

/-- A reversal pause of Rp ticks begins (R96, R97). -/
def startPause (c : DriveChannel) : DriveChannel :=
  { clearMove c with sub := .reversalPause, remaining := c.reversal, divider := 0 }

/-- The active target judged from AT-REST (R94). -/
def judgePair (c : DriveChannel) : DriveChannel :=
  let d : Int := (c.active : Int) - c.est
  if (c.deadband : Int) < d then startMove .raising c
  else if d < -(c.deadband : Int) then startMove .lowering c
  else { c with sub := .atRest }

/-- A new active target judged against a move in progress (R96). -/
def retarget (c : DriveChannel) : DriveChannel :=
  let d : Int := (c.active : Int) - c.est
  let toward := if c.sub = .raising then d else -d
  if (c.deadband : Int) < toward then startMove c.sub c
  else if -(c.deadband : Int) ≤ toward then { clearMove c with sub := .atRest }
  else startPause c

/-- A setpoint applied to a RUNNING pair (R84, R97). -/
def pairSetpoint (p : Nat) (c : DriveChannel) : DriveChannel :=
  match c.sub with
  | .reversalPause => { c with staged := p }
  | .seating => { c with staged := p }
  | .atRest => if p = c.active then { c with staged := p } else judgePair { c with staged := p, active := p }
  | .raising => if p = c.active then { c with staged := p } else retarget { c with staged := p, active := p }
  | .lowering => if p = c.active then { c with staged := p } else retarget { c with staged := p, active := p }

/-- The estimate after `t` ticks of a move (R95). -/
def estimateAfter (c : DriveChannel) (t : Nat) : Nat :=
  let travel := t * 10000 / c.ttr
  if c.sub = .raising then min 10000 (c.est0 + travel) else c.est0 - travel

/-- One base tick of a pair that is RAISING or LOWERING (R95). -/
def moveTick (c : DriveChannel) : DriveChannel :=
  let t := c.moved + 1
  let e := estimateAfter c t
  if c.length ≤ t then
    if c.sub = .lowering ∧ c.active = 0 ∧ 0 < c.seatRun then
      { clearMove c with est := 0, sub := .seating, remaining := c.seatRun, divider := 0 }
    else { clearMove c with est := e, sub := .atRest, divider := 0 }
  else { c with moved := t, est := e, divider := 0 }

/-- One base tick of a pair in REVERSAL-PAUSE or SEATING (R97). -/
def pauseTick (c : DriveChannel) : DriveChannel :=
  if 1 < c.remaining then { c with remaining := c.remaining - 1, divider := 0 }
  else
    let c1 := { c with active := c.staged, remaining := 0, divider := 0 }
    if c.sub = .seating ∧ c.est + c.deadband < c.staged then startPause c1
    else judgePair { c1 with sub := .atRest }

/-- One base tick of a pair. -/
def pairBaseTick (c : DriveChannel) : DriveChannel :=
  match c.sub with
  | .atRest => c
  | .raising => moveTick c
  | .lowering => moveTick c
  | .reversalPause => pauseTick c
  | .seating => pauseTick c

/-- A pair that leaves RUNNING abandons its move, pause or seating run and keeps E (R98). -/
def abandonPair (c : DriveChannel) : DriveChannel := { clearMove c with sub := .atRest, remaining := 0 }

/-! ## Starting, stopping, blocking (R85 to R87) -/

/-- A channel that is stopped (R86). -/
def stopChannel (v : Vector DriveChannel 16) (ch : Fin 16) : Vector DriveChannel 16 :=
  if v[ch].state = .stopped then v
  else putIdle v ch { abandonPair v[ch] with
    state := .stopped, count := 0, tick := 0, divider := 0, active := v[ch].staged }

/-- Every RUNNING or BLOCKED channel stopped (R86). -/
def stopAll (v : Vector DriveChannel 16) : Vector DriveChannel 16 := (List.finRange 16).foldl stopChannel v

/-- A channel that becomes BLOCKED: its period, or its pair's move, is abandoned (R87). -/
def blockChannel (v : Vector DriveChannel 16) (ch : Fin 16) : Vector DriveChannel 16 :=
  putIdle v ch { abandonPair v[ch] with state := .blocked, divider := 0 }

/-- A channel that becomes RUNNING: a fresh period starts, or the pair judges its staged target from AT-REST (R85,
R87). -/
def runChannel (v : Vector DriveChannel 16) (ch : Fin 16) : Vector DriveChannel 16 :=
  let c := { v[ch] with state := .running }
  match c.mode with
  | .raise => putPair v ch (judgePair { c with active := c.staged, sub := .atRest })
  | _ => put v ch (startPeriod true c)

/-- Whether a channel's permissive is met: none is configured, or the debounced level equals the polarity (R85). -/
def permissiveMet (lines : Vector EventLine 8) (c : DriveChannel) : Bool :=
  match c.permissive with
  | none => true
  | some (line, polarity) => decide (lines[line].debounced = polarity)

/-- Whether a channel's permissive is this line. -/
def watchesLine (line : Fin 8) (c : DriveChannel) : Bool :=
  match c.permissive with
  | none => false
  | some (l, _) => decide (l = line)

/-- A change of a line's debounced level reaches channel `ch` (R87). -/
def permissiveChange (lines : Vector EventLine 8) (line : Fin 8) (v : Vector DriveChannel 16) (ch : Fin 16) :
    Vector DriveChannel 16 :=
  if isMember v ch || !watchesLine line v[ch] then v
  else match v[ch].state with
    | .stopped => v
    | .running => if permissiveMet lines v[ch] then v else blockChannel v ch
    | .blocked => if permissiveMet lines v[ch] then runChannel v ch else v

/-- A change of a line's debounced level reaches every channel (R26, R87). -/
def permissiveChanges (lines : Vector EventLine 8) (line : Fin 8) (v : Vector DriveChannel 16) :
    Vector DriveChannel 16 :=
  (List.finRange 16).foldl (permissiveChange lines line) v

/-! ## Setpoints (R82 to R84) -/

/-- A setpoint applied to a channel (R84). -/
def applySetpoint (v : Vector DriveChannel 16) (ch : Fin 16) (p : Nat) : Vector DriveChannel 16 :=
  match v[ch].state with
  | .stopped => put v ch { v[ch] with staged := p, active := p }
  | .blocked => put v ch { v[ch] with staged := p }
  | .running =>
    match v[ch].mode with
    | .raise => putPair v ch (pairSetpoint p v[ch])
    | _ => put v ch { v[ch] with staged := p }

/-- A position handed by an allocation: applied only where the channel's source names who hands it (R82). -/
def handPosition (v : Vector DriveChannel 16) (ch : Fin 16) (source : DriveSource) (p : Nat) :
    Vector DriveChannel 16 :=
  if channelSource v ch = some source then applySetpoint v ch p else v

/-! ## DRIVE-SET (R80, R81) -/

/-- Whether a defined consumer or a USED grade names the channel (R80). -/
def isBound (g : Gbu) (ch : Fin 16) : Bool :=
  g.consumers.toList.any (fun c => c.defined && (decide (c.main = some ch) || decide (c.supp = some ch))) ||
    g.grades.toList.any (fun e => e.used && decide (e.flareChannel = some ch))

/-- Whether the base tick is permitted (Table 5-2). -/
def baseTickPermitted (n : Nat) : Bool := n == 1 || n == 10 || n == 100

/-- Whether a period is permitted in a mode (Table 5-2, item 4). -/
def periodFits (mode : DriveMode) (period : Option Nat) : Bool :=
  match mode, period with
  | .raise, none => true
  | .cascade, some n => decide (8 ≤ n ∧ n ≤ 65535)
  | .duty, some n => decide (8 ≤ n ∧ n ≤ 4095)
  | .pulse, some n => decide (8 ≤ n ∧ n ≤ 4095)
  | _, _ => false

/-- Whether Wmin is permitted in a mode (Table 5-2, item 5). -/
def wminFits (mode : DriveMode) (period wmin : Option Nat) : Bool :=
  match mode, wmin with
  | .pulse, some w => decide (w ≤ period.getD 0 / 2)
  | .pulse, none => false
  | _, none => true
  | _, some _ => false

/-- The permissive that the fields name, or the item that fails: 7 the line, 8 the polarity. -/
def permissiveOf (line polarity : Option Nat) : Except Nat (Option (Fin 8 × Level)) :=
  match line with
  | none => .ok none
  | some l =>
    match asFin 8 l with
    | none => .error 7
    | some l =>
      match polarity.bind polarityOf with
      | none => .error 8
      | some pol => .ok (some (l, pol))

/-- The pair fields checked: the item that fails, if any (Table 5-2, items 10 to 14). -/
def pairItemFailing (f : PairFields) : Option Nat :=
  if f.ttr < 10 then some 10
  else if 500 < f.deadband then some 11
  else if f.reversal < 1 then some 12
  else if f.ttr < f.minMove then some 13
  else none

/-- What DRIVE-SET writes, once its fields have been checked. -/
structure DriveConfig where
  mode : DriveMode
  idle : Level
  permissive : Option (Fin 8 × Level)
  source : DriveSource
deriving DecidableEq, Repr

/-- The fields of DRIVE-SET checked in the order of Table 5-2, for channel `ch`. -/
def checkDriveSet (f : DriveSetFields) (ch : Fin 16) : Except Nat DriveConfig :=
  match driveModeOf f.mode with
  | none => .error 2
  | some mode =>
    if mode.takesPartner && decide (ch.1 % 2 = 1) then .error 2
    else if !baseTickPermitted f.baseTick then .error 3
    else if !periodFits mode f.period then .error 4
    else if !wminFits mode f.period f.wmin then .error 5
    else match levelOfCode f.idle with
    | none => .error 6
    | some idle =>
      match permissiveOf f.line f.polarity with
      | .error item => .error item
      | .ok permissive =>
        match driveSourceOf f.source with
        | none => .error 9
        | some source =>
          match f.pair.bind pairItemFailing with
          | some item => .error item
          | none => .ok { mode := mode, idle := idle, permissive := permissive, source := source }

/-- A channel as DRIVE-SET leaves it (R81). -/
def configured (f : DriveSetFields) (k : DriveConfig) (c : DriveChannel) : DriveChannel :=
  let pair := f.pair.getD ⟨c.ttr, c.deadband, c.reversal, c.minMove, c.seatRun⟩
  { c with
    mode := k.mode, baseTick := f.baseTick, period := f.period, wmin := f.wmin, idle := k.idle,
    permissive := k.permissive, source := k.source, count := 0, tick := 0, divider := 0, pin := k.idle,
    ttr := pair.ttr, deadband := pair.deadband, reversal := pair.reversal, minMove := pair.minMove,
    seatRun := pair.seatRun, sub := .atRest }

/-- The channels as DRIVE-SET leaves them: a member's pin is held, a channel that is no member any longer is STOPPED
with its pin at its own idle level (R81). -/
def driveSetTo (f : DriveSetFields) (k : DriveConfig) (v : Vector DriveChannel 16) (ch : Fin 16) :
    Vector DriveChannel 16 :=
  let v1 := put v ch (configured f k v[ch])
  if k.mode.takesPartner then put v1 (ch + 1) { v1[ch + 1] with pin := k.idle }
  else if decide (ch.1 % 2 = 0) && v[ch].mode.takesPartner then
    put v1 (ch + 1) { v1[ch + 1] with state := .stopped, pin := v1[ch + 1].idle }
  else v1

/-- Whether the request gives an even channel a mode that needs its odd partner, by the number of the mode. -/
def wantsPartner (mode : Nat) (ch : Fin 16) : Bool := decide (ch.1 % 2 = 0) && (mode == 2 || mode == 3)

/-- DRIVE-SET (R80). -/
def judgeDriveSet (f : DriveSetFields) (s : State) : Answer :=
  let v := s.dcu.channels
  match asFin 16 f.channel with
  | none => rangeItem 1
  | some ch =>
    if isMember v ch || decide (v[ch].state ≠ .stopped) then refused .state
    else if wantsPartner f.mode ch && decide (channelState v (ch + 1) ≠ .stopped) then refused .state
    else match checkDriveSet f ch with
    | .error item => rangeItem item
    | .ok k =>
      if decide (s.lkp.mode = .run) && isBound s.gbu ch && decide (k.source ≠ v[ch].source) then rangeItem 9
      else if decide (s.lkp.mode = .run) && k.mode.takesPartner && isBound s.gbu (ch + 1) then rangeItem 2
      else okWith [] { s with dcu := { s.dcu with channels := driveSetTo f k v ch } }

def execDriveSet (p : List Byte) (s : State) : Host.Outcome State Fault Refusal :=
  request 0x1D parseDriveSet judgeDriveSet p s

/-! ## DRIVE-SETPOINT, DRIVE-START, DRIVE-STOP, DRIVE-POSITION -/

/-- DRIVE-SETPOINT (R83). -/
def judgeDriveSetpoint (f : Nat × Nat) (s : State) : Answer :=
  match asFin 16 f.1 with
  | none => rangeItem 1
  | some ch =>
    if channelSource s.dcu.channels ch ≠ some .manual then refused .state
    else
      let v := applySetpoint s.dcu.channels ch (min f.2 10000)
      .done (if f.2 ≤ 10000 then .ok else .clamped) (be 2 v[ch].staged ++ be 2 v[ch].active)
        { s with dcu := { s.dcu with channels := v } }

def execDriveSetpoint (p : List Byte) (s : State) : Host.Outcome State Fault Refusal :=
  request 0x1E parse816 judgeDriveSetpoint p s

/-- The channel started: RUNNING, or BLOCKED where its permissive is not met (R85). -/
def startChannel (lines : Vector EventLine 8) (v : Vector DriveChannel 16) (ch : Fin 16) : Vector DriveChannel 16 :=
  if permissiveMet lines v[ch] then runChannel v ch else blockChannel v ch

/-- DRIVE-START (R85). -/
def judgeDriveStart (k : Nat) (s : State) : Answer :=
  match asFin 16 k with
  | none => rangeItem 1
  | some ch =>
    if s.lkp.mode = .setup then refused .state
    else if isMember s.dcu.channels ch || decide (s.dcu.channels[ch].state ≠ .stopped) then refused .state
    else
      let v := startChannel s.fiu.lines s.dcu.channels ch
      okWith (encCode v[ch].state.code) { s with dcu := { s.dcu with channels := v } }

def execDriveStart (p : List Byte) (s : State) : Host.Outcome State Fault Refusal :=
  request 0x1F parse8 judgeDriveStart p s

/-- DRIVE-STOP (R86). -/
def judgeDriveStop (k : Nat) (s : State) : Answer :=
  match asFin 16 k with
  | none => rangeItem 1
  | some ch =>
    if isMember s.dcu.channels ch then refused .state
    else okWith [] { s with dcu := { s.dcu with channels := stopChannel s.dcu.channels ch } }

def execDriveStop (p : List Byte) (s : State) : Host.Outcome State Fault Refusal :=
  request 0x20 parse8 judgeDriveStop p s

/-- E written; a RUNNING pair judges its active target against it (R98). -/
def positionSet (v : Vector DriveChannel 16) (ch : Fin 16) (e : Nat) : Vector DriveChannel 16 :=
  let c := { v[ch] with est := e }
  match c.state with
  | .running => putPair v ch (judgePair c)
  | _ => put v ch c

/-- DRIVE-POSITION (R98). -/
def judgeDrivePosition (f : Nat × Nat) (s : State) : Answer :=
  match asFin 16 f.1 with
  | none => rangeItem 1
  | some ch =>
    let c := s.dcu.channels[ch]
    if ch.1 % 2 = 1 ∨ c.mode ≠ .raise then refused .state
    else if 10000 < f.2 then rangeItem 2
    else if c.sub ≠ .atRest then refused .state
    else okWith [] { s with dcu := { s.dcu with channels := positionSet s.dcu.channels ch f.2 } }

def execDrivePosition (p : List Byte) (s : State) : Host.Outcome State Fault Refusal :=
  request 0x21 parse816 judgeDrivePosition p s

/-! ## DRIVE-READ (R99) -/

/-- The mode DRIVE-READ shows: of a member, LOWER 4 or CASCADE-MEMBER, with its even channel's number, in place of the
mode that it keeps (R79, R99; DESIGN CHOICE, log entry 10). -/
def encDriveMode (v : Vector DriveChannel 16) (ch : Fin 16) : List Byte :=
  if isMember v ch then
    [if v[ch - 1].mode = .raise then 4 else Config.cascadeMemberCode] ++ be 1 (ch - 1).1
  else encCode v[ch].mode.code

/-- The pair fields of Table 5-2 that a channel holds. -/
def encPairConfig (c : DriveChannel) : List Byte :=
  encodePair ⟨c.ttr, c.deadband, c.reversal, c.minMove, c.seatRun⟩

/-- The configuration of Table 5-2 (R99) without its items 1 and 2: the channel number is not returned, and the mode
stands before it, once (DESIGN CHOICE, log entry 10). -/
def encDriveConfig (c : DriveChannel) : List Byte :=
  be 1 c.baseTick ++ encDep (be 2) c.period ++ encDep (be 2) c.wmin ++ encCode c.idle.code ++
    encOpt (fun x : Fin 8 × Level => be 1 x.1.1 ++ encCode (if x.2 = .high then 0 else 1)) c.permissive ++
    be 1 (driveSourceCode c.source) ++ (if c.mode = .raise then encPairConfig c else [])

/-- The items of a waveform, or of a pair (R99). The pair items begin with the five that the configuration has already
shown, and a member has none (DESIGN CHOICE, log entry 10). -/
def encDriveItems (v : Vector DriveChannel 16) (ch : Fin 16) : List Byte :=
  let c := v[ch]
  if isMember v ch then []
  else if c.mode = .raise then
    encPairConfig c ++ encCode c.sub.code ++ be 2 c.est ++ be 2 c.est0 ++ be 2 c.moved ++ be 2 c.length ++
      be 2 c.remaining
  else
    be 2 c.count ++ be 2 c.tick ++
      be 2 (if c.state = .running then activeTime c else (Config.activeTimeWithoutPeriod ch).1)

/-- A drive channel as DRIVE-READ returns it. -/
def encDrive (v : Vector DriveChannel 16) (ch : Fin 16) : List Byte :=
  encDriveMode v ch ++ encDriveConfig v[ch] ++ encCode (channelState v ch).code ++ be 2 v[ch].staged ++
    be 2 v[ch].active ++ encCode v[ch].pin.code ++ encDriveItems v ch

/-- The numbers of a range of `n`. -/
def indices (n first count : Nat) : List (Fin n) :=
  (List.finRange n).filter fun i => decide (first ≤ i.1 ∧ i.1 < first + count)

/-- DRIVE-READ (R99). -/
def judgeDriveRead (f : Nat × Nat) (s : State) : Answer :=
  checkRange 16 16 f.1 f.2 (okWith ((indices 16 f.1 f.2).flatMap (encDrive s.dcu.channels)) s)

def execDriveRead (p : List Byte) (s : State) : Host.Outcome State Fault Refusal :=
  request 0x22 parse88 judgeDriveRead p s

/-! ## The events of periods and pairs -/

/-- Whether a channel works in periods: DUTY, PULSE or CASCADE and no member. -/
def worksInPeriods (v : Vector DriveChannel 16) (ch : Fin 16) : Bool :=
  !isMember v ch && decide (v[ch].mode ≠ .raise)

/-- PERIOD_START (R90): the end of the previous period of a RUNNING channel. -/
def execPeriodStart (ch : Fin 16) (s : State) : Host.Outcome State Fault Refusal :=
  let v := s.dcu.channels
  if worksInPeriods v ch ∧ v[ch].state = .running then
    .next { s with dcu := { s.dcu with channels := put v ch (startPeriod false v[ch]) } }
  else .next s

/-- Whether the period in progress has an end of its active time before its end, not yet taken. -/
def activeEndDue (c : DriveChannel) : Bool :=
  decide (c.state = .running) && decide (c.tick < activeTime c) && decide (activeTime c < c.period.getD 0)

/-- ACTIVE_TIME_END (R90): at the tick that equals the active time the pin goes to the idle level. -/
def execActiveTimeEnd (ch : Fin 16) (s : State) : Host.Outcome State Fault Refusal :=
  let v := s.dcu.channels
  if worksInPeriods v ch && activeEndDue v[ch] then
    .next { s with dcu := { s.dcu with
      channels := put v ch { v[ch] with tick := activeTime v[ch], divider := 0, pin := v[ch].idle } } }
  else .next s

/-- Whether a channel is a RUNNING raise and lower pair. -/
def isRunningPair (v : Vector DriveChannel 16) (ch : Fin 16) : Bool :=
  decide (ch.1 % 2 = 0) && decide (v[ch].mode = .raise) && decide (v[ch].state = .running)

/-- One base tick of a pair, with its lines (R95, R97). -/
def tickPair (ch : Fin 16) (s : State) : State :=
  { s with dcu := { s.dcu with channels := putPair s.dcu.channels ch (pairBaseTick s.dcu.channels[ch]) } }

/-- PAIR_TICK (R95, R97). -/
def execPairTick (ch : Fin 16) (s : State) : Host.Outcome State Fault Refusal :=
  .next (if isRunningPair s.dcu.channels ch then tickPair ch s else s)

/-- Whether the next base tick ends a move (R95). -/
def moveEndDue (c : DriveChannel) : Bool :=
  (decide (c.sub = .raising) || decide (c.sub = .lowering)) && decide (c.length ≤ c.moved + 1)

/-- MOVE_END (R95): the base tick on which t reaches L. -/
def execMoveEnd (ch : Fin 16) (s : State) : Host.Outcome State Fault Refusal :=
  .next (if isRunningPair s.dcu.channels ch && moveEndDue s.dcu.channels[ch] then tickPair ch s else s)

/-- Whether the next base tick ends a reversal pause or seating run (R97). -/
def pauseEndDue (c : DriveChannel) : Bool :=
  (decide (c.sub = .reversalPause) || decide (c.sub = .seating)) && decide (c.remaining ≤ 1)

/-- PAUSE_END (R97): the base tick on which the remaining ticks reach 0. -/
def execPauseEnd (ch : Fin 16) (s : State) : Host.Outcome State Fault Refusal :=
  .next (if isRunningPair s.dcu.channels ch && pauseEndDue s.dcu.channels[ch] then tickPair ch s else s)

/-! ## A millisecond in which nothing else happens -/

/-- A channel's divider one millisecond on. The tick in period advances with it (R90) up to the tick of the next event
that has a command of its own: the end of the active time, the next period start, the next tick of a pair. -/
def dividerTick (c : DriveChannel) : DriveChannel :=
  if c.state ≠ .running then c
  else if c.divider + 1 < c.baseTick then { c with divider := c.divider + 1 }
  else if c.mode = .raise ∨ c.period.getD 0 ≤ c.tick + 1 ∨ (c.tick < activeTime c ∧ activeTime c ≤ c.tick + 1) then c
  else { c with divider := 0, tick := c.tick + 1 }

end Sys2Proof.Machine
end

