-- ==== Sys2Proof/Machine/Export.lean ====
section
/-!
DEFINITION. Power export: the demand record, the nomination tables and the plan, the export state, the work of the
EXS at a step boundary and a slot end, and the requests of Chapter 6.
-/
namespace Sys2Proof.Machine

/-- `a / b` rounded up. -/
def ceilDiv (a b : Nat) : Nat := (a + b - 1) / b

/-! ## The demand record (R111 to R114) -/

/-- The nomination of the slot in hand (R104). -/
def nominated (e : Exs) : Nat :=
  match e.plan with
  | .valid => e.current[e.slotInHand]
  | .grace => e.held
  | .void => 0

/-- The least of N_slot, the curtail cap (when in force) and Cx (R113). -/
def deliverable (e : Exs) : Nat :=
  min (match e.curtail with | none => nominated e | some c => min (nominated e) c.cap) e.config.capacity

/-- Whether the hold is asserted: the debounced level of the GRID-HOLD line is HIGH (R116). -/
def holdAsserted (lines : Vector EventLine 8) (c : ExportConfig) : Bool :=
  match c.gridHold with
  | none => false
  | some l => decide (lines[l].debounced = .high)

/-- N_eff (R113). -/
def effectiveTarget (hold : Bool) (e : Exs) : Nat :=
  if e.phase = .active ∧ hold = false then deliverable e else 0

/-- The gas power that an exported power needs (R113). -/
def gasPower (eta kW : Nat) : Nat := ceilDiv (kW * 1000) eta

/-- The share weights of the defined POWER consumers, summed (R114). -/
def weightSum (v : Vector Consumer 12) : Nat := ((powerConsumers v).map fun n => v[n].weight.getD 0).sum

/-- floor(G x wc / sum of weights) (R114). -/
def floorShare (v : Vector Consumer 12) (gas : Nat) (n : Fin 12) : Nat := gas * v[n].weight.getD 0 / weightSum v

/-- What the floors leave of G (R114). -/
def shareRemainder (v : Vector Consumer 12) (gas : Nat) : Nat :=
  gas - ((powerConsumers v).map (floorShare v gas)).sum

/-- A consumer's share of G: the remainder goes out 1 kW at a time in ascending consumer number (R114). -/
def gasShare (v : Vector Consumer 12) (gas : Nat) (n : Fin 12) : Nat :=
  floorShare v gas n + (if ((powerConsumers v).filter (· < n)).length < shareRemainder v gas then 1 else 0)

/-- The request formed for a consumer (R114). -/
def powerRequest (phase : ExportState) (v : Vector Consumer 12) (gas : Nat) (n : Fin 12) : Option Nat :=
  if v[n].isPower then
    match phase with
    | .active => some (gasShare v gas n)
    | .armed => some v[n].mc
    | .passive => some v[n].mc
    | .idle => some 0
    | .halted => some 0
  else none

/-- The demand record formed from the state and the inputs as they stand (R112). -/
def formedRecord (s : State) : DemandRecord :=
  let e := s.exs
  let hold := holdAsserted s.fiu.lines e.config
  let neff := effectiveTarget hold e
  let gas := gasPower e.config.eta neff
  { slot := e.slotInHand, state := e.phase, plan := e.plan, nSlot := nominated e, cap := e.curtail.map (·.cap),
    hold := hold, neff := neff, gas := gas, gasNominal := gasPower e.config.eta (deliverable e),
    requests := Vector.ofFn (powerRequest e.phase s.gbu.consumers gas) }

/-- The record formed afresh: the whole record is replaced (R112). -/
def formRecord (s : State) : State := { s with exs := { s.exs with record := formedRecord s } }

/-! ## The export state and the plan status, with their conditions (R110, R124) -/

/-- PLAN-STARVED follows its cause (R124). -/
def followStarved (time : Tag) (s : State) : State :=
  s.follow condPlanStarved (decide (s.exs.plan = .void) && decide (s.exs.phase ≠ .idle)) s.exs.slotInHand.1 time

/-- Whether a change of the export state enters or leaves PASSIVE: then the recovery count becomes 0 (R121). -/
def touchesPassive (a b : ExportState) : Bool := decide (a = .passive) || decide (b = .passive)

/-- The export state becomes `st`: a change is reported to the capture units (R110) and to the conditions of R124;
`haltSource` is the source that an entry of HALTED gives. A state that stays reports nothing. -/
def changeExport (st : ExportState) (haltSource : Nat) (time : Tag) (s : State) : State :=
  if s.exs.phase = st then s
  else
    let s1 := { s with exs := { s.exs with
      phase := st, recoveries := if touchesPassive s.exs.phase st then 0 else s.exs.recoveries } }
    let s2 := s1.follow condExportPassive (decide (st = .passive)) s1.exs.slotInHand.1 time
    let s3 := s2.follow condExportHalted (decide (st = .halted)) haltSource time
    triggerUnits (fun t => decide (t = Trigger.exportChange)) (.exportChange st) (followStarved time s3)

/-- The plan status becomes `plan`, with the conditions that follow it (R124). -/
def changePlan (plan : PlanStatus) (time : Tag) (s : State) : State :=
  let s1 := { s with exs := { s.exs with plan := plan } }
  followStarved time (s1.follow condPlanGrace (decide (plan = .grace)) s1.exs.config.graceSlots time)

/-- NEXT empty: every entry 0 and the written set empty (R102). -/
def emptyNext (e : Exs) : Exs :=
  { e with nextTab := Vector.replicate 96 0, written := Vector.replicate 96 false }

/-- Whether NEXT is COMPLETE (R102). -/
def nextComplete (e : Exs) : Bool := e.written.toList.all id

/-- A swap (R104): NEXT is copied into CURRENT and emptied, and the plan becomes VALID; no grace remains (log entry
15). -/
def swapTables (time : Tag) (s : State) : State :=
  changePlan .valid time { s with exs := emptyNext { s.exs with current := s.exs.nextTab, grace := 0 } }

/-! ## The slot end (R117 to R122) -/

/-- The step items taken under the tag of the ended step: N_eff 0 and sufficiency clear where none are kept (R117). -/
def itemsOf (tag : Tag) (e : Exs) : Nat × Bool :=
  match e.stepItems.find? fun i => decide (i.tag = tag) with
  | some i => (i.neff, i.sufficient)
  | none => (0, false)

/-- The ended step taken into the slot accumulators, and its items removed (R117). -/
def takeStep (b : Boundary) (e : Exs) : Exs :=
  let i := itemsOf b.ended e
  { e with
    stepItems := e.stepItems.filter fun x => decide (x.tag ≠ b.ended)
    acc := { energy := e.acc.energy + i.1 * b.es, steps := e.acc.steps + 1,
             allSufficient := e.acc.allSufficient && i.2, lastNeff := i.1 } }

/-- What an allocation hands over, kept under the tag of the step that begins (R76, R117). -/
def keepStepItem (i : StepItem) (e : Exs) : Exs :=
  { e with stepItems := (e.stepItems.filter fun x => decide (x.tag ≠ i.tag)) ++ [i] }

/-- What stage 1 finds: the measured energy in Wh, the channel whose delta is implausible, if any, and the baseline
that remains (R118). -/
structure Measured where
  energy : Nat
  implausible : Option (Fin 24)
  base : Nat
deriving DecidableEq, Repr

/-- Stage 1: the count of the channel holding EXPORT-ENERGY (R118). -/
def measureExport (v : Vector PulseChannel 24) (steps base : Nat) : Measured :=
  match holderOf v .exportEnergy with
  | none => { energy := 0, implausible := none, base := base }
  | some ch =>
    let delta := deltaOf v ch base
    { energy := delta * v[ch].scale, implausible := if v[ch].limit * steps < delta then some ch else none,
      base := countOf v ch }

/-- En: floor(energy sum x 10 / 36), in Wh (R118). -/
def nominatedEnergy (a : SlotAccumulators) : Nat := a.energy * 10 / 36

/-- Whether the energy deviates by more than the tolerance (R119). -/
def deviates (c : ExportConfig) (measured en : Nat) : Bool :=
  decide (c.tolerance * max en c.floorWh < ((measured : Int) - en).natAbs * 1000)

/-- Stage 2: the verdict (R119). -/
def verdictOf (e : Exs) (m : Measured) : Verdict :=
  if m.implausible.isSome then .unmeasured
  else if e.startState = .active ∧ e.phase = .active then
    (if deviates e.config m.energy (nominatedEnergy e.acc) then .deviant else .compliant)
  else .notExporting

/-- Stage 4: the sufficiency of the ended slot (R121). `stateEnd` is the state at the slot end before its changes. -/
def slotSufficiency (stateEnd : ExportState) (e : Exs) : Sufficiency :=
  if e.startState = .passive ∧ stateEnd = .passive ∧ e.startPlan = .valid ∧ e.plan = .valid then
    (if e.acc.allSufficient then .sufficient else .insufficient)
  else .notJudged

/-- Stage 3: what the verdict does to the deviation count and to the state (R120). -/
def countDeviation (b : Boundary) (v : Verdict) (s : State) : State :=
  match v with
  | .compliant => { s with exs := { s.exs with deviations := 0 } }
  | .deviant =>
    let s1 := ({ s with exs := { s.exs with deviations := s.exs.deviations + 1 } }).raise condSlotDeviant
      b.ended.slot.1 b.ended
    if s1.exs.config.devLimit ≤ s1.exs.deviations then
      changeExport (if s1.exs.config.haltOnDev then .halted else .passive) 1 b.ended s1
    else s1
  | .notExporting => s
  | .unmeasured => s

/-- Stage 4: the first half and the recovery count (R121). -/
def countRecovery (b : Boundary) (suff : Sufficiency) (e : Exs) : Exs :=
  if b.ended.slot.1 % 2 = 0 then { e with firstHalf := suff }
  else if e.firstHalf = .sufficient ∧ suff = .sufficient then
    { e with recoveries := if e.recoveries < e.config.recoveryPairs then e.recoveries + 1 else e.recoveries }
  else { e with recoveries := 0 }

/-- Stage 5: the slot record appended to the log (R122). -/
def appendSlotRecord (r : SlotRecord) (s : State) : State :=
  let full := decide (Config.exportLogSize ≤ s.exs.log.length)
  let old := if full then s.exs.log.tail else s.exs.log
  ({ s with exs := { s.exs with log := old ++ [{ r with gap := full }] } }).follow condExportLogReady true r.slot.1
    s.sck.pos

/-- Stage 6 at a slot end that is no rollover, or at a rollover for which "grace continues" (R106). -/
def updatePlan (time : Tag) (s : State) : State :=
  match s.exs.plan with
  | .valid => s
  | .void => if nextComplete s.exs then swapTables time s else s
  | .grace =>
    if nextComplete s.exs then swapTables time s
    else
      let s1 := { s with exs := { s.exs with grace := s.exs.grace - 1 } }
      if s1.exs.grace = 0 then changePlan .void time s1 else s1

/-- Stage 6 at a frame rollover (R105). -/
def rolloverPlan (time : Tag) (s : State) : State :=
  if nextComplete s.exs then swapTables time s
  else match s.exs.plan with
  | .valid =>
    if s.exs.config.graceSlots = 0 then changePlan .void time s
    else changePlan .grace time
      { s with exs := { s.exs with held := s.exs.current[(95 : Fin 96)], grace := s.exs.config.graceSlots } }
  | .grace => updatePlan time s
  | .void => s

/-- Stage 7: the curtailment countdown (R115). -/
def countCurtailment (e : Exs) : Exs :=
  { e with curtail := e.curtail.bind fun c =>
      if c.remaining ≤ 1 then none else some { c with remaining := c.remaining - 1 } }

/-- ACTIVE entered by stage 8: the deviation count becomes 0 (R109). -/
def enterActive (time : Tag) (s : State) : State :=
  changeExport .active 0 time { s with exs := { s.exs with deviations := 0 } }

/-- Stage 8: the state judgement (R109). -/
def judgeExportState (time : Tag) (s : State) : State :=
  match s.exs.phase with
  | .armed => if s.exs.plan = .valid then enterActive time s else s
  | .active => if s.exs.plan = .void then changeExport .passive 0 time s else s
  | .passive =>
    if 1 ≤ s.exs.config.recoveryPairs ∧ s.exs.recoveries = s.exs.config.recoveryPairs ∧ s.exs.plan = .valid then
      enterActive time s
    else s
  | .idle => s
  | .halted => s

/-- The accumulators emptied and the starting state and plan status recorded (R117). -/
def openSlot (e : Exs) : Exs :=
  { e with acc := SlotAccumulators.zero, startState := e.phase, startPlan := e.plan }

/-- Stage 1's count and its condition, then stages 2 to 5, which concern the slot that has ended (R117). -/
def closeSlot (b : Boundary) (s : State) : State :=
  let stateEnd := s.exs.phase
  let m := measureExport s.fiu.pulses b.stepsPerSlot s.exs.base
  let v := verdictOf s.exs m
  let suff := slotSufficiency stateEnd s.exs
  let s1 := { s with exs := { s.exs with base := m.base } }
  let s2 := match m.implausible with
    | some ch => s1.raise condCountImplausible ch.1 b.ended
    | none => s1
  let s3 := countDeviation b v s2
  let s4 := { s3 with exs := countRecovery b suff s3.exs }
  appendSlotRecord
    { frame := b.ended.frame, slot := b.ended.slot, stateStart := s.exs.startState, stateEnd := stateEnd,
      planEnd := s.exs.plan, neff := s.exs.acc.lastNeff, steps := s.exs.acc.steps,
      nominated := nominatedEnergy s.exs.acc, measured := m.energy, verdict := v, sufficiency := suff,
      deviations := s4.exs.deviations, recoveries := s4.exs.recoveries, gap := false } s4

/-- Stages 6 to 10, which prepare the slot that begins (R117). -/
def prepareSlot (b : Boundary) (s : State) : State :=
  let s6 := if b.rollover then rolloverPlan b.ended s else updatePlan b.ended s
  let s7 := { s6 with exs := countCurtailment s6.exs }
  let s8 := judgeExportState b.ended s7
  formRecord { s8 with exs := openSlot { s8.exs with slotInHand := s8.exs.slotInHand + 1 } }

/-- What the EXS does at a step boundary in RUN: the ended step, and at a slot end the ten stages (R117). -/
def exportBoundary (b : Boundary) (s : State) : State :=
  let s1 := { s with exs := takeStep b s.exs }
  if b.slotEnd then prepareSlot b (closeSlot b s1) else s1

/-! ## MODE-START and MODE-STOP (R110) -/

/-- What MODE-START does to the EXS (R104, R110, R112, R117, R121). -/
def exportModeStart (s : State) : State :=
  let s1 := { s with exs := { s.exs with slotInHand := s.sck.pos.slot, firstHalf := .notJudged } }
  let s2 := if nextComplete s1.exs then swapTables s1.sck.pos s1 else s1
  formRecord { s2 with exs := openSlot s2.exs }

/-- What MODE-STOP, and a warm reset that finds the mode RUN, do to the EXS (R110). -/
def exportModeStop (s : State) : State :=
  let s1 := changeExport .idle 0 s.sck.pos s
  formRecord { s1 with exs := { s1.exs with
    deviations := 0, recoveries := 0, stepItems := [], acc := SlotAccumulators.zero } }

/-- The GRID-HOLD line's change reaches the EXS (R116). -/
def gridHoldChange (line : Fin 8) (s : State) : State :=
  if s.exs.config.gridHold = some line then formRecord s else s

/-! ## EXPORT-SET (R101) -/

/-- The item of EXPORT-SET that fails first, items 1 to 6 and 8 (Table 6-1). -/
def exportItemFailing (f : ExportSetFields) : Option Nat :=
  if f.eta < 100 ∨ 900 < f.eta then some 1
  else if 500000 < f.capacity then some 2
  else if f.tolerance < 1 ∨ 500 < f.tolerance then some 3
  else if f.floorWh < 1 ∨ 16777215 < f.floorWh then some 4
  else if f.devLimit < 1 ∨ 15 < f.devLimit then some 5
  else if 31 < f.recoveryPairs then some 6
  else if 1 < f.haltOnDev then some 7
  else if 8 < f.graceSlots then some 8
  else none

/-- EXPORT-SET (R101). -/
def judgeExportSet (f : ExportSetFields) (s : State) : Answer :=
  if s.lkp.mode = .run ∧ s.exs.phase ≠ .idle then refused .state
  else match exportItemFailing f with
  | some item => rangeItem item
  | none =>
    match (match f.gridHold with | none => some none | some l => (asFin 8 l).map some) with
    | none => rangeItem 9
    | some line =>
      okWith [] (formRecord { s with exs := { s.exs with config :=
        { eta := f.eta, capacity := f.capacity, tolerance := f.tolerance, floorWh := f.floorWh,
          devLimit := f.devLimit, recoveryPairs := f.recoveryPairs, haltOnDev := f.haltOnDev == 0,
          graceSlots := f.graceSlots, gridHold := line } } })

def execExportSet (p : List Byte) (s : State) : Host.Outcome State Fault Refusal :=
  request 0x23 parseExportSet judgeExportSet p s

/-! ## NOMINATE, NOMINATE-CANCEL, NOMINATE-AMEND (R102, R103) -/

/-- The NEXT status as its byte: EMPTY 0, PARTIAL 1, COMPLETE 2 (R102). -/
def nextStatusCode (e : Exs) : Nat :=
  if nextComplete e then 2 else if e.written.toList.any id then 1 else 0

/-- The table with the entries of a request written from `first` on, each clamped to Cx. -/
def writeEntries (f : NominateFields) (cx : Nat) (v : Vector Nat 96) : Vector Nat 96 :=
  each v fun i old => if f.first ≤ i.1 then ((f.entries[i.1 - f.first]?).map (min · cx)).getD old else old

/-- The first slot whose value is clamped, if any (R102). -/
def firstClamped (f : NominateFields) (cx : Nat) : Option Nat :=
  (f.entries.findIdx? fun x => decide (cx < x)).map (f.first + ·)

/-- Whether a slot is written by the request. -/
def coversSlot (f : NominateFields) (i : Fin 96) : Bool := decide (f.first ≤ i.1 ∧ i.1 < f.first + f.count)

/-- The end of NOMINATE and NOMINATE-AMEND: CLAMPED with NOMINATION-CLAMPED raised once, or OK (R102, R103). -/
def nominationDone (payload : List Byte) (clamped : Option Nat) (s : State) : Answer :=
  match clamped with
  | some slot => .done .clamped payload (s.raiseHere condNominationClamped slot)
  | none => okWith payload s

/-- NOMINATE (R102). -/
def judgeNominate (f : NominateFields) (s : State) : Answer :=
  if 95 < f.first then rangeItem 1
  else if f.count < 1 ∨ 48 < f.count ∨ 96 < f.first + f.count then rangeItem 2
  else
    let e := { s.exs with
      nextTab := writeEntries f s.exs.config.capacity s.exs.nextTab,
      written := each s.exs.written fun i w => w || coversSlot f i }
    nominationDone (encCode (nextStatusCode e)) (firstClamped f s.exs.config.capacity) { s with exs := e }

def execNominate (p : List Byte) (s : State) : Host.Outcome State Fault Refusal :=
  request 0x24 parseNominate judgeNominate p s

/-- NOMINATE-CANCEL (R102). -/
def judgeNominateCancel (_ : Unit) (s : State) : Answer := okWith [] { s with exs := emptyNext s.exs }

def execNominateCancel (p : List Byte) (s : State) : Host.Outcome State Fault Refusal :=
  request 0x25 parseNone judgeNominateCancel p s

/-- The current slot of R103: the slot in hand in RUN, the slot of the position in SETUP. -/
def currentSlot (s : State) : Fin 96 :=
  match s.lkp.mode with
  | .run => s.exs.slotInHand
  | .setup => s.sck.pos.slot

/-- NOMINATE-AMEND (R103). -/
def judgeNominateAmend (f : NominateFields) (s : State) : Answer :=
  if s.exs.plan ≠ .valid then refused .state
  else if f.first ≤ (currentSlot s).1 then rangeItem 1
  else if f.count < 1 ∨ 48 < f.count ∨ 96 < f.first + f.count then rangeItem 2
  else nominationDone [] (firstClamped f s.exs.config.capacity)
    { s with exs := { s.exs with current := writeEntries f s.exs.config.capacity s.exs.current } }

def execNominateAmend (p : List Byte) (s : State) : Host.Outcome State Fault Refusal :=
  request 0x26 parseNominate judgeNominateAmend p s

/-! ## EXPORT-ARM, EXPORT-HALT, EXPORT-RELEASE (R107, R108) -/

/-- EXPORT-ARM (R107). -/
def judgeExportArm (_ : Unit) (s : State) : Answer :=
  if s.lkp.mode = .setup ∨ (s.exs.phase ≠ .idle ∧ s.exs.phase ≠ .passive) then refused .state
  else okWith [] (formRecord (changeExport .armed 0 s.sck.pos s))

def execExportArm (p : List Byte) (s : State) : Host.Outcome State Fault Refusal :=
  request 0x27 parseNone judgeExportArm p s

/-- EXPORT-HALT (R108). -/
def judgeExportHalt (_ : Unit) (s : State) : Answer :=
  if s.exs.phase = .idle ∨ s.exs.phase = .halted then refused .state
  else
    let s1 := changeExport .halted 0 s.sck.pos s
    okWith [] (formRecord { s1 with exs := { s1.exs with recoveries := 0 } })

def execExportHalt (p : List Byte) (s : State) : Host.Outcome State Fault Refusal :=
  request 0x28 parseNone judgeExportHalt p s

/-- EXPORT-RELEASE (R108). -/
def judgeExportRelease (_ : Unit) (s : State) : Answer :=
  if s.exs.phase ≠ .halted then refused .state
  else
    let s1 := changeExport .idle 0 s.sck.pos s
    okWith [] (formRecord { s1 with exs := { s1.exs with deviations := 0 } })

def execExportRelease (p : List Byte) (s : State) : Host.Outcome State Fault Refusal :=
  request 0x29 parseNone judgeExportRelease p s

/-! ## CURTAIL, EXPORT-LOG-FETCH, EXPORT-READ, NOMINATION-READ (R115, R123, R125) -/

/-- A cap and a number of slots: 3 bytes and 1 (R115). -/
def parseCurtail (p : List Byte) : Option (Nat × Nat) := parse248 p

/-- CURTAIL (R115). -/
def judgeCurtail (f : Nat × Nat) (s : State) : Answer :=
  if 500000 < f.1 then rangeItem 1
  else if 96 < f.2 then rangeItem 2
  else okWith [] (formRecord { s with exs := { s.exs with
    curtail := if f.2 = 0 then none else some { cap := f.1, remaining := f.2 } } })

def execCurtail (p : List Byte) (s : State) : Host.Outcome State Fault Refusal :=
  request 0x2A parseCurtail judgeCurtail p s

/-- EXPORT-LOG-FETCH (R123). -/
def judgeExportLogFetch (_ : Unit) (s : State) : Answer :=
  let rest := s.exs.log.drop Config.fetchSize
  let s1 := { s with exs := { s.exs with log := rest } }
  okWith (be 1 (s.exs.log.take Config.fetchSize).length ++ (s.exs.log.take Config.fetchSize).flatMap encSlotRecord)
    (if rest.isEmpty then s1.follow condExportLogReady false 0 s.sck.pos else s1)

def execExportLogFetch (p : List Byte) (s : State) : Host.Outcome State Fault Refusal :=
  request 0x2B parseNone judgeExportLogFetch p s

/-- The slot accumulators in the order of R117; the energy sum reaches 500,000 x 65 x 1,800. -/
def encAccumulators (a : SlotAccumulators) : List Byte :=
  be 5 a.energy ++ be 2 a.steps ++ encYes a.allSufficient ++ be 3 a.lastNeff

/-- What EXPORT-READ returns (R125). -/
def exportReadPayload (e : Exs) : List Byte :=
  encExportConfig e.config ++ encCode e.phase.code ++ encCode e.plan.code ++ be 3 e.held ++ be 1 e.grace ++
    encCode (nextStatusCode e) ++ encOpt (fun c : Curtailment => be 3 c.cap ++ be 1 c.remaining) e.curtail ++
    be 1 e.deviations ++ be 1 e.recoveries ++ be 1 e.slotInHand.1 ++ encAccumulators e.acc ++ encDemand e.record ++
    be 1 e.log.length

/-- EXPORT-READ (R125). -/
def judgeExportRead (_ : Unit) (s : State) : Answer := okWith (exportReadPayload s.exs) s

def execExportRead (p : List Byte) (s : State) : Host.Outcome State Fault Refusal :=
  request 0x2C parseNone judgeExportRead p s

/-- The entries a NOMINATION-READ returns: of CURRENT the values; of NEXT each value followed by whether its slot
is in the written set (R125; DESIGN CHOICE, log entry 10). -/
def nominationEntries (next : Bool) (e : Exs) (i : Fin 96) : List Byte :=
  if next then be 3 e.nextTab[i] ++ encYes e.written[i] else be 3 e.current[i]

/-- NOMINATION-READ (R125): CURRENT is 0 and NEXT 1. A table that is neither is judged before the first slot and the
count (DESIGN CHOICE, log entry 11). -/
def judgeNominationRead (f : Nat × Nat × Nat) (s : State) : Answer :=
  if 1 < f.1 then .refuse .range [Config.nominationTableItem]
  else checkRange 96 48 f.2.1 f.2.2
    (okWith (((List.finRange 96).filter fun i => decide (f.2.1 ≤ i.1 ∧ i.1 < f.2.1 + f.2.2)).flatMap
        (nominationEntries (f.1 == 1) s.exs) ++
      encCode (nextStatusCode s.exs) ++ encCode s.exs.plan.code) s)

def execNominationRead (p : List Byte) (s : State) : Host.Outcome State Fault Refusal :=
  request 0x2D parse888 judgeNominationRead p s

end Sys2Proof.Machine
end

