-- ==== Sys2Proof/Machine/Gas.lean ====
section
/-!
DEFINITION. Gas grades and holders: the evaluation of a grade at a step boundary, the holder bands and their
conditions, and the requests of Chapter 3.
-/
namespace Sys2Proof.Machine

/-- Grade entry `g` replaced. -/
def setGrade (g : Fin 3) (e : GradeEntry) (s : State) : State :=
  { s with gbu := { s.gbu with grades := put s.gbu.grades g e } }

/-! ## Holder conditions (R55) -/

/-- The first USED grade in a band. -/
def firstInBand (v : Vector GradeEntry 3) (b : Band) : Option (Fin 3) :=
  (List.finRange 3).find? fun g => v[g].used && decide (v[g].band = b)

/-- One holder condition follows its cause. -/
def followBand (n : Fin 32) (b : Band) (time : Tag) (s : State) : State :=
  let g := firstInBand s.gbu.grades b
  s.follow n g.isSome (g.elim 0 Fin.val) time

/-- HOLDER-LOWLOW and HOLDER-HIGHHIGH follow the bands (R55). -/
def followHolders (time : Tag) (s : State) : State :=
  followBand condHolderHighhigh .highhigh time (followBand condHolderLowlow .lowlow time s)

/-! ## Bands (R48 to R52) -/

/-- The threshold of a band (Table 3-3); LOWLOW has none. -/
def thresholdOf (e : GradeEntry) : Band → Nat
  | .lowlow => 0
  | .low => e.theta1
  | .normal => e.theta2
  | .high => e.theta3
  | .highhigh => e.theta4

/-- The band in which Table 3-3 places a level. -/
def placedBand (e : GradeEntry) (level : Int) : Band :=
  if level < e.theta1 then .lowlow
  else if level < e.theta2 then .low
  else if level < e.theta3 then .normal
  else if level < e.theta4 then .high
  else .highhigh

/-- Whether the level has fallen below the threshold of a band by more than Hy (R52, step 2). -/
def hasFallen (e : GradeEntry) (level : Int) (b : Band) : Bool :=
  decide (level < (thresholdOf e b : Int) - e.hysteresis)

/-- One test of a band: kept, or what the test on the band below gives (R52). -/
def fallOr (e : GradeEntry) (level : Int) (b below : Band) : Band := if hasFallen e level b then below else b

/-- The fall test, repeated on each band it produces (R52). -/
def fallFrom (e : GradeEntry) (level : Int) : Band → Band
  | .lowlow => .lowlow
  | .low => fallOr e level .low .lowlow
  | .normal => fallOr e level .normal (fallOr e level .low .lowlow)
  | .high => fallOr e level .high (fallOr e level .normal (fallOr e level .low .lowlow))
  | .highhigh =>
    fallOr e level .highhigh (fallOr e level .high (fallOr e level .normal (fallOr e level .low .lowlow)))

/-- The rise to the highest band whose threshold the level has reached, or the fall test (R49, R52). -/
def riseOrFall (e : GradeEntry) (level : Int) : Band :=
  if e.band.code < (placedBand e level).code then placedBand e level else fallFrom e level e.band

/-- The band stage: the band and the placed mark after it, from the level where it is usable (R48). -/
def bandStage (e : GradeEntry) (level : Option Int) : Band × Bool :=
  match level with
  | none => (e.band, e.placed)
  | some l => if e.placed then (riseOrFall e l, true) else (placedBand e l, true)

/-! ## The evaluation (R42 to R47, R53) -/

/-- A count taken by the GBU: the delta as used, its clamp mark, the volume and the channel (R43). -/
structure GasCount where
  delta : Nat
  clamped : Bool
  volume : Nat
  channel : Fin 24
deriving DecidableEq, Repr

/-- The count of a role taken against its baseline (R21, R43). -/
def gasCount (v : Vector PulseChannel 24) (role : PulseRole) (base : Nat) : Option GasCount :=
  (holderOf v role).map fun ch =>
    let delta := deltaOf v ch base
    let used := min delta v[ch].limit
    { delta := used, clamped := decide (v[ch].limit < delta), volume := used * v[ch].scale, channel := ch }

/-- The baseline after a count: the present count (R43); kept where no channel holds the role. -/
def baseAfter (v : Vector PulseChannel 24) (role : PulseRole) (base : Nat) : Nat :=
  match holderOf v role with
  | none => base
  | some ch => countOf v ch

/-- COUNT-IMPLAUSIBLE for a count that was clamped (R43). -/
def reportClamp (c : Option GasCount) (time : Tag) (s : State) : State :=
  match c with
  | some x => if x.clamped then s.raise condCountImplausible x.channel.1 time else s
  | none => s

/-- A point's value where it is usable: GOOD or HELD (R44, R46). -/
def usableValue (v : Vector SamplePoint 32) (role : PointRole) : Option Int :=
  match pointOf v role with
  | none => none
  | some sp => if v[sp].quality = .good ∨ v[sp].quality = .held then some v[sp].value else none

/-- Sg: the quotient truncated toward zero (R45). -/
def netSurplus (vs vw cv es : Nat) : Int := (((vs : Int) - vw) * cv).tdiv (1000 * es)

/-- Hg: truncated toward zero, and 0 where the level is unusable (R46). -/
def holderTerm (e : GradeEntry) (level : Option Int) : Int :=
  match level with
  | none => 0
  | some l => ((l - e.target) * e.gain).tdiv 100

/-- Ag (R53). -/
def availablePower (e : GradeEntry) (sg hg : Int) (band : Band) : Nat :=
  if band = .lowlow then 0 else min (sg + hg).toNat e.agMax

/-- The evaluation of an UNUSED grade (R42, R47). -/
def unusedEvaluation (b : Boundary) (e : GradeEntry) : Evaluation :=
  { tag := b.ended, es := b.es, supplyDelta := none, worksDelta := none, supplyClamped := false, worksClamped := false,
    vs := none, vw := none, cv := none, cvSampled := none, level := none, levelQuality := none, sg := 0, hg := 0,
    bandBefore := e.band, bandAfter := e.band, placed := e.placed, ag := 0 }

/-- The evaluation of a USED grade (R42 to R47). -/
def usedEvaluation (b : Boundary) (e : GradeEntry) (g : Fin 3) (points : Vector SamplePoint 32)
    (supply works : Option GasCount) : Evaluation :=
  let vs := supply.elim 0 (·.volume)
  let vw := works.elim 0 (·.volume)
  let sample := usableValue points (.calorific g)
  let cv := sample.elim e.cv Int.toNat
  let level := usableValue points (.holderLevel g)
  let sg := netSurplus vs vw cv b.es
  let hg := holderTerm e level
  let band := bandStage e level
  { tag := b.ended, es := b.es, supplyDelta := some (supply.elim 0 (·.delta)), worksDelta := works.map (·.delta),
    supplyClamped := supply.elim false (·.clamped), worksClamped := works.elim false (·.clamped), vs := some vs,
    vw := some vw, cv := some cv, cvSampled := some sample.isSome,
    level := (pointOf points (.holderLevel g)).map fun sp => points[sp].value,
    levelQuality := (pointOf points (.holderLevel g)).map fun sp => points[sp].quality, sg := sg, hg := hg,
    bandBefore := e.band, bandAfter := band.1, placed := band.2, ag := availablePower e sg hg band.1 }

/-- A grade evaluated at a boundary: its counts move its baselines, its band and placed mark are judged, and its last
evaluation is written (R42). Where both counts were clamped, COUNT-IMPLAUSIBLE is raised for the supply channel first
(DESIGN CHOICE, log entry 13). -/
def evaluateGrade (b : Boundary) (s : State) (g : Fin 3) : State :=
  let e := s.gbu.grades[g]
  if !e.used then setGrade g { e with last := some (unusedEvaluation b e) } s
  else
    let v := s.fiu.pulses
    let supply := gasCount v (.gasSupply g) s.gbu.supplyBase[g]
    let works := gasCount v (.gasWorks g) s.gbu.worksBase[g]
    let x := usedEvaluation b e g s.fiu.points supply works
    let s1 := { s with gbu := { s.gbu with
      supplyBase := put s.gbu.supplyBase g (baseAfter v (.gasSupply g) s.gbu.supplyBase[g]),
      worksBase := put s.gbu.worksBase g (baseAfter v (.gasWorks g) s.gbu.worksBase[g]) } }
    reportClamp works b.ended (reportClamp supply b.ended
      (setGrade g { e with band := x.bandAfter, placed := x.placed, last := some x } s1))

/-- The three grades evaluated, in the order A, B, C, and the holder conditions judged (R42, R55; log entry 13). -/
def evaluateGrades (b : Boundary) (s : State) : State :=
  followHolders b.ended ((List.finRange 3).foldl (evaluateGrade b) s)

/-- The tiers that a band reaches (Table 3-4); an UNUSED grade reaches none. -/
def reaches (e : GradeEntry) (tier : Nat) : Bool :=
  e.used && (match e.band with
    | .lowlow => false
    | .low => decide (tier ≤ 2)
    | .normal => true
    | .high => true
    | .highhigh => true)

/-! ## GRADE-SET, HOLDER-SET, GRADE-READ (R38 to R40) -/

/-- GRADE-SET's fields in their order: the item that fails first, items 3 to 6 (Table 3-1). -/
def gradeItemFailing (f : GradeSetFields) : Option Nat :=
  if f.cv < 1 ∨ 32767 < f.cv then some 3
  else if 2000000 < f.agMax then some 4
  else if 2000000 < f.retain then some 5
  else if 2000000 < f.flareCapacity then some 6
  else none

/-- A baseline taken as a grade comes into use: the present count of the channel that holds the role (R38). -/
def rebaseOnUse (newly : Bool) (v : Vector PulseChannel 24) (role : PulseRole) (base : Nat) : Nat :=
  if newly then baseAfter v role base else base

/-- GRADE-SET as accepted (R38). -/
def gradeSetTo (f : GradeSetFields) (used : Bool) (flare : Option (Fin 16)) (g : Fin 3) (s : State) : State :=
  let e := s.gbu.grades[g]
  let newly := used && !e.used
  let v := s.fiu.pulses
  let supply := rebaseOnUse newly v (.gasSupply g) s.gbu.supplyBase[g]
  let works := rebaseOnUse newly v (.gasWorks g) s.gbu.worksBase[g]
  setGrade g { e with used := used, cv := f.cv, agMax := f.agMax, retain := f.retain,
                      flareCapacity := f.flareCapacity, flareChannel := flare }
    { s with gbu := { s.gbu with
      supplyBase := put s.gbu.supplyBase g supply, worksBase := put s.gbu.worksBase g works } }

/-- GRADE-SET (R38); a change of use may begin or end a holder condition (R55). -/
def judgeGradeSet (f : GradeSetFields) (s : State) : Answer :=
  unlessRun s <|
  match asFin 3 f.grade with
  | none => rangeItem 1
  | some g =>
    match firstOfTwo f.use with
    | none => rangeItem 2
    | some used =>
      match gradeItemFailing f with
      | some item => rangeItem item
      | none =>
        match (match f.flareChannel with | none => some none | some k => (asFin 16 k).map some) with
        | none => rangeItem 7
        | some flare => okWith [] (followHolders s.sck.pos (gradeSetTo f used flare g s))

def execGradeSet (p : List Byte) (s : State) : Host.Outcome State Fault Refusal :=
  request 0x15 parseGradeSet judgeGradeSet p s

/-- HOLDER-SET's fields in their order: the item that fails first, items 2 to 8 (Table 3-2). -/
def holderItemFailing (f : HolderSetFields) : Option Nat :=
  if 10000 < f.target then some 2
  else if 65535 < f.gain then some 3
  else if f.theta1 < 1 ∨ 10000 < f.theta1 then some 4
  else if f.theta2 < f.theta1 + 1 ∨ 10000 < f.theta2 then some 5
  else if f.theta3 < f.theta2 + 1 ∨ 10000 < f.theta3 then some 6
  else if f.theta4 < f.theta3 + 1 ∨ 10000 < f.theta4 then some 7
  else if 1000 < f.hysteresis then some 8
  else none

/-- HOLDER-SET (R39): the band becomes NORMAL and unplaced. -/
def judgeHolderSet (f : HolderSetFields) (s : State) : Answer :=
  unlessRun s <|
  match asFin 3 f.grade with
  | none => rangeItem 1
  | some g =>
    match holderItemFailing f with
    | some item => rangeItem item
    | none =>
      okWith [] (followHolders s.sck.pos (setGrade g { s.gbu.grades[g] with
        target := f.target, gain := f.gain, theta1 := f.theta1, theta2 := f.theta2, theta3 := f.theta3,
        theta4 := f.theta4, hysteresis := f.hysteresis, band := .normal, placed := false } s))

def execHolderSet (p : List Byte) (s : State) : Host.Outcome State Fault Refusal :=
  request 0x16 parseHolderSet judgeHolderSet p s

/-- GRADE-READ (R40). -/
def judgeGradeRead (k : Nat) (s : State) : Answer :=
  match asFin 3 k with
  | none => rangeItem 1
  | some g => okWith (encGrade s g) s

def execGradeRead (p : List Byte) (s : State) : Host.Outcome State Fault Refusal :=
  request 0x17 parse8 judgeGradeRead p s

end Sys2Proof.Machine
end

