-- ==== Sys2Proof/Machine/Allocation.lean ====
section
/-!
DEFINITION. Step allocation: consumer states and targets, the tier loop, flare and retention, the recovered share,
sufficiency, positions and the step record, and the requests of Chapter 4.
-/
namespace Sys2Proof.Machine

/-! ## Consumer states (R58, R77) -/

/-- The state judged from the enable and the main drive channel (R58); a consumer without one is OUT. -/
def judgedState (v : Vector DriveChannel 16) (c : Consumer) : ConsumerState :=
  match c.main with
  | none => .out
  | some ch => if !c.enabled then .out else if channelState v ch = .running then .ready else .blocked

/-- The lowest-numbered BLOCKED consumer. -/
def firstBlocked (v : Vector Consumer 12) : Option (Fin 12) :=
  (List.finRange 12).find? fun n => decide (v[n].state = .blocked)

/-- CONSUMER-BLOCKED follows the consumer states (R77). -/
def followBlocked (time : Tag) (s : State) : State :=
  let n := firstBlocked s.gbu.consumers
  s.follow condConsumerBlocked n.isSome (n.elim 0 Fin.val) time

/-- The consumers replaced. -/
def setConsumers (v : Vector Consumer 12) (s : State) : State := { s with gbu := { s.gbu with consumers := v } }

/-! ## Targets (R63) -/

/-- The upper bound of the ramp window (R63, step 3). -/
def rampTop (c : Consumer) : Nat := if c.pc < c.mc then max (c.pc + c.dc) c.mc else c.pc + c.dc

/-- The target of a consumer from its state and its request (R63). -/
def targetOf (c : Consumer) (state : ConsumerState) (request : Nat) : Nat :=
  if c.defined ∧ state = .ready ∧ request ≠ 0 then
    max (c.pc - c.dc) (min (rampTop c) (max c.mc (min request c.xc)))
  else 0

/-- The request an allocation uses: of the demand record for POWER, of the host for the others (R62, R63).
Of an undefined POWER consumer the demand record holds none (R111), and the step record shows 0 (DESIGN CHOICE, log
entry 25). -/
def requestUsed (r : DemandRecord) (c : Consumer) (n : Fin 12) : Nat :=
  match c.kind with
  | .power => r.requests[n].getD 0
  | .heat => c.request
  | .towngas => c.request

/-! ## Division in proportion, with the remainder 1 kW at a time (R65, R67, R68) -/

/-- The sum of `f` over a list. -/
def sumOver {α : Type} (l : List α) (f : α → Nat) : Nat := (l.map f).sum

/-- The members that take part in the round of the remainder: those below their weight after the floor. -/
def receivers {n : Nat} (members : List (Fin n)) (weight : Fin n → Nat) (amount total : Nat) : List (Fin n) :=
  members.filter fun i => decide (weight i * amount / total < weight i)

/-- What a member gets of `amount`: its whole weight where the weights do not exceed the amount, else the floor of its
proportion, and 1 more for the first members of the round, as many as the floors leave. -/
def share {n : Nat} (members : List (Fin n)) (weight : Fin n → Nat) (amount : Nat) (i : Fin n) : Nat :=
  let total := sumOver members weight
  if i ∉ members then 0
  else if total ≤ amount then weight i
  else
    let rest := amount - sumOver members fun j => weight j * amount / total
    weight i * amount / total + (if i ∈ (receivers members weight amount total).take rest then 1 else 0)

/-! ## The tier loop (R64 to R68) -/

/-- What an allocation has read when the tier loop begins (R61). -/
structure Inputs where
  consumers : Vector Consumer 12
  grades : Vector GradeEntry 3
  targets : Vector Nat 12
  /-- The supplementary channel is RUNNING. -/
  supplementary : Vector Bool 12
deriving DecidableEq, Repr

/-- The results of the tiers done so far. -/
structure Results where
  ug : Vector Nat 3
  ac : Vector Nat 12
  sc : Vector Nat 12
  released : Vector Bool 12
  takes : Vector (Vector Nat 4) 3
  tiers : Vector TierShare 4
deriving DecidableEq, Repr

/-- The consumers of tier `t + 1` in ascending number. -/
def tierMembers (v : Vector Consumer 12) (t : Fin 4) : List (Fin 12) :=
  (List.finRange 12).filter fun n => decide (v[n].tier = t.1 + 1)

/-- The eligible grades of tier `t + 1` (R64). -/
def eligible (v : Vector GradeEntry 3) (t : Fin 4) : List (Fin 3) :=
  (List.finRange 3).filter fun g => reaches v[g] (t.1 + 1)

/-- The supplementary firing of a consumer allotted `ac` (R66). -/
def suppFiring (x : Inputs) (n : Fin 12) (ac : Nat) : Nat :=
  if x.consumers[n].kind = .heat ∧ x.consumers[n].state = .ready ∧ x.supplementary[n] then
    min (x.targets[n] - ac) (x.consumers[n].smax.getD 0)
  else 0

/-- The first pass (R65). -/
def firstPass (x : Inputs) (t : Fin 4) (pool : Nat) (n : Fin 12) : Nat :=
  share (tierMembers x.consumers t) (fun i => x.targets[i]) pool n

/-- Whether a consumer is released (R66). -/
def isReleased (x : Inputs) (n : Fin 12) (ac : Nat) : Bool :=
  decide (0 < ac + suppFiring x n ac ∧ ac + suppFiring x n ac < x.consumers[n].mc)

/-- The consumers that take part in the second pass (R67). -/
def takingPart (x : Inputs) (t : Fin 4) (first : Fin 12 → Nat) : List (Fin 12) :=
  (tierMembers x.consumers t).filter fun n =>
    !isReleased x n (first n) && (decide (0 < first n + suppFiring x n (first n)) || decide (x.consumers[n].mc = 0))

/-- R: the first-pass allocations of the released consumers (R67). -/
def releasedAmount (x : Inputs) (t : Fin 4) (first : Fin 12 → Nat) : Nat :=
  sumOver ((tierMembers x.consumers t).filter fun n => isReleased x n (first n)) first

/-- The allocation of a consumer of the tier after the second pass (R66, R67). -/
def secondPass (x : Inputs) (t : Fin 4) (first : Fin 12 → Nat) (n : Fin 12) : Nat :=
  if isReleased x n (first n) then 0
  else first n + share (takingPart x t first) (fun i => x.targets[i] - first i) (releasedAmount x t first) n

/-- The supplementary firing of a consumer of the tier after the second pass (R66, R67). -/
def finalSupp (x : Inputs) (t : Fin 4) (first : Fin 12 → Nat) (n : Fin 12) : Nat :=
  if n ∈ takingPart x t first then suppFiring x n (secondPass x t first n) else 0

/-- A skipped tier: only its pool is recorded (R64). -/
def skipTier (t : Fin 4) (pool : Nat) (w : Results) : Results :=
  { w with tiers := put w.tiers t { pool := pool, demand := 0, total := 0, skipped := true } }

/-- Tier `t + 1` served (R65 to R68). -/
def serveTier (x : Inputs) (t : Fin 4) (pool demand : Nat) (w : Results) : Results :=
  let members := tierMembers x.consumers t
  let firsts := Vector.ofFn (firstPass x t pool)
  let first := fun n : Fin 12 => firsts[n]
  let ac := each w.ac fun n old => if n ∈ members then secondPass x t first n else old
  let total := sumOver members fun n => ac[n]
  let take := share (eligible x.grades t) (fun g => w.ug[g]) total
  { ug := each w.ug fun g u => u - take g
    ac := ac
    sc := each w.sc fun n old => if n ∈ members then finalSupp x t first n else old
    released := each w.released fun n old => if n ∈ members then isReleased x n (first n) else old
    takes := each w.takes fun g old => put old t (take g)
    tiers := put w.tiers t { pool := pool, demand := demand, total := total, skipped := false } }

/-- The eligible pool of tier `t + 1` (R64). -/
def tierPool (x : Inputs) (t : Fin 4) (w : Results) : Nat := sumOver (eligible x.grades t) fun g => w.ug[g]

/-- The demand of tier `t + 1`: only READY consumers have a target above 0 (R63, R64). -/
def tierDemand (x : Inputs) (t : Fin 4) : Nat := sumOver (tierMembers x.consumers t) fun n => x.targets[n]

/-- One tier of the loop (R64). -/
def tierStep (x : Inputs) (w : Results) (t : Fin 4) : Results :=
  if tierDemand x t = 0 then skipTier t (tierPool x t w) w else serveTier x t (tierPool x t w) (tierDemand x t) w

/-- Before tier 1: each grade has its Ag, every result is 0 (R61). -/
def Results.start (ag : Vector Nat 3) : Results :=
  { ug := ag, ac := Vector.replicate 12 0, sc := Vector.replicate 12 0, released := Vector.replicate 12 false,
    takes := Vector.replicate 3 (Vector.replicate 4 0),
    tiers := Vector.replicate 4 { pool := 0, demand := 0, total := 0, skipped := true } }

/-- The tier loop (R61). -/
def tierLoop (x : Inputs) (ag : Vector Nat 3) : Results := (List.finRange 4).foldl (tierStep x) (Results.start ag)

/-! ## After the tiers (R69 to R72) -/

/-- The consumers in tier order, then in ascending number (R69). -/
def tierOrder (v : Vector Consumer 12) : List (Fin 12) := (List.finRange 4).flatMap (tierMembers v)

/-- The first consumer that fell short, if any (R69). -/
def firstShort (x : Inputs) (w : Results) : Option (Fin 12) :=
  (tierOrder x.consumers).find? fun n => decide (w.ac[n] + w.sc[n] < x.targets[n])

/-- The flare amount of a grade whose remaining power is `ug` (R70). -/
def flareAmount (e : GradeEntry) (running : Bool) (ug : Nat) : Nat :=
  if e.used && running then
    match e.band with
    | .high => min e.flareCapacity (ug - e.retain)
    | .highhigh => min ug e.flareCapacity
    | _ => 0
  else 0

/-- The HEAT consumers, defined or not (R71). -/
def heatConsumers (v : Vector Consumer 12) : List (Fin 12) :=
  (List.finRange 12).filter fun n => decide (v[n].kind = .heat)

/-- The firing of the HEAT consumers from purchased fuel and by-product gas together (R71). -/
def heatFiring (x : Inputs) (w : Results) : Nat := sumOver (heatConsumers x.consumers) fun n => w.ac[n] + w.sc[n]

/-- The recovered share: held at `old` where no HEAT consumer fires (R71). -/
def recoveredShare (x : Inputs) (w : Results) (old : Nat) : Nat :=
  if heatFiring x w = 0 then old
  else 1000 * sumOver (heatConsumers x.consumers) (fun n => w.ac[n]) / heatFiring x w

/-- The sufficiency flag (R72). -/
def sufficiencyFlag (v : Vector Consumer 12) (w : Results) (gNominal : Nat) : Bool :=
  match (powerConsumers v).head? with
  | none => false
  | some n =>
    match asFin 4 (v[n].tier - 1) with
    | none => false
    | some t => decide (gNominal ≤ w.tiers[t].pool)

/-! ## Positions (R73) -/

/-- A position in 0.01 %: floor(amount x 10,000 / full), 0 where full is 0. -/
def positionOf (amount full : Nat) : Nat := amount * 10000 / full

/-- A position handed to a channel, where there is one. -/
def handTo (ch : Option (Fin 16)) (source : DriveSource) (p : Nat) (v : Vector DriveChannel 16) :
    Vector DriveChannel 16 :=
  match ch with
  | none => v
  | some ch => handPosition v ch source p

/-- The positions of a consumer's channels handed over: of its main channel, which a defined consumer has, and of the
supplementary channel that a HEAT consumer names, defined or not (R73). -/
def handConsumer (x : Inputs) (w : Results) (v : Vector DriveChannel 16) (n : Fin 12) : Vector DriveChannel 16 :=
  let c := x.consumers[n]
  let v1 := handTo c.main (.consumerMain n) (positionOf w.ac[n] c.xc) v
  if c.kind = .heat then handTo c.supp (.consumerSupp n) (positionOf w.sc[n] (c.smax.getD 0)) v1 else v1

/-- The position of a grade's flare channel handed over. -/
def handFlare (x : Inputs) (flares : Vector Nat 3) (v : Vector DriveChannel 16) (g : Fin 3) :
    Vector DriveChannel 16 :=
  let e := x.grades[g]
  if e.used then handTo e.flareChannel (.flare g) (positionOf flares[g] e.flareCapacity) v else v

/-- Every position of an allocation handed to its drive channel (R73, R76). -/
def handPositions (x : Inputs) (w : Results) (flares : Vector Nat 3) (v : Vector DriveChannel 16) :
    Vector DriveChannel 16 :=
  (List.finRange 3).foldl (handFlare x flares) ((List.finRange 12).foldl (handConsumer x w) v)

/-! ## The allocation (R61) -/

/-- Whether a channel, where there is one, is RUNNING. -/
def channelRunning (v : Vector DriveChannel 16) (ch : Option (Fin 16)) : Bool :=
  match ch with
  | none => false
  | some ch => decide (channelState v ch = .running)

/-- The consumers with their states judged (R58). -/
def judgedConsumers (s : State) : Vector Consumer 12 :=
  each s.gbu.consumers fun _ c => { c with state := judgedState s.dcu.channels c }

/-- What the allocation reads: states, targets and channels (R61 to R63). -/
def inputsOf (s : State) : Inputs :=
  let v := judgedConsumers s
  { consumers := v, grades := s.gbu.grades
    targets := Vector.ofFn fun n => targetOf v[n] v[n].state (requestUsed s.exs.record v[n] n)
    supplementary := Vector.ofFn fun n => channelRunning s.dcu.channels v[n].supp }

/-- The Ag that the evaluation has handed over (R54). -/
def handedPower (v : Vector GradeEntry 3) : Vector Nat 3 :=
  Vector.ofFn fun g => match v[g].last with | some x => x.ag | none => 0

/-- The flare amounts (R70). -/
def flaresOf (s : State) (w : Results) : Vector Nat 3 :=
  Vector.ofFn fun g =>
    flareAmount s.gbu.grades[g] (channelRunning s.dcu.channels s.gbu.grades[g].flareChannel) w.ug[g]

/-- The grade's part of the step record (R75). -/
def gradeShareOf (e : GradeEntry) (ag flare ug : Nat) (takes : Vector Nat 4) : GradeShare :=
  { sg := e.last.elim 0 (·.sg), hg := e.last.elim 0 (·.hg), ag := ag, band := e.band, takes := takes, flare := flare,
    retained := ug - flare }

/-- The step record of an allocation (R75). -/
def stepRecordOf (b : Boundary) (s : State) (x : Inputs) (w : Results) (flares : Vector Nat 3) : StepRecord :=
  let r := s.exs.record
  let ag := handedPower s.gbu.grades
  { ended := b.ended, es := b.es, begins := b.begins, slot := r.slot, neff := r.neff, gNominal := r.gasNominal
    grades := Vector.ofFn fun g => gradeShareOf s.gbu.grades[g] ag[g] flares[g] w.ug[g] w.takes[g]
    tiers := w.tiers
    consumers := Vector.ofFn fun n =>
      { state := x.consumers[n].state, request := requestUsed r x.consumers[n] n, target := x.targets[n],
        ac := w.ac[n], sc := w.sc[n], released := w.released[n] }
    rho := recoveredShare x w s.gbu.rhoNow.value, rhoHeld := decide (heatFiring x w = 0)
    sufficient := sufficiencyFlag x.consumers w r.gasNominal }

/-- CONSUMER-RELEASED, once for each released consumer (R66): the tiers in their order and, within a tier, of which R66
and R177 state no order, the consumers in ascending number (DESIGN CHOICE, log entry 13). -/
def raiseReleased (x : Inputs) (w : Results) (time : Tag) (s : State) : State :=
  (tierOrder x.consumers).foldl
    (fun s n => if w.released[n] then s.raise condConsumerReleased n.1 time else s) s

/-- POOL-SHORT, once, with the first consumer that fell short (R69). -/
def raiseShort (x : Inputs) (w : Results) (time : Tag) (s : State) : State :=
  match firstShort x w with
  | some n => s.raise condPoolShort n.1 time
  | none => s

/-- FLARING follows the flares of the step record (R70). -/
def followFlaring (flares : Vector Nat 3) (time : Tag) (s : State) : State :=
  let g := (List.finRange 3).find? fun g => decide (0 < flares[g])
  s.follow condFlaring g.isSome (g.elim 0 Fin.val) time

/-- The GBU with the record of an allocation, the rho pairs moved on and each Pc at its firing (R71, R74, R75). -/
def allocatedGbu (b : Boundary) (x : Inputs) (w : Results) (r : StepRecord) (u : Gbu) : Gbu :=
  { u with
    consumers := each x.consumers fun n c => { c with pc := w.ac[n] + w.sc[n] }
    stepRecord := some r
    rhoPrev := some u.rhoNow
    rhoNow := { tag := some b.begins, value := r.rho } }

/-- The results written and handed over (R71, R73 to R76). -/
def writeAllocation (b : Boundary) (x : Inputs) (w : Results) (flares : Vector Nat 3) (r : StepRecord) (s : State) :
    State :=
  { s with
    gbu := allocatedGbu b x w r s.gbu
    dcu := { s.dcu with channels := handPositions x w flares s.dcu.channels }
    exs := keepStepItem { tag := b.begins, neff := r.neff, sufficient := r.sufficient } s.exs }

/-- The allocation at a step boundary in RUN (R61). -/
def allocate (b : Boundary) (s : State) : State :=
  let x := inputsOf s
  let w := tierLoop x (handedPower s.gbu.grades)
  let flares := flaresOf s w
  let r := stepRecordOf b s x w flares
  let s1 := followBlocked b.ended (setConsumers x.consumers s)
  let s2 := raiseShort x w b.ended (raiseReleased x w b.ended s1)
  followFlaring flares b.ended (writeAllocation b x w flares r s2)

/-- What the GBU does at a step boundary in RUN: the evaluation, then the allocation (R42, R61). -/
def balanceBoundary (b : Boundary) (s : State) : State := allocate b (evaluateGrades b s)

/-- What MODE-STOP, and a warm reset in RUN, do to the allocation's state (R74). -/
def allocationModeStop (s : State) : State :=
  (setConsumers (each s.gbu.consumers fun _ c => { c with pc := 0 }) s).follow condFlaring false 0 s.sck.pos

/-- What MODE-START does to the GBU: placed marks cleared, and the rho pairs (R44, R71). -/
def balanceModeStart (s : State) : State :=
  { s with gbu := { s.gbu with
    grades := each s.gbu.grades fun _ e => { e with placed := false },
    rhoPrev := none, rhoNow := { tag := some s.sck.pos, value := s.gbu.rhoNow.value } } }

/-! ## CONSUMER-SET, CONSUMER-ENABLE, REQUEST-SET, CONSUMER-READ, STEP-READ (R57 to R59, R75) -/

/-- Whether item 8 is permitted: HEAT with a channel other than the main one, or absent (Table 4-2). -/
def suppFits (kind : ConsumerKind) (main supp : Option Nat) : Bool :=
  match supp with
  | none => true
  | some k => decide (kind = .heat) && decide (k < 16) && decide (main ≠ some k)

/-- Whether item 10 is permitted (Table 4-2). -/
def weightFits (kind : ConsumerKind) (weight : Option Nat) : Bool :=
  match kind, weight with
  | .power, some w => decide (1 ≤ w ∧ w ≤ 100)
  | .power, none => false
  | _, none => true
  | _, some _ => false

/-- Whether item 9 is permitted (Table 4-2). -/
def smaxFits (supp smax : Option Nat) : Bool :=
  match supp, smax with
  | none, none => true
  | some _, some k => decide (1 ≤ k ∧ k ≤ 2000000)
  | _, _ => false

/-- The item of CONSUMER-SET that fails first, items 3 to 10 (Table 4-2). -/
def consumerItemFailing (f : ConsumerSetFields) (kind : ConsumerKind) : Option Nat :=
  if f.tier < 1 ∨ 4 < f.tier then some 3
  else if (f.mc < 1 ∧ kind ≠ .towngas) ∨ 2000000 < f.mc then some 4
  else if f.xc < f.mc ∨ 2000000 < f.xc ∨ f.xc = 0 then some 5
  else if f.dc < 1 ∨ 2000000 < f.dc then some 6
  else if 15 < f.main.getD 0 then some 7
  else if !suppFits kind f.main f.supp then some 8
  else if !smaxFits f.supp f.smax then some 9
  else if !weightFits kind f.weight then some 10
  else none

/-- A consumer as CONSUMER-SET writes it (R57). -/
def consumerSetTo (f : ConsumerSetFields) (kind : ConsumerKind) (c : Consumer) : Consumer :=
  let main := f.main.bind (asFin 16)
  { c with
    kind := kind, tier := f.tier, mc := f.mc, xc := f.xc, dc := f.dc, main := main,
    supp := f.supp.bind (asFin 16), smax := f.smax, weight := f.weight
    request := if kind = .power then 0 else min c.request f.xc
    enabled := c.enabled && main.isSome
    state := if main.isSome then c.state else .out }

/-- CONSUMER-SET (R57); a state set OUT may end CONSUMER-BLOCKED (R77). -/
def judgeConsumerSet (f : ConsumerSetFields) (s : State) : Answer :=
  unlessRun s <|
  match asFin 12 f.consumer with
  | none => rangeItem 1
  | some n =>
    match consumerKindOf f.kind with
    | none => rangeItem 2
    | some kind =>
      match consumerItemFailing f kind with
      | some item => rangeItem item
      | none =>
        let s1 := setConsumers (put s.gbu.consumers n (consumerSetTo f kind s.gbu.consumers[n])) s
        okWith [] (if f.main.isSome then s1 else followBlocked s.sck.pos s1)

def execConsumerSet (p : List Byte) (s : State) : Host.Outcome State Fault Refusal :=
  request 0x18 parseConsumerSet judgeConsumerSet p s

/-- CONSUMER-ENABLE (R58): IN is 0 and OUT is 1. -/
def judgeConsumerEnable (f : Nat × Nat) (s : State) : Answer :=
  match asFin 12 f.1 with
  | none => rangeItem 1
  | some n =>
    let c := s.gbu.consumers[n]
    match firstOfTwo f.2 with
    | none => rangeItem 2
    | some enable =>
      if enable && c.main.isNone then rangeItem 2
      else
        let c1 := { c with enabled := enable }
        let c2 := { c1 with state := judgedState s.dcu.channels c1 }
        okWith [] (followBlocked s.sck.pos (setConsumers (put s.gbu.consumers n c2) s))

def execConsumerEnable (p : List Byte) (s : State) : Host.Outcome State Fault Refusal :=
  request 0x19 parse88 judgeConsumerEnable p s

/-- REQUEST-SET (R59). -/
def judgeRequestSet (f : Nat × Nat) (s : State) : Answer :=
  match asFin 12 f.1 with
  | none => rangeItem 1
  | some n =>
    let c := s.gbu.consumers[n]
    if c.kind = .power then rangeItem 1
    else .done (if f.2 ≤ c.xc then .ok else .clamped) []
      (setConsumers (put s.gbu.consumers n { c with request := min f.2 c.xc }) s)

def execRequestSet (p : List Byte) (s : State) : Host.Outcome State Fault Refusal :=
  request 0x1A parse824 judgeRequestSet p s

/-- CONSUMER-READ (R59). -/
def judgeConsumerRead (k : Nat) (s : State) : Answer :=
  match asFin 12 k with
  | none => rangeItem 1
  | some n => okWith (encConsumer s.gbu.consumers[n]) s

def execConsumerRead (p : List Byte) (s : State) : Host.Outcome State Fault Refusal :=
  request 0x1B parse8 judgeConsumerRead p s

/-- STEP-READ (R75). -/
def judgeStepRead (_ : Unit) (s : State) : Answer := okWith (encOpt encStepRecord s.gbu.stepRecord) s

def execStepRead (p : List Byte) (s : State) : Host.Outcome State Fault Refusal :=
  request 0x1C parseNone judgeStepRead p s

end Sys2Proof.Machine
end

