-- ==== Sys2Proof/Machine/Clock.lean ====
section
/-!
DEFINITION. Schedule clock, slot timers and capture units: the requests of Chapter 1 and the start of a step.
-/
namespace Sys2Proof.Machine

/-! ## The start of a step -/

/-- Whether an ARMED timer matches the step named by the position (Table 1-12). -/
def timerMatches (t : SlotTimer) (pos : Tag) : Bool :=
  t.armed && (match t.slot with | none => true | some n => decide (n = pos.slot)) && decide (t.offset = pos.step)

/-- A timer expires (R11): its condition is raised, its capture unit is triggered if that unit's trigger is TIMER, and a
ONCE timer becomes IDLE. -/
def expireTimer (n : Fin 4) (s : State) : State :=
  let t := s.sck.timers[n]
  let s1 := s.raise (condTimer n) n.1 s.sck.pos
  let s2 := match t.unit with
    | some u => if s1.sck.units[u].trigger = Trigger.timer then triggerUnit u (.timer n) s1 else s1
    | none => s1
  { s2 with sck := { s2.sck with timers := put s2.sck.timers n { t with armed := decide (t.again ≠ TimerRepeat.once) } } }

/-- The slot timers at the start of the step named by the position, in ascending number (R11). -/
def stepStart (s : State) : State :=
  (List.finRange 4).foldl (fun s n => if timerMatches s.sck.timers[n] s.sck.pos then expireTimer n s else s) s

/-! ## CLOCK-SET, CLOCK-TRIM, CLOCK-READ -/

/-- Whether SLOT_S is permitted (Table 1-9). -/
def slotSPermitted (n : Nat) : Bool := n == 300 || n == 600 || n == 900 || n == 1800 || n == 3600

/-- The clock as CLOCK-SET leaves it (R7). -/
def clockSetTo (f : ClockSetFields) (slot : Fin 96) (c : Sck) : Sck :=
  { c with slotS := f.slotS, stepS := f.stepS, pos := { frame := f.frame, slot := slot, step := f.step },
           trim := 0, endCount := f.stepS }

/-- CLOCK-SET (R7, Table 1-11). -/
def judgeClockSet (f : ClockSetFields) (s : State) : Answer :=
  unlessRun s <|
  if !slotSPermitted f.slotS then rangeItem 1
  else if f.stepS < 2 ∨ 60 < f.stepS ∨ f.slotS % f.stepS ≠ 0 then rangeItem 2
  else if 65535 < f.frame then rangeItem 3
  else match asFin 96 f.slot with
  | none => rangeItem 4
  | some slot =>
    if f.slotS / f.stepS ≤ f.step then rangeItem 5
    else if s.sck.timers.toList.any (fun t => t.armed && decide (f.slotS / f.stepS ≤ t.offset)) then rangeItem 2
    else okWith [] { s with sck := clockSetTo f slot s.sck }

def execClockSet (p : List Byte) (s : State) : Host.Outcome State Fault Refusal :=
  request 0x06 parseClockSet judgeClockSet p s

/-- An integer clamped into a range (section 0.5.2). -/
def clampInt (lo hi z : Int) : Int := max lo (min hi z)

/-- The trim total after a trim of `t` seconds: both clamps of R8. -/
def trimTotal (c : Sck) (t : Int) : Int := clampInt (-5) 5 (c.trim + clampInt (-5) 5 t)

/-- The end count after a new trim total, `e` whole seconds into the step (R8, steps 3 to 5). -/
def trimmedEnd (c : Sck) (trim : Int) : Nat :=
  let e := elapsedCount c / 1000
  let candidate := (c.stepS : Int) + trim
  if (e : Int) + 2 ≤ candidate then candidate.toNat else min (e + 2) c.endCount

/-- CLOCK-TRIM (R8). -/
def judgeClockTrim (t : Int) (s : State) : Answer :=
  match s.lkp.mode with
  | .setup => refused .state
  | .run =>
    let trim := trimTotal s.sck t
    let c := { s.sck with trim := trim, endCount := trimmedEnd s.sck trim }
    let exact := clampInt (-5) 5 t = t ∧ trim = s.sck.trim + clampInt (-5) 5 t
    .done (if exact then .ok else .clamped) (beInt 1 trim ++ be 1 c.endCount) { s with sck := c }

def execClockTrim (p : List Byte) (s : State) : Host.Outcome State Fault Refusal :=
  request 0x07 parseSigned judgeClockTrim p s

/-- What CLOCK-READ returns (R9). -/
def clockReadPayload (c : Sck) : List Byte :=
  encCode (runningCode c.running) ++ encTag c.pos ++ be 2 c.slotS ++ be 1 c.stepS ++ be 2 (stepsPerSlot c) ++
    beInt 1 c.trim ++ be 1 c.endCount ++ be 2 (elapsedCount c) ++ c.timers.toList.flatMap encTimer ++
    c.units.toList.flatMap encUnit ++ be 1 c.log.length

/-- CLOCK-READ (R9). -/
def judgeClockRead (_ : Unit) (s : State) : Answer := okWith (clockReadPayload s.sck) s

def execClockRead (p : List Byte) (s : State) : Host.Outcome State Fault Refusal :=
  request 0x08 parseNone judgeClockRead p s

/-! ## TIMER-SET, TIMER-DISARM -/

/-- The slot a field names: 0..95, or ANY as 96. -/
def timerSlotOf (k : Nat) : Option (Option (Fin 96)) :=
  if k = 96 then some none else (asFin 96 k).map some

/-- Whether a repeat is permitted for a slot (R10). -/
def repeatFits (slot : Option (Fin 96)) (again : TimerRepeat) : Bool :=
  match slot, again with
  | some _, .eachSlot => false
  | none, .eachFrame => false
  | _, _ => true

/-- An optional index below `n`: `none` when it is present and out of range. -/
def optIndex (n : Nat) (k : Option Nat) : Option (Option (Fin n)) :=
  match k with
  | none => some none
  | some k => (asFin n k).map some

/-- TIMER-SET (R10). -/
def judgeTimerSet (f : TimerSetFields) (s : State) : Answer :=
  match asFin 4 f.timer with
  | none => rangeItem 1
  | some n =>
    if s.sck.timers[n].armed then refused .state
    else match timerSlotOf f.slot with
    | none => rangeItem 2
    | some slot =>
      if stepsPerSlot s.sck ≤ f.offset then rangeItem 3
      else match timerRepeatOf f.again with
      | none => rangeItem 4
      | some again =>
        if !repeatFits slot again then rangeItem 4
        else match optIndex 4 f.unit with
        | none => rangeItem 5
        | some unit =>
          okWith [] { s with sck := { s.sck with
            timers := put s.sck.timers n { slot := slot, offset := f.offset, again := again, unit := unit, armed := true } } }

def execTimerSet (p : List Byte) (s : State) : Host.Outcome State Fault Refusal :=
  request 0x09 parseTimerSet judgeTimerSet p s

/-- TIMER-DISARM (R10). -/
def judgeTimerDisarm (k : Nat) (s : State) : Answer :=
  match asFin 4 k with
  | none => rangeItem 1
  | some n => okWith [] { s with sck := { s.sck with timers := put s.sck.timers n { s.sck.timers[n] with armed := false } } }

def execTimerDisarm (p : List Byte) (s : State) : Host.Outcome State Fault Refusal :=
  request 0x0A parse8 judgeTimerDisarm p s

/-! ## CAPTURE-SET, CAPTURE-DISARM, CAPTURE-TRIGGER, CAPTURE-FETCH -/

/-- The trigger that the fields of CAPTURE-SET name, or the item that fails: 2 the kind, 3 line and edge (R13). -/
def triggerOf (f : CaptureSetFields) : Except Nat Trigger :=
  if f.trigger = 0 then
    match f.line.bind (asFin 8), f.edge.bind edgeOf with
    | some line, some edge => .ok (.event line edge)
    | _, _ => .error 3
  else if f.trigger = 1 then .ok .timer
  else if f.trigger = 2 then .ok .exportChange
  else if f.trigger = 3 then .ok .request
  else .error 2

/-- CAPTURE-SET (R13). -/
def judgeCaptureSet (f : CaptureSetFields) (s : State) : Answer :=
  match asFin 4 f.unit with
  | none => rangeItem 1
  | some u =>
    if s.sck.units[u].armed then refused .state
    else match triggerOf f with
    | .error item => rangeItem item
    | .ok trigger =>
      match optIndex 24 f.snapshot with
      | none => rangeItem 4
      | some snapshot =>
        if 1 < f.mode then rangeItem 5
        else okWith [] { s with sck := { s.sck with
          units := put s.sck.units u { trigger := trigger, snapshot := snapshot, continuous := f.mode == 1, armed := true } } }

def execCaptureSet (p : List Byte) (s : State) : Host.Outcome State Fault Refusal :=
  request 0x0B parseCaptureSet judgeCaptureSet p s

/-- CAPTURE-DISARM (R13). -/
def judgeCaptureDisarm (k : Nat) (s : State) : Answer :=
  match asFin 4 k with
  | none => rangeItem 1
  | some u => okWith [] { s with sck := { s.sck with units := put s.sck.units u { s.sck.units[u] with armed := false } } }

def execCaptureDisarm (p : List Byte) (s : State) : Host.Outcome State Fault Refusal :=
  request 0x0C parse8 judgeCaptureDisarm p s

/-- CAPTURE-TRIGGER (R15): an ARMED unit is triggered whatever its trigger kind. -/
def judgeCaptureTrigger (k : Nat) (s : State) : Answer :=
  match asFin 4 k with
  | none => rangeItem 1
  | some u => if s.sck.units[u].armed then okWith [] (triggerUnit u .request s) else refused .state

def execCaptureTrigger (p : List Byte) (s : State) : Host.Outcome State Fault Refusal :=
  request 0x0D parse8 judgeCaptureTrigger p s

/-- A fetch reply: the number of records, then the records (R168). -/
def fetchPayload {α : Type} (enc : α → List Byte) (rs : List α) : List Byte := be 1 rs.length ++ rs.flatMap enc

/-- CAPTURE-FETCH (R17): up to 4 of the oldest records leave the log; CAPTURE-READY leaves active when it empties. -/
def judgeCaptureFetch (_ : Unit) (s : State) : Answer :=
  let rest := s.sck.log.drop Config.fetchSize
  let s1 := { s with sck := { s.sck with log := rest } }
  okWith (fetchPayload encCapture (s.sck.log.take Config.fetchSize))
    (if rest.isEmpty then s1.follow condCaptureReady false 0 s.sck.pos else s1)

def execCaptureFetch (p : List Byte) (s : State) : Host.Outcome State Fault Refusal :=
  request 0x0E parseNone judgeCaptureFetch p s

end Sys2Proof.Machine
end

