-- ==== Sys2Proof/Machine/Account.lean ====
section
/-!
DEFINITION. Accounts, tariffs and billing periods: the directory and its lookups, the lookaside, booking, the close
of a period and emission, and the requests of Chapter 8 but PERIOD-CLOSE, which stands with the retire queue.
-/
namespace Sys2Proof.Machine

/-! ## Groups and lookups (R145) -/

/-- The primary group of a key: its four 6-bit chunks, exclusive-or'ed (R145). -/
def primaryGroup (key : Nat) : Nat :=
  (key % 64) ^^^ (key / 64 % 64) ^^^ (key / 4096 % 64) ^^^ (key / 262144 % 64)

/-- The secondary group of a key (R145). -/
def secondaryGroup (key : Nat) : Nat := 63 - primaryGroup key

/-- The entries of group `g`, 4g to 4g + 3. -/
def groupEntries (g : Nat) : List (Fin 256) := [0, 1, 2, 3].map fun j => Fin.ofNat 256 (4 * g + j)

/-- Whether an entry is valid, holds the key and has this H mark. -/
def holdsKey (key : Nat) (secondary : Bool) (e : DirEntry) : Bool :=
  e.valid && (e.secondary == secondary) && decide (e.key = key)

/-- A lookup of a key: the entry that holds it, `none` where the key is absent (R145). -/
def lookup (d : Vector DirEntry 256) (key : Nat) : Option (Fin 256) :=
  match (groupEntries (primaryGroup key)).find? fun i => holdsKey key false d[i] with
  | some i => some i
  | none => (groupEntries (secondaryGroup key)).find? fun i => holdsKey key true d[i]

/-- The lowest-numbered entry of a group that is not valid. -/
def freeEntry (d : Vector DirEntry 256) (g : Nat) : Option (Fin 256) :=
  (groupEntries g).find? fun i => !d[i].valid

/-- Whether a key is 1..16,777,215. -/
def keyInRange (key : Nat) : Bool := decide (1 ≤ key ∧ key ≤ 16777215)

/-- Entry `i` of the directory replaced. -/
def setEntry (i : Fin 256) (e : DirEntry) (s : State) : State :=
  { s with abu := { s.abu with directory := put s.abu.directory i e } }

/-! ## ACCOUNT-ADD and its companions (R146 to R149) -/

/-- The entry a new account takes and its H mark (R146, steps 4 to 6). -/
def placeFor (d : Vector DirEntry 256) (key : Nat) : Option (Fin 256 × Bool) :=
  match freeEntry d (primaryGroup key) with
  | some i => some (i, false)
  | none => (freeEntry d (secondaryGroup key)).map fun i => (i, true)

/-- A new account: ACTIVE, every field of both banks 0 (R146). -/
def newAccount (key : Nat) (secondary : Bool) (tariff : Fin 8) : DirEntry :=
  { valid := true, key := key, secondary := secondary, tariff := tariff, suspended := false,
    banks := Vector.replicate 2 Bank.zero }

/-- The H mark as a byte. -/
def markByte (secondary : Bool) : List Byte := be 1 (if secondary then 1 else 0)

/-- ACCOUNT-ADD (R146). -/
def judgeAccountAdd (f : Nat × Nat) (s : State) : Answer :=
  if !keyInRange f.1 then rangeItem 1
  else match asFin 8 f.2 with
  | none => rangeItem 2
  | some tariff =>
    match lookup s.abu.directory f.1 with
    | some _ => refused .duplicate
    | none =>
      match placeFor s.abu.directory f.1 with
      | none => refused .full
      | some (i, h) => okWith (be 1 i.1 ++ markByte h) (setEntry i (newAccount f.1 h tariff) s)

def execAccountAdd (p : List Byte) (s : State) : Host.Outcome State Fault Refusal :=
  request 0x33 parse248 judgeAccountAdd p s

/-- A request that names an account: RANGE, item 1, then ABSENT, then what `f` answers for the entry found (R147 to
R149). -/
def withAccount (key : Nat) (s : State) (f : Fin 256 → DirEntry → Answer) : Answer :=
  if !keyInRange key then rangeItem 1
  else match lookup s.abu.directory key with
  | none => refused .absent
  | some i => f i s.abu.directory[i]

/-- Whether either bank of an entry holds readings. -/
def holdsReadings (e : DirEntry) : Bool := decide (0 < e.banks[(0 : Fin 2)].readings) || decide (0 < e.banks[(1 : Fin 2)].readings)

/-- ACCOUNT-REMOVE (R147). -/
def judgeAccountRemove (key : Nat) (s : State) : Answer :=
  withAccount key s fun i e =>
    if holdsReadings e then refused .state else okWith [] (setEntry i { e with valid := false } s)

def execAccountRemove (p : List Byte) (s : State) : Host.Outcome State Fault Refusal :=
  request 0x34 parse24 judgeAccountRemove p s

/-- ACCOUNT-SUSPEND (R148). -/
def judgeAccountSuspend (key : Nat) (s : State) : Answer :=
  withAccount key s fun i e => okWith [] (setEntry i { e with suspended := true } s)

def execAccountSuspend (p : List Byte) (s : State) : Host.Outcome State Fault Refusal :=
  request 0x35 parse24 judgeAccountSuspend p s

/-- ACCOUNT-RESUME (R148). -/
def judgeAccountResume (key : Nat) (s : State) : Answer :=
  withAccount key s fun i e => okWith [] (setEntry i { e with suspended := false } s)

def execAccountResume (p : List Byte) (s : State) : Host.Outcome State Fault Refusal :=
  request 0x36 parse24 judgeAccountResume p s

/-- ACCOUNT-TARIFF (R148): key, then tariff, then presence. -/
def judgeAccountTariff (f : Nat × Nat) (s : State) : Answer :=
  if !keyInRange f.1 then rangeItem 1
  else match asFin 8 f.2 with
  | none => rangeItem 2
  | some tariff => withAccount f.1 s fun i e => okWith [] (setEntry i { e with tariff := tariff } s)

def execAccountTariff (p : List Byte) (s : State) : Host.Outcome State Fault Refusal :=
  request 0x37 parse248 judgeAccountTariff p s

/-- What ACCOUNT-READ returns of an entry (R149). -/
def accountPayload (active : Fin 2) (i : Fin 256) (e : DirEntry) : List Byte :=
  be 1 i.1 ++ markByte e.secondary ++ be 1 e.tariff.1 ++ encCode (suspendedCode e.suspended) ++ be 1 active.1 ++
    e.banks.toList.flatMap encBank

/-- ACCOUNT-READ (R149). -/
def judgeAccountRead (key : Nat) (s : State) : Answer :=
  withAccount key s fun i e => okWith (accountPayload s.abu.active i e) s

def execAccountRead (p : List Byte) (s : State) : Host.Outcome State Fault Refusal :=
  request 0x38 parse24 judgeAccountRead p s

/-- DIRECTORY-READ (R149). -/
def judgeDirectoryRead (f : Nat × Nat) (s : State) : Answer :=
  checkRange 256 8 f.1 f.2
    (okWith (((List.finRange 256).filter fun i => decide (f.1 ≤ i.1 ∧ i.1 < f.1 + f.2)).flatMap fun i =>
      encDirEntry s.abu.directory[i]) s)

def execDirectoryRead (p : List Byte) (s : State) : Host.Outcome State Fault Refusal :=
  request 0x39 parse88 judgeDirectoryRead p s

/-! ## The lookaside (R150 to R152) -/

/-- The entries of the lookaside but the one with this key, if any. -/
def withoutKey (l : List LookEntry) (key : Nat) : List LookEntry := l.filter fun e => decide (e.key ≠ key)

/-- What a resolution finds: the location and the tariff that the booking uses. -/
structure Resolution where
  location : Fin 256
  tariff : Fin 8
deriving DecidableEq, Repr

/-- A miss: the directory is searched, and an entry is made for a key that is found, the least recently used of eight
removed first (R151, step 4). -/
def resolveMiss (key : Nat) (a : Abu) : Option Resolution × Abu :=
  match lookup a.directory key with
  | none => (none, a)
  | some i =>
    let t := a.directory[i].tariff
    (some { location := i, tariff := t },
      { a with lookaside := { key := key, location := i, tariff := t } ::
          a.lookaside.take (Config.lookasideSize - 1) })

/-- Whether the directory entry that a lookaside entry names is valid and holds its key (R151, steps 2 and 3). -/
def tagCheck (d : Vector DirEntry 256) (e : LookEntry) : Bool :=
  d[e.location].valid && decide (d[e.location].key = e.key)

/-- A key resolved through the lookaside (R151). -/
def resolveKey (key : Nat) (a : Abu) : Option Resolution × Abu :=
  match a.lookaside.find? fun e => decide (e.key = key) with
  | none => resolveMiss key a
  | some e =>
    if tagCheck a.directory e then
      (some { location := e.location, tariff := e.tariff }, { a with lookaside := e :: withoutKey a.lookaside key })
    else resolveMiss key { a with lookaside := withoutKey a.lookaside key }

/-- LOOKASIDE-PURGE (R152); ALL is the number after the greatest key (R165). -/
def judgeLookasidePurge (key : Nat) (s : State) : Answer :=
  if key = 16777216 then okWith [] { s with abu := { s.abu with lookaside := [] } }
  else if !keyInRange key then rangeItem 1
  else okWith [] { s with abu := { s.abu with lookaside := withoutKey s.abu.lookaside key } }

def execLookasidePurge (p : List Byte) (s : State) : Host.Outcome State Fault Refusal :=
  request 0x3A parse32 judgeLookasidePurge p s

/-- LOOKASIDE-READ (R152): the number of entries, then the entries. -/
def judgeLookasideRead (_ : Unit) (s : State) : Answer :=
  okWith (be 1 s.abu.lookaside.length ++ s.abu.lookaside.flatMap encLook) s

def execLookasideRead (p : List Byte) (s : State) : Host.Outcome State Fault Refusal :=
  request 0x3B parseNone judgeLookasideRead p s

/-! ## Tariffs and time bands (R153, R154) -/

/-- TARIFF-SET (R153). -/
def judgeTariffSet (f : TariffSetFields) (s : State) : Answer :=
  match asFin 8 f.tariff with
  | none => rangeItem 1
  | some t => okWith [] { s with abu := { s.abu with
      tariffs := put s.abu.tariffs t (Vector.ofFn fun i : Fin 8 => f.prices.getD i.1 0) } }

def execTariffSet (p : List Byte) (s : State) : Host.Outcome State Fault Refusal :=
  request 0x3C parseTariffSet judgeTariffSet p s

/-- The band map with the bands of a request written from `first` on. -/
def writeBands (f : BandmapSetFields) (v : Vector (Fin 4) 96) : Vector (Fin 4) 96 :=
  each v fun i old =>
    if f.first ≤ i.1 then ((f.bands[i.1 - f.first]?).map fun b => Fin.ofNat 4 b).getD old else old

/-- BANDMAP-SET (R154). -/
def judgeBandmapSet (f : BandmapSetFields) (s : State) : Answer :=
  if 95 < f.first then rangeItem 1
  else if f.count < 1 ∨ 96 < f.count ∨ 96 < f.first + f.count then rangeItem 2
  else if f.bands.any fun b => decide (3 < b) then rangeItem 3
  else okWith [] { s with abu := { s.abu with bandMap := writeBands f s.abu.bandMap } }

def execBandmapSet (p : List Byte) (s : State) : Host.Outcome State Fault Refusal :=
  request 0x3D parseBandmapSet judgeBandmapSet p s

/-- TARIFF-READ (R154): the 64 prices and the 96 bands. -/
def judgeTariffRead (_ : Unit) (s : State) : Answer :=
  okWith (s.abu.tariffs.toList.flatMap (fun t => t.toList.flatMap (be 3)) ++
    s.abu.bandMap.toList.flatMap fun b => be 1 b.1) s

def execTariffRead (p : List Byte) (s : State) : Host.Outcome State Fault Refusal :=
  request 0x3E parseNone judgeTariffRead p s

/-! ## Booking (R155 to R157) -/

/-- A field that saturates at `top`. -/
def satAdd (top a b : Nat) : Nat := min (a + b) top

/-- The price of a tariff in a band, RECOVERED first (R153). -/
def priceOf (t : Vector Nat 8) (band : Fin 4) (supplementary : Bool) : Nat :=
  if supplementary then t[2 * band.1 + 1] else t[2 * band.1]

/-- num of R156, step 3. -/
def chargeNumerator (prices : Vector Nat 8) (band : Fin 4) (recKJ supKJ rem : Nat) : Nat :=
  recKJ * priceOf prices band false + supKJ * priceOf prices band true + rem

/-- A bank with one reading booked (R156). -/
def bookBank (prices : Vector Nat 8) (band : Fin 4) (f : Finished) (b : Bank) : Bank :=
  let num := chargeNumerator prices band f.recovered f.supplementary b.rem
  { recKJ := satAdd Config.accumulatorTop b.recKJ f.recovered
    supKJ := satAdd Config.accumulatorTop b.supKJ f.supplementary
    charge := satAdd Config.accumulatorTop b.charge (num / Config.kJPerMWh)
    rem := num % Config.kJPerMWh
    readings := satAdd 65535 b.readings 1
    estimated := if f.estimated then satAdd 65535 b.estimated 1 else b.estimated }

/-- A suspense bank with one reading booked (R157). -/
def bookSuspenseBank (f : Finished) (b : SuspenseBank) : SuspenseBank :=
  { recKJ := satAdd Config.accumulatorTop b.recKJ f.recovered
    supKJ := satAdd Config.accumulatorTop b.supKJ f.supplementary
    readings := satAdd 65535 b.readings 1
    estimated := if f.estimated then satAdd 65535 b.estimated 1 else b.estimated }

/-- A reading booked to the suspense of its meter, with UNASSIGNED-KEY (R155, R157). -/
def bookSuspense (r : Reading) (f : Finished) (s : State) : State :=
  let banks := s.abu.suspense[r.meter]
  let suspense := put s.abu.suspense r.meter (put banks s.abu.active (bookSuspenseBank f banks[s.abu.active]))
  ({ s with abu := { s.abu with suspense := suspense } }).raise condUnassignedKey r.meter.1 r.tag

/-- A reading booked to the account at a location (R156). -/
def bookAccount (x : Resolution) (r : Reading) (f : Finished) (s : State) : State :=
  let e := s.abu.directory[x.location]
  let b := bookBank s.abu.tariffs[x.tariff] s.abu.bandMap[r.tag.slot] f e.banks[s.abu.active]
  setEntry x.location { e with banks := put e.banks s.abu.active b } s

/-- A retired reading booked (R155). -/
def bookReading (r : Reading) (f : Finished) (s : State) : State :=
  if r.key = 0 then bookSuspense r f s
  else
    let x := resolveKey r.key s.abu
    let s1 := { s with abu := x.2 }
    match x.1 with
    | none => bookSuspense r f s1
    | some loc => if s1.abu.directory[loc.location].suspended then bookSuspense r f s1 else bookAccount loc r f s1

/-! ## The close of a period (R159 to R161) -/

/-- A directory entry at the flip: of a valid one, the rem moves from the closing bank to the new active bank (R159,
step 4). -/
def carryRem (closing : Fin 2) (e : DirEntry) : DirEntry :=
  if e.valid then
    let carried := put e.banks (closing + 1) { e.banks[closing + 1] with rem := e.banks[closing].rem }
    { e with banks := put carried closing { e.banks[closing] with rem := 0 } }
  else e

/-- A marker retires: the close of the period it carries starts (R159). -/
def startClose (period : Nat) (s : State) : State :=
  { s with abu := { s.abu with
    closing := some period, period := (s.abu.period + 1) % 65536, active := s.abu.active + 1,
    directory := each s.abu.directory fun _ e => carryRem s.abu.active e, cursor := 0, emitted := 0,
    close := .emitting } }

/-- What the place at the cursor gives: nothing to emit, or a statement and the ABU with its closing bank cleared
(R160). -/
def placeAt (a : Abu) (period : Nat) : Option (Statement × Abu) :=
  let closing := a.active + 1
  match asFin 256 a.cursor with
  | some i =>
    let e := a.directory[i]
    let b := e.banks[closing]
    if e.valid ∧ 0 < b.readings then
      some ({ holder := .account e.key e.tariff, period := period, recKJ := b.recKJ, supKJ := b.supKJ,
              charge := b.charge, readings := b.readings, estimated := b.estimated },
        { a with directory := put a.directory i { e with banks := put e.banks closing Bank.zero } })
    else none
  | none =>
    match asFin 16 (a.cursor - 256) with
    | some m =>
      let b := a.suspense[m][closing]
      if 0 < b.readings then
        some ({ holder := .suspense m, period := period, recKJ := b.recKJ, supKJ := b.supKJ, charge := 0,
                readings := b.readings, estimated := b.estimated },
          { a with suspense := put a.suspense m (put a.suspense[m] closing SuspenseBank.zero) })
      else none
    | none => none

/-- The cursor advances; at the last place the close ends and CLOSE-DONE is raised (R160). -/
def advanceCursor (period : Nat) (s : State) : State :=
  if s.abu.cursor + 1 < Config.emissionPlaces then { s with abu := { s.abu with cursor := s.abu.cursor + 1 } }
  else ({ s with abu := { s.abu with cursor := Config.emissionPlaces, close := .idle, closing := none } }).raiseHere
    condCloseDone period

/-- A statement appended to the queue; STATEMENT-READY enters active with the first (R162). -/
def appendStatement (t : Statement) (s : State) : State :=
  ({ s with abu := { s.abu with statements := s.abu.statements ++ [t] } }).follow condStatementReady true t.period
    s.sck.pos

/-- Emission judges the place at the cursor (R160). -/
def emitPlace (s : State) : State :=
  let period := s.abu.closing.getD 0
  match placeAt s.abu period with
  | none => advanceCursor period s
  | some (t, a) =>
    if Config.statementQueueSize ≤ s.abu.statements.length then { s with abu := { s.abu with close := .paused } }
    else advanceCursor period (appendStatement t { s with abu := { a with emitted := a.emitted + 1 } })

/-- EMISSION_STEP (R160): in EMITTING one place is judged; there is no emission in the other close states. -/
def execEmissionStep (s : State) : Host.Outcome State Fault Refusal :=
  match s.abu.close with
  | .emitting => .next (emitPlace s)
  | .idle => .next s
  | .marked => .next s
  | .paused => .next s

/-! ## SUSPENSE-READ, STATEMENT-FETCH, PERIOD-READ -/

/-- SUSPENSE-READ (R157). -/
def judgeSuspenseRead (k : Nat) (s : State) : Answer :=
  match asFin 16 k with
  | none => rangeItem 1
  | some m => okWith (s.abu.suspense[m].toList.flatMap encSuspenseBank ++ be 1 s.abu.active.1) s

def execSuspenseRead (p : List Byte) (s : State) : Host.Outcome State Fault Refusal :=
  request 0x3F parse8 judgeSuspenseRead p s

/-- A paused emission resumes when a fetch removes at least one statement (R161). -/
def resumeEmission (a : Abu) : Abu :=
  match a.close with
  | .paused => if a.statements.isEmpty then a else { a with close := .emitting }
  | _ => a

/-- STATEMENT-FETCH (R163): up to 4 of the oldest statements leave the queue; STATEMENT-READY leaves active when it
empties. -/
def judgeStatementFetch (_ : Unit) (s : State) : Answer :=
  let taken := s.abu.statements.take Config.fetchSize
  let rest := s.abu.statements.drop Config.fetchSize
  let s1 := { s with abu := { resumeEmission s.abu with statements := rest } }
  okWith (be 1 taken.length ++ taken.flatMap encStatement)
    (if rest.isEmpty then s1.follow condStatementReady false 0 s.sck.pos else s1)

def execStatementFetch (p : List Byte) (s : State) : Host.Outcome State Fault Refusal :=
  request 0x41 parseNone judgeStatementFetch p s

/-- The position of the marker in the retire queue, counted from the head at 0 (R164). -/
def markerPosition (q : List RetireEntry) : Option Nat :=
  q.findIdx? fun e => match e with | .marker _ => true | .reading _ => false

/-- What PERIOD-READ returns (R164). -/
def periodReadPayload (s : State) : List Byte :=
  be 2 s.abu.period ++ be 1 s.abu.active.1 ++ encCode s.abu.close.code ++ encDep (be 2) s.abu.closing ++
    be 2 s.abu.cursor ++ be 2 s.abu.emitted ++ encYes (markerPosition s.hmu.queue).isSome ++
    encDep (be 1) (markerPosition s.hmu.queue) ++ be 1 s.abu.statements.length ++
    be 2 (s.abu.directory.toList.countP fun e => e.valid) ++ be 1 s.abu.lookaside.length

/-- PERIOD-READ (R164). -/
def judgePeriodRead (_ : Unit) (s : State) : Answer := okWith (periodReadPayload s) s

def execPeriodRead (p : List Byte) (s : State) : Host.Outcome State Fault Refusal :=
  request 0x42 parseNone judgePeriodRead p s

end Sys2Proof.Machine
end

