-- ==== Sys2Proof/Machine/Heat.lean ====
section
/-!
DEFINITION. Heat readings and the retire queue: formation and deferral, fresh-arrival notices, expiry, finishing,
retirement and the flush, and the requests of Chapter 7 with PERIOD-CLOSE.
-/
namespace Sys2Proof.Machine

/-! ## Meter channels (R126, R127) -/

/-- A fresh start of a meter channel whose flow is counted by `ch`, if any (R127). -/
def freshMeter (v : Vector PulseChannel 24) (ch : Option (Fin 24)) (m : Meter) : Meter :=
  match ch with
  | none => { m with carry := 0, pendingSteps := 0, lagged := false }
  | some ch => { m with base := countOf v ch, litres := v[ch].scale, carry := 0, pendingSteps := 0, lagged := false }

/-- Meter `m` replaced. -/
def setMeter (m : Fin 16) (x : Meter) (s : State) : State :=
  { s with hmu := { s.hmu with meters := put s.hmu.meters m x } }

/-- METER-SET's fields in their order: the item that fails first, items 3 to 5. -/
def meterItemFailing (f : MeterSetFields) : Option Nat :=
  if f.k < 1 ∨ 65535 < f.k then some 3
  else if f.limit < 1 ∨ 16777215 < f.limit then some 4
  else if 16777215 < f.key then some 5
  else none

/-- METER-SET (R127). -/
def judgeMeterSet (f : MeterSetFields) (s : State) : Answer :=
  unlessRun s <|
  match asFin 16 f.meter with
  | none => rangeItem 1
  | some m =>
    match firstOfTwo f.use with
    | none => rangeItem 2
    | some used =>
      match meterItemFailing f with
      | some item => rangeItem item
      | none =>
        okWith [] (setMeter m (freshMeter s.fiu.pulses (holderOf s.fiu.pulses (.heatFlow m))
          { s.hmu.meters[m] with used := used, k := f.k, limit := f.limit, key := f.key }) s)

def execMeterSet (p : List Byte) (s : State) : Host.Outcome State Fault Refusal :=
  request 0x2E parseMeterSet judgeMeterSet p s

/-- METER-KEY (R128). -/
def judgeMeterKey (f : Nat × Nat) (s : State) : Answer :=
  match asFin 16 f.1 with
  | none => rangeItem 1
  | some m => okWith [] (setMeter m { s.hmu.meters[m] with key := f.2 } s)

def execMeterKey (p : List Byte) (s : State) : Host.Outcome State Fault Refusal :=
  request 0x2F parse824 judgeMeterKey p s

/-- METER-CONFIRM (R129). -/
def judgeMeterConfirm (k : Nat) (s : State) : Answer :=
  if k < 1 ∨ 60 < k then rangeItem 1 else okWith [] { s with hmu := { s.hmu with confirmS := k } }

def execMeterConfirm (p : List Byte) (s : State) : Host.Outcome State Fault Refusal :=
  request 0x30 parse8 judgeMeterConfirm p s

/-! ## Finishing (R137, R138) -/

/-- Whether a reading is ready: confirmed or expired (R132). -/
def Reading.ready (r : Reading) : Bool := (r.supplyFresh && r.returnFresh) || r.expired

/-- The value and the quality of the point that holds a role; a role that no point holds reads as EMPTY (log entry
16). -/
def pointValue (v : Vector SamplePoint 32) (role : PointRole) : Int × Quality :=
  match pointOf v role with
  | some sp => (v[sp].value, v[sp].quality)
  | none => (0, .empty)

/-- The temperature drop Ts - Tr, 0 where either point is EMPTY (R138, step 3). -/
def temperatureDrop (ts tr : Int × Quality) : Int :=
  if ts.2 = .empty ∨ tr.2 = .empty then 0 else ts.1 - tr.1

/-- The finished fields of a reading and the carry it leaves (R138). -/
def finishedFields (r : Reading) (m : Meter) (ts tr : Int × Quality) : Finished × Nat :=
  let d := temperatureDrop ts tr
  let total := r.litres * d.toNat * m.k + m.carry
  let kJ := total / 100000
  let recovered := kJ * r.rho / 1000
  ({ ts := ts.1, tr := tr.1, deltaT := d.toNat, kJ := kJ, recovered := recovered, supplementary := kJ - recovered,
     estimated := !(r.supplyFresh && r.returnFresh), reverse := decide (d < 0) }, total % 100000)

/-- A reading finishes: its fields are filled in, the meter's carry moves, and DELTA-T-REVERSE is raised where the drop
is negative (R138). -/
def finishReading (r : Reading) (s : State) : Reading × State :=
  let m := s.hmu.meters[r.meter]
  let x := finishedFields r m (pointValue s.fiu.points (.supplyTemp r.meter))
    (pointValue s.fiu.points (.returnTemp r.meter))
  let s1 := setMeter r.meter { m with carry := x.2 } s
  ({ r with finished := some x.1 }, if x.1.reverse then s1.raiseHere condDeltaTReverse r.meter.1 else s1)

/-- The queue's readings finished in queue order: every ready one that no earlier WAITING reading of its meter holds
back (R137), or with `force` every WAITING one (R140). `waiting` lists the meters of the WAITING readings passed. -/
def finishPass (force : Bool) : List RetireEntry → List (Fin 16) → State → List RetireEntry × State
  | [], _, s => ([], s)
  | .marker p :: q, waiting, s =>
    let x := finishPass force q waiting s
    (.marker p :: x.1, x.2)
  | .reading r :: q, waiting, s =>
    if r.finished.isSome then
      let x := finishPass force q waiting s
      (.reading r :: x.1, x.2)
    else if force || (r.ready && !waiting.contains r.meter) then
      let y := finishReading r s
      let x := finishPass force q waiting y.2
      (.reading y.1 :: x.1, x.2)
    else
      let x := finishPass force q (r.meter :: waiting) s
      (.reading r :: x.1, x.2)

/-! ## Retirement (R139, R140) -/

/-- The retire queue replaced. -/
def setQueue (q : List RetireEntry) (s : State) : State := { s with hmu := { s.hmu with queue := q } }

/-- The run of finished entries at the head of the queue retires, each handed to the ABU whole (R139). -/
def retireRun : List RetireEntry → State → State
  | [], s => setQueue [] s
  | .marker p :: q, s => retireRun q (startClose p s)
  | .reading r :: q, s =>
    match r.finished with
    | some f => retireRun q (bookReading r f s)
    | none => setQueue (.reading r :: q) s

/-- What can finish finishes, and what can retire retires (R137, R139). -/
def settleQueue (s : State) : State :=
  let x := finishPass false s.hmu.queue [] s
  retireRun x.1 x.2

/-- The flush (R140). -/
def flushQueue (s : State) : State :=
  let x := finishPass true s.hmu.queue [] s
  retireRun x.1 x.2

/-! ## Notices and expiry (R135, R136) -/

/-- A reading that the notice of a point with this role reaches (R135). -/
def markFresh (role : PointRole) (r : Reading) : Reading :=
  if r.finished.isSome then r
  else match role with
  | .supplyTemp m => if m = r.meter then { r with supplyFresh := true } else r
  | .returnTemp m => if m = r.meter then { r with returnFresh := true } else r
  | _ => r

/-- The function applied to every reading of the queue. -/
def mapReadings (f : Reading → Reading) (q : List RetireEntry) : List RetireEntry :=
  q.map fun e => match e with | .reading r => .reading (f r) | .marker p => .marker p

/-- Whether the meter that a role names is USED. -/
def noticeReaches (role : PointRole) (v : Vector Meter 16) : Bool :=
  match role with
  | .supplyTemp m => v[m].used
  | .returnTemp m => v[m].used
  | _ => false

/-- A fresh-arrival notice (R135). -/
def freshNotice (role : PointRole) (s : State) : State :=
  if noticeReaches role s.hmu.meters then settleQueue (setQueue (mapReadings (markFresh role) s.hmu.queue) s) else s

/-- The remaining time of a WAITING reading one tick on (R136). -/
def countDown (r : Reading) : Reading :=
  if r.finished.isSome then r
  else { r with remaining := r.remaining - 1, expired := r.expired || decide (r.remaining ≤ 1) }

/-- A tick of the timebase at the first `n` entries of the queue, those that stood when it fell (R136). -/
def countDownQueue (n : Nat) (s : State) : State :=
  settleQueue (setQueue (mapReadings countDown (s.hmu.queue.take n) ++ s.hmu.queue.drop n) s)

/-! ## Formation and deferral (R133, R134) -/

/-- The rho of the ended step: of the pair that carries its tag (R71). -/
def rhoOfStep (g : Gbu) (tag : Tag) : Nat :=
  if g.rhoNow.tag = some tag then g.rhoNow.value
  else match g.rhoPrev with
  | some p => if p.tag = some tag then p.value else g.rhoNow.value
  | none => g.rhoNow.value

/-- The unconsumed delta of a meter; 0 where no channel holds its flow (log entry 16). -/
def meterDelta (s : State) (m : Fin 16) : Nat :=
  match holderOf s.fiu.pulses (.heatFlow m) with
  | none => 0
  | some ch => deltaOf s.fiu.pulses ch s.hmu.meters[m].base

/-- The present count of a meter's flow, its baseline where no channel holds the role. -/
def meterCount (s : State) (m : Fin 16) : Nat :=
  match holderOf s.fiu.pulses (.heatFlow m) with
  | none => s.hmu.meters[m].base
  | some ch => countOf s.fiu.pulses ch

/-- The reading formed at the end of the step `tag` (R133). -/
def formedReading (tag : Tag) (m : Fin 16) (x : Meter) (delta rho confirmS : Nat) : Reading :=
  { meter := m, key := x.key, tag := tag, steps := x.pendingSteps, pulses := delta, litres := delta * x.litres,
    rho := rho, remaining := confirmS, supplyFresh := false, returnFresh := false, expired := false,
    suspect := decide (x.limit * x.pendingSteps < delta), finished := none }

/-- One meter at a step boundary: nothing, a deferral or a reading (R133, R134). -/
def meterBoundary (tag : Tag) (s : State) (m : Fin 16) : State :=
  let x := s.hmu.meters[m]
  if !x.used then s
  else
    let x1 := { x with pendingSteps := min (x.pendingSteps + 1) 65535 }
    let delta := meterDelta s m
    if delta = 0 then setMeter m x1 s
    else if Config.retireQueueSize ≤ s.hmu.queue.length then
      (setMeter m { x1 with lagged := true } s).raise condRetireLag m.1 tag
    else
      let r := formedReading tag m x1 delta (rhoOfStep s.gbu tag) s.hmu.confirmS
      setQueue (s.hmu.queue ++ [.reading r])
        (setMeter m { x1 with base := meterCount s m, pendingSteps := 0, lagged := false } s)

/-- The HMU at a step boundary in RUN: the meters in ascending order (R133). -/
def meterBoundaries (b : Boundary) (s : State) : State := (List.finRange 16).foldl (meterBoundary b.ended) s

/-! ## METER-READ, RETIRE-READ (R141, R142) -/

/-- Whether an entry is a reading of this meter. -/
def isReadingOf (m : Fin 16) (e : RetireEntry) : Bool :=
  match e with
  | .reading r => decide (r.meter = m)
  | .marker _ => false

/-- Whether an entry is WAITING. -/
def isWaiting (e : RetireEntry) : Bool :=
  match e with
  | .reading r => r.finished.isNone
  | .marker _ => false

/-- Whether an entry is a marker. -/
def isMarker (e : RetireEntry) : Bool :=
  match e with
  | .reading _ => false
  | .marker _ => true

/-- What METER-READ returns: the items of Table 7-1, CONFIRM_S, the bindings, the delta and the counts of readings
(R141). -/
def meterReadPayload (s : State) (m : Fin 16) : List Byte :=
  let x := s.hmu.meters[m]
  encYes x.used ++ be 2 x.k ++ be 3 x.limit ++ be 3 x.key ++ be 2 x.litres ++ be 4 x.base ++ be 2 x.pendingSteps ++
    encYes x.lagged ++ be 3 x.carry ++ be 1 s.hmu.confirmS ++
    encOpt (fun ch : Fin 24 => be 1 ch.1) (holderOf s.fiu.pulses (.heatFlow m)) ++
    encOpt (fun sp : Fin 32 => be 1 sp.1) (pointOf s.fiu.points (.supplyTemp m)) ++
    encOpt (fun sp : Fin 32 => be 1 sp.1) (pointOf s.fiu.points (.returnTemp m)) ++ be 4 (meterDelta s m) ++
    be 1 (s.hmu.queue.countP (isReadingOf m)) ++
    be 1 (s.hmu.queue.countP fun e => isReadingOf m e && isWaiting e)

/-- METER-READ (R141). -/
def judgeMeterRead (k : Nat) (s : State) : Answer :=
  match asFin 16 k with
  | none => rangeItem 1
  | some m => okWith (meterReadPayload s m) s

def execMeterRead (p : List Byte) (s : State) : Host.Outcome State Fault Refusal :=
  request 0x31 parse8 judgeMeterRead p s

/-- RETIRE-READ (R142): positions beyond the last entry are not returned. -/
def judgeRetireRead (f : Nat × Nat) (s : State) : Answer :=
  if 63 < f.1 then rangeItem 1
  else if f.2 < 1 ∨ 4 < f.2 then rangeItem 2
  else okWith (be 1 s.hmu.queue.length ++ be 1 (s.hmu.queue.countP isMarker) ++
    ((s.hmu.queue.drop f.1).take f.2).flatMap encRetireEntry) s

def execRetireRead (p : List Byte) (s : State) : Host.Outcome State Fault Refusal :=
  request 0x32 parse88 judgeRetireRead p s

/-! ## PERIOD-CLOSE (R158) -/

/-- PERIOD-CLOSE (R158): the marker is appended, and retires at once where it is at the head (R139). -/
def judgePeriodClose (_ : Unit) (s : State) : Answer :=
  if s.abu.close ≠ .idle then refused .busy
  else if Config.retireQueueSize ≤ s.hmu.queue.length then refused .full
  else
    let s1 := { s with abu := { s.abu with close := .marked } }
    okWith (be 2 s.abu.period) (retireRun (s.hmu.queue ++ [.marker s.abu.period]) s1)

def execPeriodClose (p : List Byte) (s : State) : Host.Outcome State Fault Refusal :=
  request 0x40 parseNone judgePeriodClose p s

end Sys2Proof.Machine
end

