-- ==== Sys2Proof/Machine/Field.lean ====
section
/-!
DEFINITION. Field inputs: pulse arrivals, event line samples, sensor records, the ageing of points, and the requests
of Chapter 2.
-/
namespace Sys2Proof.Machine

/-! ## Pulse channels (R18 to R23) -/

/-- A counter one higher; at 65,535 it becomes 0 (R19). -/
def countPulse (c : PulseChannel) : PulseChannel := { c with counter := (c.counter + 1) % 65536 }

/-- The channels after an arrival at the pin of `ch` (R19). -/
def arrive (v : Vector PulseChannel 24) (ch : Fin 24) : Vector PulseChannel 24 :=
  if isPulsePartner v ch then v
  else
    let v1 := put v ch (countPulse v[ch])
    if isCascaded v ch ∧ v1[ch].counter = 0 then put v1 (ch + 1) (countPulse v1[ch + 1]) else v1

/-- PULSE_ARRIVAL (R19). -/
def execPulseArrival (ch : Fin 24) (s : State) : Host.Outcome State Fault Refusal :=
  .next { s with fiu := { s.fiu with pulses := arrive s.fiu.pulses ch } }

/-- The reader of a role takes a new baseline from the channel that now serves it (R20). -/
def rebase (role : PulseRole) (ch : Fin 24) (s : State) : State :=
  let n := countOf s.fiu.pulses ch
  match role with
  | .unassigned => s
  | .gasSupply g => { s with gbu := { s.gbu with supplyBase := put s.gbu.supplyBase g n } }
  | .gasWorks g => { s with gbu := { s.gbu with worksBase := put s.gbu.worksBase g n } }
  | .heatFlow m => setMeter m (freshMeter s.fiu.pulses (some ch) s.hmu.meters[m]) s
  | .exportEnergy => { s with exs := { s.exs with base := n } }

/-- The channels as PULSE-SET writes them: a change of an even channel's width clears both counters of the pair (R20,
step 1). -/
def pulseSetTo (v : Vector PulseChannel 24) (ch : Fin 24) (width : Width) (role : PulseRole) (scale limit : Nat) :
    Vector PulseChannel 24 :=
  let c := { v[ch] with width := width, role := role, scale := scale, limit := limit }
  if ch.1 % 2 = 0 ∧ width ≠ v[ch].width then
    put (put v ch { c with counter := 0 }) (ch + 1) { v[ch + 1] with counter := 0 }
  else put v ch c

/-- The readers that PULSE-SET rebases (R20, step 2): of the role an odd partner holds again when a cascade ends, and
of the written role where it is given to the channel or the width has changed. DESIGN CHOICE (log entry 21): a role that
the request takes from its channel while another channel still holds it rebases nothing, although its counts come from
that other channel now. -/
def rebaseReaders (old : PulseChannel) (ch : Fin 24) (s : State) : State :=
  let v := s.fiu.pulses
  let widthChanged := decide (ch.1 % 2 = 0) && decide (v[ch].width ≠ old.width)
  let s1 := if widthChanged && decide (v[ch].width = .single) then rebase v[ch + 1].role (ch + 1) s else s
  if !isPulsePartner v ch && (widthChanged || decide (v[ch].role ≠ old.role)) then rebase v[ch].role ch s1 else s1

/-- PULSE-SET (R20). -/
def judgePulseSet (f : PulseSetFields) (s : State) : Answer :=
  unlessRun s <|
  match asFin 24 f.channel with
  | none => rangeItem 1
  | some ch =>
    match widthOf f.width with
    | none => rangeItem 2
    | some width =>
      if width = .cascade ∧ ch.1 % 2 = 1 then rangeItem 2
      else match pulseRoleOf f.role with
      | none => rangeItem 3
      | some role =>
        if f.scale < 1 ∨ 65535 < f.scale then rangeItem 4
        else if f.limit < 1 ∨ (if width = .single then 65535 else 16777215) < f.limit then rangeItem 5
        else okWith [] (rebaseReaders s.fiu.pulses[ch] ch
          { s with fiu := { s.fiu with pulses := pulseSetTo s.fiu.pulses ch width role f.scale f.limit } })

def execPulseSet (p : List Byte) (s : State) : Host.Outcome State Fault Refusal :=
  request 0x0F parsePulseSet judgePulseSet p s

/-- PULSE-READ (R23). -/
def judgePulseRead (f : Nat × Nat) (s : State) : Answer :=
  checkRange 24 24 f.1 f.2 (okWith ((indices 24 f.1 f.2).flatMap (encPulse s.fiu.pulses)) s)

def execPulseRead (p : List Byte) (s : State) : Host.Outcome State Fault Refusal :=
  request 0x10 parse88 judgePulseRead p s

/-! ## Event lines (R24 to R27) -/

/-- Whether a sample takes a change: it differs, and the steady time reaches the debounce (R25). -/
def changeDue (level : Level) (l : EventLine) : Bool :=
  decide (level ≠ l.debounced) && decide (l.debounce ≤ (if l.steady < l.debounce then l.steady + 1 else l.steady))

/-- A line after a sample (R25). DESIGN CHOICE (log entry 4): between two samples the raw level of R24 stands at that of
the last one. -/
def sampleLine (level : Level) (l : EventLine) : EventLine :=
  if level = l.debounced then { l with raw := level, steady := 0 }
  else if changeDue level l then { l with raw := level, debounced := level, steady := 0 }
  else { l with raw := level, steady := l.steady + 1 }

/-- Whether an edge matches a change to this level (R26). -/
def edgeMatches (edge : Edge) (level : Level) : Bool :=
  match edge, level with
  | .both, _ => true
  | .rising, .high => true
  | .falling, .low => true
  | _, _ => false

/-- Whether a trigger watches this change of a line. -/
def watchesChange (line : Fin 8) (level : Level) (t : Trigger) : Bool :=
  match t with
  | .event l edge => decide (l = line) && edgeMatches edge level
  | _ => false

/-- A change of the debounced level handed to its users (R26): captures, permissives, GRID-HOLD (log entry 4). -/
def reportChange (line : Fin 8) (level : Level) (s : State) : State :=
  let s1 := triggerUnits (watchesChange line level) (.event line (decide (level = .high))) s
  let v := permissiveChanges s1.fiu.lines line s1.dcu.channels
  gridHoldChange line { s1 with dcu := { s1.dcu with channels := v } }

/-- One line's sample (R25). -/
def sampleStep (levels : BitVec 8) (s : State) (line : Fin 8) : State :=
  let l := s.fiu.lines[line]
  let level := levelOf levels line
  let s1 := { s with fiu := { s.fiu with lines := put s.fiu.lines line (sampleLine level l) } }
  if changeDue level l then reportChange line level s1 else s1

/-- A sample of the eight lines, in ascending number (R25; log entry 4). -/
def sampleLines (levels : BitVec 8) (s : State) : State := (List.finRange 8).foldl (sampleStep levels) s

/-- EVENT_LINE_SAMPLE (R25). -/
def execEventLineSample (levels : BitVec 8) (s : State) : Host.Outcome State Fault Refusal :=
  .next (sampleLines levels s)

/-- EVENT_LINE_CHANGE (R26): a sample at which this line's change is taken; no such sample, no event. -/
def execEventLineChange (line : Fin 8) (levels : BitVec 8) (s : State) : Host.Outcome State Fault Refusal :=
  .next (if changeDue (levelOf levels line) s.fiu.lines[line] then sampleLines levels s else s)

/-- EVENT-SET (R27). -/
def judgeEventSet (f : Nat × Nat) (s : State) : Answer :=
  unlessRun s <|
  match asFin 8 f.1 with
  | none => rangeItem 1
  | some l =>
    if 255 < f.2 then rangeItem 2
    else okWith [] { s with fiu := { s.fiu with lines := put s.fiu.lines l { s.fiu.lines[l] with debounce := f.2 } } }

def execEventSet (p : List Byte) (s : State) : Host.Outcome State Fault Refusal :=
  request 0x11 parse88 judgeEventSet p s

/-- EVENT-READ (R27). -/
def judgeEventRead (_ : Unit) (s : State) : Answer := okWith (s.fiu.lines.toList.flatMap encLine) s

def execEventRead (p : List Byte) (s : State) : Host.Outcome State Fault Refusal :=
  request 0x12 parseNone judgeEventRead p s

/-! ## Sample points (R30 to R36) -/

/-- The range of a role's values (Table 2-4). -/
def roleRange : PointRole → Int × Int
  | .unassigned => (-32768, 32767)
  | .holderLevel _ => (0, 10000)
  | .calorific _ => (1, 32767)
  | .supplyTemp _ => (-5000, 20000)
  | .returnTemp _ => (-5000, 20000)

/-- A value clamped into the range of a role. -/
def clampRole (role : PointRole) (z : Int) : Int := max (roleRange role).1 (min (roleRange role).2 z)

/-- The lowest-numbered point with a role other than NONE that has this quality (R35). -/
def firstWithQuality (v : Vector SamplePoint 32) (q : Quality) : Option (Fin 32) :=
  (List.finRange 32).find? fun sp => decide (v[sp].role ≠ .unassigned) && decide (v[sp].quality = q)

/-- The source an entry of SAMPLE-HELD or SAMPLE-FAILED gives. -/
def sampleSource (v : Vector SamplePoint 32) (q : Quality) : Nat := (firstWithQuality v q).elim 0 Fin.val

/-- SAMPLE-HELD and SAMPLE-FAILED follow the points (R35). -/
def followSamples (s : State) : State :=
  let v := s.fiu.points
  (s.follow condSampleHeld (firstWithQuality v .held).isSome (sampleSource v .held) s.sck.pos).follow
    condSampleFailed (firstWithQuality v .failed).isSome (sampleSource v .failed) s.sck.pos

/-- Point `sp` replaced. -/
def setPoint (sp : Fin 32) (p : SamplePoint) (s : State) : State :=
  { s with fiu := { s.fiu with points := put s.fiu.points sp p } }

/-- A GOOD record taken for a point (R31). -/
def takeGood (sp : Fin 32) (value : Int) (s : State) : State :=
  let p := s.fiu.points[sp]
  freshNotice p.role
    (followSamples (setPoint sp { p with value := clampRole p.role value, age := 0, quality := .good } s))

/-- A BAD record taken for a point (R32). -/
def takeBad (sp : Fin 32) (s : State) : State :=
  followSamples (setPoint sp { s.fiu.points[sp] with quality := .failed } s)

/-- A point one tick older (R33). -/
def agePoint (p : SamplePoint) : SamplePoint :=
  match p.quality with
  | .empty => p
  | q =>
    let age := min (p.age + 1) 65535
    { p with
      age := age
      quality := match q with
        | .good => if p.failAfter ≤ age then .failed else if p.holdAfter ≤ age then .held else .good
        | .held => if p.failAfter ≤ age then .failed else .held
        | q => q }

/-- The ageing of every point at a tick (R33). -/
def agePoints (s : State) : State :=
  followSamples { s with fiu := { s.fiu with points := each s.fiu.points fun _ p => agePoint p } }

/-- The point as POINT-SET writes it (R30). -/
def pointSetTo (role : PointRole) (holdAfter failAfter : Nat) (p : SamplePoint) : SamplePoint :=
  if role = p.role then { p with holdAfter := holdAfter, failAfter := failAfter }
  else { role := role, holdAfter := holdAfter, failAfter := failAfter, value := 0, age := 0, quality := .empty }

/-- POINT-SET (R30). -/
def judgePointSet (f : PointSetFields) (s : State) : Answer :=
  unlessRun s <|
  match asFin 32 f.point with
  | none => rangeItem 1
  | some sp =>
    match pointRoleOf f.role with
    | none => rangeItem 2
    | some role =>
      if f.holdAfter < 1 ∨ 3600 < f.holdAfter then rangeItem 3
      else if f.failAfter < f.holdAfter ∨ 7200 < f.failAfter then rangeItem 4
      else okWith [] (followSamples (setPoint sp (pointSetTo role f.holdAfter f.failAfter s.fiu.points[sp]) s))

def execPointSet (p : List Byte) (s : State) : Host.Outcome State Fault Refusal :=
  request 0x13 parsePointSet judgePointSet p s

/-- POINT-READ (R36). -/
def judgePointRead (f : Nat × Nat) (s : State) : Answer :=
  checkRange 32 32 f.1 f.2 (okWith ((indices 32 f.1 f.2).flatMap fun sp => encPoint s.fiu.points[sp]) s)

def execPointRead (p : List Byte) (s : State) : Host.Outcome State Fault Refusal :=
  request 0x14 parse88 judgePointRead p s

/-! ## The sensor port (R28, R29) -/

/-- The sensor port's receive state replaced. -/
def setSensor (r : Receiver) (s : State) : State := { s with fiu := { s.fiu with sensor := r } }

/-- The value of a sensor record: signed, high byte first (Table 9-2). -/
def recordValue (hi lo : Byte) : Int := (hi ++ lo).toInt

/-- A complete record of five bytes judged (R29). -/
def judgeRecord (r : List Byte) (s : State) : State :=
  match r with
  | [point, hi, lo, status, crc] =>
    let bad := s.raiseHere condSensorFrame point.toNat
    if crc8 [point, hi, lo, status] ≠ crc then bad
    else match asFin 32 point.toNat with
    | none => bad
    | some sp =>
      if status = 0x00 then takeGood sp (recordValue hi lo) s
      else if status = 0x01 then takeBad sp s
      else bad
  | _ => s

/-- A byte received, with its stop bit (R28). -/
def sensorByte (s : State) (b : Byte) : State :=
  match s.fiu.sensor with
  | .hunting => if b = Config.sensorStart then setSensor (.collecting []) s else s
  | .collecting l =>
    if l.length < 4 then setSensor (.collecting (l ++ [b])) s
    else judgeRecord (l ++ [b]) (setSensor .hunting s)

/-- SENSOR_START_BYTE (R28): a byte of 5AH. While COLLECTING it is data. -/
def execSensorStartByte (s : State) : Host.Outcome State Fault Refusal := .next (sensorByte s Config.sensorStart)

/-- SENSOR_RECORD (R29): the bytes that follow the start byte, which is taken with them where none is being
collected. -/
def execSensorRecord (bytes : List Byte) (s : State) : Host.Outcome State Fault Refusal :=
  match s.fiu.sensor with
  | .hunting => .next (bytes.foldl sensorByte (setSensor (.collecting []) s))
  | .collecting _ => .next (bytes.foldl sensorByte s)

/-- A record broken while COLLECTING: SENSOR-FRAME with the POINT byte, or 255 where it was not received (R29). -/
def breakRecord (s : State) : State :=
  match s.fiu.sensor with
  | .hunting => s
  | .collecting l => (setSensor .hunting s).raiseHere condSensorFrame (l.head?.elim 255 BitVec.toNat)

/-- SENSOR_RECORD_BROKEN (R28): the bytes received, then what breaks the record; the byte that ends a gap is treated
as one received while HUNTING. -/
def execSensorRecordBroken (bytes : List Byte) (cause : SensorBreak) (s : State) :
    Host.Outcome State Fault Refusal :=
  let s1 := breakRecord (bytes.foldl sensorByte s)
  match cause with
  | .stop => .next s1
  | .gap b stopBit => .next (if stopBit then sensorByte s1 b else s1)

end Sys2Proof.Machine
end

