-- ==== Sys2Proof/Machine/Boundary.lean ====
section
/-!
DEFINITION. The tick of the 1 s timebase and the step boundary it may give, with the five rows of the table that name
it (log entries 2 and 3).
-/
namespace Sys2Proof.Machine

/-- The clock at the start of the step named by its position (R2, R4, R5). -/
def startStep (c : Sck) : Sck := { c with ticks := 0, phaseMs := 0, trim := 0, endCount := c.stepS }

/-- The clock at the end of a step: the position advances and the new step begins (R5). -/
def advanceClock (c : Sck) : Sck := startStep { c with pos := nextTag c }

/-- Whether the next tick ends the step (R4). -/
def boundaryDue (c : Sck) : Bool := c.running && decide (c.endCount ≤ c.ticks + 1)

/-- The GBU and the EXS at a boundary, in the order the tick gives (R5, R62). -/
def balanceAndExport (order : TickOrder) (b : Boundary) (s : State) : State :=
  if order.exsFirst then balanceBoundary b (exportBoundary b s) else exportBoundary b (balanceBoundary b s)

/-- The slot timers with the GBU and the EXS, in the order the tick gives (R5, R11). -/
def timersAndBlocks (order : TickOrder) (b : Boundary) (s : State) : State :=
  if order.timersFirst then balanceAndExport order b (stepStart s) else stepStart (balanceAndExport order b s)

/-- A step boundary handed to the blocks: the clock first, then the timers, the GBU and the EXS, then the HMU (R5). -/
def takeBoundary (order : TickOrder) (s : State) : State :=
  let b := boundaryOf s.sck
  meterBoundaries b (timersAndBlocks order b { s with sck := advanceClock s.sck })

/-- The tick that ends a step. The readings that are formed at it do not count it (R136). -/
def boundaryTick (order : TickOrder) (s : State) : State :=
  let s1 := if order.fiuFirst then agePoints s else s
  let s2 := if order.hmuFirst then countDownQueue s1.hmu.queue.length s1 else s1
  let s3 := takeBoundary order s2
  let s4 := if order.hmuFirst then s3 else countDownQueue s2.hmu.queue.length s3
  if order.fiuFirst then s4 else agePoints s4

/-- A tick within a step, or while the clock is STOPPED (R3). -/
def plainTick (s : State) : State :=
  let ticks := if s.sck.running then s.sck.ticks + 1 else 0
  let s1 := agePoints { s with sck := { s.sck with ticks := ticks, phaseMs := 0 } }
  countDownQueue s1.hmu.queue.length s1

/-- A tick of the timebase (R3, R4). -/
def tick (order : TickOrder) (s : State) : State :=
  if boundaryDue s.sck then boundaryTick order s else plainTick s

/-- TIMEBASE_TICK (R3). -/
def execTimebaseTick (order : TickOrder) (s : State) : Host.Outcome State Fault Refusal := .next (tick order s)

/-- POINT_AGE_EXPIRY (R33): the tick at which this point's quality changes. -/
def execPointAgeExpiry (point : Fin 32) (order : TickOrder) (s : State) : Host.Outcome State Fault Refusal :=
  .next (if (agePoint s.fiu.points[point]).quality = s.fiu.points[point].quality then s else tick order s)

/-- Whether the next tick expires the reading at a position of the queue (R136). -/
def expiryDue (position : Fin 64) (q : List RetireEntry) : Bool :=
  match q[position.1]? with
  | some (.reading r) => r.finished.isNone && !r.expired && decide (r.remaining ≤ 1)
  | _ => false

/-- READING_EXPIRY (R136): the tick at which the reading at this position expires. -/
def execReadingExpiry (position : Fin 64) (order : TickOrder) (s : State) : Host.Outcome State Fault Refusal :=
  .next (if expiryDue position s.hmu.queue then tick order s else s)

/-- STEP_BOUNDARY (R5): the tick that ends the step in progress. -/
def execStepBoundary (order : TickOrder) (s : State) : Host.Outcome State Fault Refusal :=
  .next (if boundaryDue s.sck then tick order s else s)

/-- TIMER_EXPIRY (R11): the tick that starts a step which this timer matches. -/
def execTimerExpiry (timer : Fin 4) (order : TickOrder) (s : State) : Host.Outcome State Fault Refusal :=
  .next (if boundaryDue s.sck && timerMatches s.sck.timers[timer] (nextTag s.sck) then tick order s else s)

/-! ## The idle millisecond -/

/-- One millisecond in which nothing of the table happens: the phase of the timebase and the drive channels' dividers
move on (log entry 1). -/
def idleMs (s : State) : State :=
  { s with
    sck := { s.sck with phaseMs := min (s.sck.phaseMs + 1) 999 }
    dcu := { s.dcu with channels := each s.dcu.channels fun _ c => dividerTick c } }

end Sys2Proof.Machine
end

