-- ==== Sys2Proof/Machine/Modes.lean ====
section
/-!
DEFINITION. The operating mode: MODE-START with its checks, MODE-STOP, the resets, IDENTIFY and STATUS (Chapter 9).
-/
namespace Sys2Proof.Machine

/-! ## The checks of MODE-START (Table 9-5) -/

/-- Group 1: the first channel holding a role instance that a lower-numbered channel holds (R23). -/
def duplicateChannel (v : Vector PulseChannel 24) : Option (Fin 24) :=
  (List.finRange 24).find? fun ch =>
    decide (v[ch].role ≠ .unassigned) && !isPulsePartner v ch && decide (holderOf v v[ch].role ≠ some ch)

/-- Group 2: the first point holding a role instance that a lower-numbered point holds (R30). -/
def duplicatePoint (v : Vector SamplePoint 32) : Option (Fin 32) :=
  (List.finRange 32).find? fun sp =>
    decide (v[sp].role ≠ .unassigned) && decide (pointOf v v[sp].role ≠ some sp)

/-- Whether a channel, where one is named, has this source. -/
def sourceIs (v : Vector DriveChannel 16) (ch : Option (Fin 16)) (source : DriveSource) : Bool :=
  match ch with
  | none => true
  | some ch => decide (channelSource v ch = some source)

/-- Whether a grade passes its checks (R41). -/
def gradePasses (s : State) (g : Fin 3) : Bool :=
  !s.gbu.grades[g].used ||
    ((holderOf s.fiu.pulses (.gasSupply g)).isSome && (pointOf s.fiu.points (.holderLevel g)).isSome &&
      sourceIs s.dcu.channels s.gbu.grades[g].flareChannel (.flare g))

/-- Whether a consumer passes checks 1 and 2 of R60. -/
def consumerPasses (s : State) (n : Fin 12) : Bool :=
  let c := s.gbu.consumers[n]
  !c.defined || (sourceIs s.dcu.channels c.main (.consumerMain n) && sourceIs s.dcu.channels c.supp (.consumerSupp n))

/-- Checks 3 and 4 of R60: the consumer reported, if one fails. -/
def powerFailing (s : State) : Option (Fin 12) :=
  let v := s.gbu.consumers
  match powerConsumers v with
  | [] => none
  | n :: rest =>
    match rest.find? fun m => decide (v[m].tier ≠ v[n].tier) with
    | some m => some m
    | none => if (holderOf s.fiu.pulses .exportEnergy).isSome then none else some n

/-- Group 4: the consumer reported (R60). -/
def consumerFailing (s : State) : Option (Fin 12) :=
  match (List.finRange 12).find? fun n => !consumerPasses s n with
  | some n => some n
  | none => powerFailing s

/-- Whether a meter passes its checks (R130). -/
def meterPasses (s : State) (m : Fin 16) : Bool :=
  !s.hmu.meters[m].used ||
    (match holderOf s.fiu.pulses (.heatFlow m) with
      | none => false
      | some ch =>
        (pointOf s.fiu.points (.supplyTemp m)).isSome && (pointOf s.fiu.points (.returnTemp m)).isSome &&
          decide (s.hmu.meters[m].litres = s.fiu.pulses[ch].scale))

/-- The first check that fails: its group and the item its rule names (Table 9-5). -/
def modeStartFailing (s : State) : Option (Nat × Nat) :=
  match duplicateChannel s.fiu.pulses with
  | some ch => some (1, ch.1)
  | none =>
    match duplicatePoint s.fiu.points with
    | some sp => some (2, sp.1)
    | none =>
      match (List.finRange 3).find? fun g => !gradePasses s g with
      | some g => some (3, g.1)
      | none =>
        match consumerFailing s with
        | some n => some (4, n.1)
        | none => ((List.finRange 16).find? fun m => !meterPasses s m).map fun m => (5, m.1)

/-! ## MODE-START and MODE-STOP (R171, R172) -/

/-- The mode replaced. -/
def setMode (m : Mode) (s : State) : State := { s with lkp := { s.lkp with mode := m } }

/-- The start effects of an accepted MODE-START (R171). -/
def modeStart (s : State) : State :=
  let s1 := setMode .run { s with sck := { startStep s.sck with running := true } }
  exportModeStart (balanceModeStart (stepStart s1))

/-- MODE-START (R171). -/
def judgeModeStart (_ : Unit) (s : State) : Answer :=
  match s.lkp.mode with
  | .run => refused .state
  | .setup =>
    match modeStartFailing s with
    | some (group, item) => .refuse .range [BitVec.ofNat 8 group, BitVec.ofNat 8 item]
    | none => okWith [] (modeStart s)

def execModeStart (p : List Byte) (s : State) : Host.Outcome State Fault Refusal :=
  request 0x03 parseNone judgeModeStart p s

/-- The clock as MODE-STOP leaves it: STOPPED, the step abandoned, the position kept (R2). -/
def stopClock (c : Sck) : Sck := { c with running := false, ticks := 0, trim := 0, endCount := c.stepS }

/-- The effects of MODE-STOP, in the order of R172. -/
def modeStop (s : State) : State :=
  let s1 := { s with sck := stopClock s.sck, dcu := { s.dcu with channels := stopAll s.dcu.channels } }
  setMode .setup (flushQueue (exportModeStop (allocationModeStop s1)))

/-- MODE-STOP (R172). -/
def judgeModeStop (_ : Unit) (s : State) : Answer :=
  match s.lkp.mode with
  | .setup => refused .state
  | .run => okWith [] (modeStop s)

def execModeStop (p : List Byte) (s : State) : Host.Outcome State Fault Refusal :=
  request 0x04 parseNone judgeModeStop p s

/-! ## The resets (R173, R174) -/

/-- Every slot timer and capture unit IDLE with its configuration kept, and the trim total 0 (R173, step 4). -/
def idleTimers (c : Sck) : Sck :=
  { c with timers := each c.timers fun _ t => { t with armed := false },
           units := each c.units fun _ u => { u with armed := false }, trim := 0 }

/-- The warm reset (R173); one taken in SETUP flushes the retire queue as well (R140). -/
def warmReset (s : State) : State :=
  let s1 := match s.lkp.mode with
    | .run => modeStop s
    | .setup => flushQueue s
  { s1 with
    cnu := clearConds (BitVec.allOnes 32) s1.cnu
    abu := { s1.abu with lookaside := [] }
    sck := idleTimers s1.sck
    fiu := { s1.fiu with sensor := .hunting }
    lkp := { s1.lkp with rx := .hunting, answer := false, overrun := false, reply := none, mode := .setup } }

/-- RESTART (R173): the reply OK is sent first; the warm reset follows its last byte. -/
def judgeRestart (_ : Unit) (s : State) : Answer := okWith [] s

def execRestart (p : List Byte) (s : State) : Host.Outcome State Fault Refusal :=
  request 0x05 parseNone judgeRestart p s

/-- WARM_RESET (R173). -/
def execWarmReset (s : State) : Host.Outcome State Fault Refusal := .next (warmReset s)

/-- COLD_RESET (R174): every item takes its value after a cold reset; the commands that wait are not the part's. -/
def execColdReset (lsel : BitVec 2) (levels : BitVec 8) (s : State) : Host.Outcome State Fault Refusal :=
  .next { State.cold lsel levels with pending := s.pending }

/-! ## IDENTIFY and STATUS (R175, R176) -/

/-- What IDENTIFY returns (R175). -/
def identifyPayload (l : Lkp) : List Byte := be 2 Config.partCode ++ be 1 Config.revision ++ be 1 l.lsel.toNat

/-- IDENTIFY (R175). -/
def judgeIdentify (_ : Unit) (s : State) : Answer := okWith (identifyPayload s.lkp) s

def execIdentify (p : List Byte) (s : State) : Host.Outcome State Fault Refusal :=
  request 0x01 parseNone judgeIdentify p s

/-- What STATUS returns (R176). -/
def statusPayload (s : State) : List Byte :=
  encCode s.lkp.mode.code ++ encCode (runningCode s.sck.running) ++ encTag s.sck.pos ++ encCode s.exs.phase.code ++
    encCode s.exs.plan.code ++ encCode s.abu.close.code ++ be 1 s.hmu.queue.length ++
    be 1 (s.hmu.queue.countP isMarker) ++ be 1 s.abu.statements.length ++ be 1 s.sck.log.length ++
    be 1 s.exs.log.length ++ s.cnu.records.toList.flatMap (fun r => encYes r.active) ++ encOutput s.cnu.attnA ++
    encOutput s.cnu.attnB ++ encOutput s.cnu.alarm

/-- STATUS (R176). -/
def judgeStatus (_ : Unit) (s : State) : Answer := okWith (statusPayload s) s

def execStatus (p : List Byte) (s : State) : Host.Outcome State Fault Refusal :=
  request 0x02 parseNone judgeStatus p s

end Sys2Proof.Machine
end

