-- ==== Sys2Proof/Machine/Link.lean ====
section
/-!
DEFINITION. The events of the host link: unknown kinds, start bytes, the frame that a byte completes, broken and
discarded frames, and the end of a reply (R166 to R168).
-/
namespace Sys2Proof.Machine

/-! ## Unknown kinds (R168) -/

/-- Whether a KIND is one of Table 9-6, 01H..46H. -/
def kindKnown (kind : Byte) : Bool := decide (1 ≤ kind.toNat ∧ kind.toNat ≤ Config.lastKind)

/-- UNKNOWN_KIND (R168): the reply is UNKNOWN, with no payload. -/
def execUnknownKind (kind : Byte) (_p : List Byte) (s : State) : Host.Outcome State Fault Refusal :=
  if kindKnown kind then .next s
  else if linkOverrun s.lkp then .next (overrunFrame kind s)
  else .next (s.answer kind .unknown [])

/-! ## A frame that is complete (R167, R168) -/

/-- A complete frame judged by R167: discarded for overrun, else for a wrong CRC; a frame that passes both is not
discarded. -/
def discardFrame (f : List Byte) (s : State) : State :=
  if linkOverrun s.lkp then overrunFrame (kindOf f) s else if crcRight f then s else breakFrame 1 s

/-- The meanings of the requests of Table 9-6 in the order of their kind numbers, from 01H. -/
def requestMeanings : List (List Byte → State → Host.Outcome State Fault Refusal) :=
  [execIdentify, execStatus, execModeStart, execModeStop, execRestart, execClockSet, execClockTrim, execClockRead,
   execTimerSet, execTimerDisarm, execCaptureSet, execCaptureDisarm, execCaptureTrigger, execCaptureFetch,
   execPulseSet, execPulseRead, execEventSet, execEventRead, execPointSet, execPointRead, execGradeSet, execHolderSet,
   execGradeRead, execConsumerSet, execConsumerEnable, execRequestSet, execConsumerRead, execStepRead, execDriveSet,
   execDriveSetpoint, execDriveStart, execDriveStop, execDrivePosition, execDriveRead, execExportSet, execNominate,
   execNominateCancel, execNominateAmend, execExportArm, execExportHalt, execExportRelease, execCurtail,
   execExportLogFetch, execExportRead, execNominationRead, execMeterSet, execMeterKey, execMeterConfirm,
   execMeterRead, execRetireRead, execAccountAdd, execAccountRemove, execAccountSuspend, execAccountResume,
   execAccountTariff, execAccountRead, execDirectoryRead, execLookasidePurge, execLookasideRead, execTariffSet,
   execBandmapSet, execTariffRead, execSuspenseRead, execPeriodClose, execStatementFetch, execPeriodRead,
   execConditionRead, execConditionClear, execConditionRaise, execConditionRoute]

/-- The request with this KIND and this payload handed to the block that owns it; UNKNOWN where there is none (R168). -/
def dispatchFrame (kind : Byte) (p : List Byte) (s : State) : Host.Outcome State Fault Refusal :=
  match kind.toNat with
  | 0 => execUnknownKind kind p s
  | k + 1 =>
    match requestMeanings[k]? with
    | some meaning => meaning p s
    | none => execUnknownKind kind p s

/-- A complete frame judged (R167): discarded for overrun or for a wrong CRC, else taken for dispatch. -/
def completeFrame (f : List Byte) (s : State) : Host.Outcome State Fault Refusal :=
  if linkOverrun s.lkp || !crcRight f then .next (discardFrame f s) else dispatchFrame (kindOf f) (payloadOf f) s

/-! ## Bytes (R166) -/

/-- A byte received while HUNTING: E7H begins a frame, which carries the overrun mark where the answer mark is set
(R166). -/
def huntByte (b : Byte) (s : State) : State :=
  if b = Config.linkStart then
    { s with lkp := { s.lkp with rx := .collecting [], overrun := s.lkp.answer } }
  else s

/-- A byte collected: it is data whatever its value. The second one completes LEN, and byte LEN + 2 after LEN completes
the frame, which is judged at once (R166). -/
def collectByte (b : Byte) (l : List Byte) (s : State) : Host.Outcome State Fault Refusal :=
  let f := l ++ [b]
  if (lenOf f).any fun len => !lenPermitted len then .next (breakFrame 2 s)
  else if isComplete f then completeFrame f s
  else .next { s with lkp := { s.lkp with rx := .collecting f } }

/-- LINK_START_BYTE (R166): a byte of E7H, which while COLLECTING is data. -/
def execLinkStartByte (s : State) : Host.Outcome State Fault Refusal :=
  match s.lkp.rx with
  | .hunting => .next (huntByte Config.linkStart s)
  | .collecting l => collectByte Config.linkStart l s

/-! ## Broken and discarded frames (R166, R167) -/

/-- A frame broken while COLLECTING the bytes `l` (R166). -/
def breakBy (cause : LinkBreak) (l : List Byte) (s : State) : State :=
  match cause with
  | .badLen len => if l.length < 2 ∧ lenPermitted len.toNat = false then breakFrame 2 s else s
  | .gap b stopBit => if stopBit then huntByte b (breakFrame 3 s) else breakFrame 3 s
  | .stop => breakFrame 4 s

/-- LINK_FRAME_BROKEN (R166): while HUNTING there is no frame to break. -/
def execLinkFrameBroken (cause : LinkBreak) (s : State) : Host.Outcome State Fault Refusal :=
  match s.lkp.rx with
  | .hunting => .next s
  | .collecting l => .next (breakBy cause l s)

/-- The bytes of a frame after its start byte, the ones collected first. -/
def frameBytes (bytes : List Byte) (l : Lkp) : List Byte :=
  match l.rx with
  | .hunting => bytes
  | .collecting c => c ++ bytes

/-- FRAME_DISCARDED (R167). -/
def execFrameDiscarded (bytes : List Byte) (s : State) : Host.Outcome State Fault Refusal :=
  let f := frameBytes bytes s.lkp
  .next (if isComplete f then discardFrame f s else s)

/-! ## The end of a reply (R168, R173) -/

/-- The last byte of the reply has been sent: the answer mark is cleared (R168). -/
def replyEnded (s : State) : State := { s with lkp := { s.lkp with answer := false, reply := none } }

/-- Whether a reply is the OK of RESTART (R173). -/
def isRestartReply (r : Option Reply) : Bool :=
  match r with
  | some x => decide (x.kind = 0x85) && decide (x.code = .ok)
  | none => false

/-- REPLY_SENT (R168); the last byte of RESTART's reply is followed by the warm reset (R173). -/
def execReplySent (s : State) : Host.Outcome State Fault Refusal :=
  .next (if isRestartReply s.lkp.reply then warmReset s else replyEnded s)

end Sys2Proof.Machine
end

