-- ==== Sys2Proof/Machine/Dispatch.lean ====
section
/-!
DEFINITION. The meaning of every command: one arm per row of spec/opcode_table.json, in the table's order.
-/
namespace Sys2Proof.Machine

/-- What a command does to everything but the queue of commands. -/
def exec (i : Instr) (s : State) : Host.Outcome State Fault Refusal :=
  match i with
  | .coldReset lsel levels => Sys2Proof.Machine.execColdReset lsel levels s
  | .warmReset => Sys2Proof.Machine.execWarmReset s
  | .identify p => Sys2Proof.Machine.execIdentify p s
  | .status p => Sys2Proof.Machine.execStatus p s
  | .modeStart p => Sys2Proof.Machine.execModeStart p s
  | .modeStop p => Sys2Proof.Machine.execModeStop p s
  | .restart p => Sys2Proof.Machine.execRestart p s
  | .clockSet p => Sys2Proof.Machine.execClockSet p s
  | .clockTrim p => Sys2Proof.Machine.execClockTrim p s
  | .clockRead p => Sys2Proof.Machine.execClockRead p s
  | .timerSet p => Sys2Proof.Machine.execTimerSet p s
  | .timerDisarm p => Sys2Proof.Machine.execTimerDisarm p s
  | .captureSet p => Sys2Proof.Machine.execCaptureSet p s
  | .captureDisarm p => Sys2Proof.Machine.execCaptureDisarm p s
  | .captureTrigger p => Sys2Proof.Machine.execCaptureTrigger p s
  | .captureFetch p => Sys2Proof.Machine.execCaptureFetch p s
  | .pulseSet p => Sys2Proof.Machine.execPulseSet p s
  | .pulseRead p => Sys2Proof.Machine.execPulseRead p s
  | .eventSet p => Sys2Proof.Machine.execEventSet p s
  | .eventRead p => Sys2Proof.Machine.execEventRead p s
  | .pointSet p => Sys2Proof.Machine.execPointSet p s
  | .pointRead p => Sys2Proof.Machine.execPointRead p s
  | .gradeSet p => Sys2Proof.Machine.execGradeSet p s
  | .holderSet p => Sys2Proof.Machine.execHolderSet p s
  | .gradeRead p => Sys2Proof.Machine.execGradeRead p s
  | .consumerSet p => Sys2Proof.Machine.execConsumerSet p s
  | .consumerEnable p => Sys2Proof.Machine.execConsumerEnable p s
  | .requestSet p => Sys2Proof.Machine.execRequestSet p s
  | .consumerRead p => Sys2Proof.Machine.execConsumerRead p s
  | .stepRead p => Sys2Proof.Machine.execStepRead p s
  | .driveSet p => Sys2Proof.Machine.execDriveSet p s
  | .driveSetpoint p => Sys2Proof.Machine.execDriveSetpoint p s
  | .driveStart p => Sys2Proof.Machine.execDriveStart p s
  | .driveStop p => Sys2Proof.Machine.execDriveStop p s
  | .drivePosition p => Sys2Proof.Machine.execDrivePosition p s
  | .driveRead p => Sys2Proof.Machine.execDriveRead p s
  | .exportSet p => Sys2Proof.Machine.execExportSet p s
  | .nominate p => Sys2Proof.Machine.execNominate p s
  | .nominateCancel p => Sys2Proof.Machine.execNominateCancel p s
  | .nominateAmend p => Sys2Proof.Machine.execNominateAmend p s
  | .exportArm p => Sys2Proof.Machine.execExportArm p s
  | .exportHalt p => Sys2Proof.Machine.execExportHalt p s
  | .exportRelease p => Sys2Proof.Machine.execExportRelease p s
  | .curtail p => Sys2Proof.Machine.execCurtail p s
  | .exportLogFetch p => Sys2Proof.Machine.execExportLogFetch p s
  | .exportRead p => Sys2Proof.Machine.execExportRead p s
  | .nominationRead p => Sys2Proof.Machine.execNominationRead p s
  | .meterSet p => Sys2Proof.Machine.execMeterSet p s
  | .meterKey p => Sys2Proof.Machine.execMeterKey p s
  | .meterConfirm p => Sys2Proof.Machine.execMeterConfirm p s
  | .meterRead p => Sys2Proof.Machine.execMeterRead p s
  | .retireRead p => Sys2Proof.Machine.execRetireRead p s
  | .accountAdd p => Sys2Proof.Machine.execAccountAdd p s
  | .accountRemove p => Sys2Proof.Machine.execAccountRemove p s
  | .accountSuspend p => Sys2Proof.Machine.execAccountSuspend p s
  | .accountResume p => Sys2Proof.Machine.execAccountResume p s
  | .accountTariff p => Sys2Proof.Machine.execAccountTariff p s
  | .accountRead p => Sys2Proof.Machine.execAccountRead p s
  | .directoryRead p => Sys2Proof.Machine.execDirectoryRead p s
  | .lookasidePurge p => Sys2Proof.Machine.execLookasidePurge p s
  | .lookasideRead p => Sys2Proof.Machine.execLookasideRead p s
  | .tariffSet p => Sys2Proof.Machine.execTariffSet p s
  | .bandmapSet p => Sys2Proof.Machine.execBandmapSet p s
  | .tariffRead p => Sys2Proof.Machine.execTariffRead p s
  | .suspenseRead p => Sys2Proof.Machine.execSuspenseRead p s
  | .periodClose p => Sys2Proof.Machine.execPeriodClose p s
  | .statementFetch p => Sys2Proof.Machine.execStatementFetch p s
  | .periodRead p => Sys2Proof.Machine.execPeriodRead p s
  | .conditionRead p => Sys2Proof.Machine.execConditionRead p s
  | .conditionClear p => Sys2Proof.Machine.execConditionClear p s
  | .conditionRaise p => Sys2Proof.Machine.execConditionRaise p s
  | .conditionRoute p => Sys2Proof.Machine.execConditionRoute p s
  | .unknownKind kind p => Sys2Proof.Machine.execUnknownKind kind p s
  | .linkFrameBroken cause => Sys2Proof.Machine.execLinkFrameBroken cause s
  | .frameDiscarded bytes => Sys2Proof.Machine.execFrameDiscarded bytes s
  | .replySent => Sys2Proof.Machine.execReplySent s
  | .timebaseTick order => Sys2Proof.Machine.execTimebaseTick order s
  | .pointAgeExpiry point order => Sys2Proof.Machine.execPointAgeExpiry point order s
  | .stepBoundary order => Sys2Proof.Machine.execStepBoundary order s
  | .timerExpiry timer order => Sys2Proof.Machine.execTimerExpiry timer order s
  | .pulseArrival channel => Sys2Proof.Machine.execPulseArrival channel s
  | .eventLineChange line levels => Sys2Proof.Machine.execEventLineChange line levels s
  | .sensorRecord bytes => Sys2Proof.Machine.execSensorRecord bytes s
  | .sensorRecordBroken bytes cause => Sys2Proof.Machine.execSensorRecordBroken bytes cause s
  | .readingExpiry position order => Sys2Proof.Machine.execReadingExpiry position order s
  | .emissionStep => Sys2Proof.Machine.execEmissionStep s
  | .periodStart channel => Sys2Proof.Machine.execPeriodStart channel s
  | .activeTimeEnd channel => Sys2Proof.Machine.execActiveTimeEnd channel s
  | .pairTick channel => Sys2Proof.Machine.execPairTick channel s
  | .moveEnd channel => Sys2Proof.Machine.execMoveEnd channel s
  | .pauseEnd channel => Sys2Proof.Machine.execPauseEnd channel s
  | .eventLineSample levels => Sys2Proof.Machine.execEventLineSample levels s
  | .linkStartByte => Sys2Proof.Machine.execLinkStartByte s
  | .sensorStartByte => Sys2Proof.Machine.execSensorStartByte s

end Sys2Proof.Machine
end

