-- ==== Sys2Proof/WellFormed.lean ====
section
/-!
DEFINITION. Well-formed commands: what the line, the sensor port and the manual's shapes can give. A command that is
not well formed still has a meaning; none of them stops the model.
-/
namespace Sys2Proof

/-- A payload fits a request frame: 0 to 1,022 bytes (Table 9-1). -/
def payloadFits (p : List Byte) : Bool := decide (p.length ≤ 1022)

/-- A KIND that is not one of Table 9-6 (R168). -/
def kindUnknown (kind : Byte) : Bool := decide (kind.toNat = 0 ∨ Config.lastKind < kind.toNat)

/-- What breaks a frame is as R166 says: a LEN that breaks one is 0 or above 1,023. -/
def linkBreakFits : LinkBreak → Bool
  | .badLen len => decide (len.toNat = 0 ∨ 1023 < len.toNat)
  | .gap _ _ => true
  | .stop => true

/-- Well-formedness. -/
def Instr.wellFormed : Instr → Bool
  | .coldReset _ _ => true
  | .warmReset => true
  | .identify p => payloadFits p
  | .status p => payloadFits p
  | .modeStart p => payloadFits p
  | .modeStop p => payloadFits p
  | .restart p => payloadFits p
  | .clockSet p => payloadFits p
  | .clockTrim p => payloadFits p
  | .clockRead p => payloadFits p
  | .timerSet p => payloadFits p
  | .timerDisarm p => payloadFits p
  | .captureSet p => payloadFits p
  | .captureDisarm p => payloadFits p
  | .captureTrigger p => payloadFits p
  | .captureFetch p => payloadFits p
  | .pulseSet p => payloadFits p
  | .pulseRead p => payloadFits p
  | .eventSet p => payloadFits p
  | .eventRead p => payloadFits p
  | .pointSet p => payloadFits p
  | .pointRead p => payloadFits p
  | .gradeSet p => payloadFits p
  | .holderSet p => payloadFits p
  | .gradeRead p => payloadFits p
  | .consumerSet p => payloadFits p
  | .consumerEnable p => payloadFits p
  | .requestSet p => payloadFits p
  | .consumerRead p => payloadFits p
  | .stepRead p => payloadFits p
  | .driveSet p => payloadFits p
  | .driveSetpoint p => payloadFits p
  | .driveStart p => payloadFits p
  | .driveStop p => payloadFits p
  | .drivePosition p => payloadFits p
  | .driveRead p => payloadFits p
  | .exportSet p => payloadFits p
  | .nominate p => payloadFits p
  | .nominateCancel p => payloadFits p
  | .nominateAmend p => payloadFits p
  | .exportArm p => payloadFits p
  | .exportHalt p => payloadFits p
  | .exportRelease p => payloadFits p
  | .curtail p => payloadFits p
  | .exportLogFetch p => payloadFits p
  | .exportRead p => payloadFits p
  | .nominationRead p => payloadFits p
  | .meterSet p => payloadFits p
  | .meterKey p => payloadFits p
  | .meterConfirm p => payloadFits p
  | .meterRead p => payloadFits p
  | .retireRead p => payloadFits p
  | .accountAdd p => payloadFits p
  | .accountRemove p => payloadFits p
  | .accountSuspend p => payloadFits p
  | .accountResume p => payloadFits p
  | .accountTariff p => payloadFits p
  | .accountRead p => payloadFits p
  | .directoryRead p => payloadFits p
  | .lookasidePurge p => payloadFits p
  | .lookasideRead p => payloadFits p
  | .tariffSet p => payloadFits p
  | .bandmapSet p => payloadFits p
  | .tariffRead p => payloadFits p
  | .suspenseRead p => payloadFits p
  | .periodClose p => payloadFits p
  | .statementFetch p => payloadFits p
  | .periodRead p => payloadFits p
  | .conditionRead p => payloadFits p
  | .conditionClear p => payloadFits p
  | .conditionRaise p => payloadFits p
  | .conditionRoute p => payloadFits p
  | .unknownKind kind p => kindUnknown kind && payloadFits p
  | .linkFrameBroken cause => linkBreakFits cause
  | .frameDiscarded bytes => decide (bytes.length ≤ 1027)
  | .replySent => true
  | .timebaseTick _ => true
  | .pointAgeExpiry _ _ => true
  | .stepBoundary _ => true
  | .timerExpiry _ _ => true
  | .pulseArrival _ => true
  | .eventLineChange _ _ => true
  | .sensorRecord bytes => decide (1 ≤ bytes.length ∧ bytes.length ≤ 5)
  | .sensorRecordBroken bytes _ => decide (bytes.length ≤ 4)
  | .readingExpiry _ _ => true
  | .emissionStep => true
  | .periodStart _ => true
  | .activeTimeEnd _ => true
  | .pairTick _ => true
  | .moveEnd _ => true
  | .pauseEnd _ => true
  | .eventLineSample _ => true
  | .linkStartByte => true
  | .sensorStartByte => true

end Sys2Proof
end

