-- ==== Sys2Proof/Safety.lean ====
section
/-!
DEFINITION. What a sound state of the part is: the relations between its items that the manual's prose states of the
whole machine, block by block. Each is kept by every step, from every state that has it.
-/
namespace Sys2Proof.Machine

/-! ## How a command completes (R166, R168) -/

/-- The link after a reply has begun: HUNTING, the answer mark set, the overrun mark clear, the reply being sent (R166,
R168). -/
abbrev replied (kind : Byte) (code : ResultCode) (payload : List Byte) (l : Lkp) : Lkp :=
  { l with rx := .hunting, overrun := false, answer := true,
           reply := some { kind := kind, code := code, payload := payload } }

/-- The frame that is complete carries no overrun mark, so that it is judged (R167). -/
abbrev Heard (s : State) : Prop := linkOverrun s.lkp = false

/-- Command `c` gives, from `s`, the state `t` with this reply on the link of `s`; `t` has changed nothing of the link
but, for MODE-START and MODE-STOP, the mode. -/
abbrev Answers (c : Instr) (s : State) (kind : Byte) (code : ResultCode) (payload : List Byte) (t : State) : Prop :=
  exec c s = .next { t with lkp := replied kind code payload t.lkp }

/-- Command `c` is answered from `s` with this reply, and nothing but the link changes (R169). -/
abbrev Declines (c : Instr) (s : State) (kind : Byte) (code : ResultCode) (payload : List Byte) : Prop :=
  Answers c s kind code payload s

/-- Command `c` completes from `s` in a state of which `P` holds. -/
abbrev CompletesWith (c : Instr) (s : State) (P : State → Prop) : Prop := ∃ t, exec c s = .next t ∧ P t

/-- Whether the payload of a request has a size that its kind permits (R165, R168); `true` of the other commands, which
carry no payload that is judged. -/
def sizePermitted : Instr → Bool
  | .coldReset _ _ => true
  | .warmReset => true
  | .identify p => (parseNone p).isSome
  | .status p => (parseNone p).isSome
  | .modeStart p => (parseNone p).isSome
  | .modeStop p => (parseNone p).isSome
  | .restart p => (parseNone p).isSome
  | .clockSet p => (parseClockSet p).isSome
  | .clockTrim p => (parseSigned p).isSome
  | .clockRead p => (parseNone p).isSome
  | .timerSet p => (parseTimerSet p).isSome
  | .timerDisarm p => (parse8 p).isSome
  | .captureSet p => (parseCaptureSet p).isSome
  | .captureDisarm p => (parse8 p).isSome
  | .captureTrigger p => (parse8 p).isSome
  | .captureFetch p => (parseNone p).isSome
  | .pulseSet p => (parsePulseSet p).isSome
  | .pulseRead p => (parse88 p).isSome
  | .eventSet p => (parse88 p).isSome
  | .eventRead p => (parseNone p).isSome
  | .pointSet p => (parsePointSet p).isSome
  | .pointRead p => (parse88 p).isSome
  | .gradeSet p => (parseGradeSet p).isSome
  | .holderSet p => (parseHolderSet p).isSome
  | .gradeRead p => (parse8 p).isSome
  | .consumerSet p => (parseConsumerSet p).isSome
  | .consumerEnable p => (parse88 p).isSome
  | .requestSet p => (parse824 p).isSome
  | .consumerRead p => (parse8 p).isSome
  | .stepRead p => (parseNone p).isSome
  | .driveSet p => (parseDriveSet p).isSome
  | .driveSetpoint p => (parse816 p).isSome
  | .driveStart p => (parse8 p).isSome
  | .driveStop p => (parse8 p).isSome
  | .drivePosition p => (parse816 p).isSome
  | .driveRead p => (parse88 p).isSome
  | .exportSet p => (parseExportSet p).isSome
  | .nominate p => (parseNominate p).isSome
  | .nominateCancel p => (parseNone p).isSome
  | .nominateAmend p => (parseNominate p).isSome
  | .exportArm p => (parseNone p).isSome
  | .exportHalt p => (parseNone p).isSome
  | .exportRelease p => (parseNone p).isSome
  | .curtail p => (parseCurtail p).isSome
  | .exportLogFetch p => (parseNone p).isSome
  | .exportRead p => (parseNone p).isSome
  | .nominationRead p => (parse888 p).isSome
  | .meterSet p => (parseMeterSet p).isSome
  | .meterKey p => (parse824 p).isSome
  | .meterConfirm p => (parse8 p).isSome
  | .meterRead p => (parse8 p).isSome
  | .retireRead p => (parse88 p).isSome
  | .accountAdd p => (parse248 p).isSome
  | .accountRemove p => (parse24 p).isSome
  | .accountSuspend p => (parse24 p).isSome
  | .accountResume p => (parse24 p).isSome
  | .accountTariff p => (parse248 p).isSome
  | .accountRead p => (parse24 p).isSome
  | .directoryRead p => (parse88 p).isSome
  | .lookasidePurge p => (parse32 p).isSome
  | .lookasideRead p => (parseNone p).isSome
  | .tariffSet p => (parseTariffSet p).isSome
  | .bandmapSet p => (parseBandmapSet p).isSome
  | .tariffRead p => (parseNone p).isSome
  | .suspenseRead p => (parse8 p).isSome
  | .periodClose p => (parseNone p).isSome
  | .statementFetch p => (parseNone p).isSome
  | .periodRead p => (parseNone p).isSome
  | .conditionRead p => (parseMask p).isSome
  | .conditionClear p => (parseMask p).isSome
  | .conditionRaise p => (parse816 p).isSome
  | .conditionRoute p => (parse888 p).isSome
  | .unknownKind _ _ => true
  | .linkFrameBroken _ => true
  | .frameDiscarded _ => true
  | .replySent => true
  | .timebaseTick _ => true
  | .pointAgeExpiry _ _ => true
  | .stepBoundary _ => true
  | .timerExpiry _ _ => true
  | .pulseArrival _ => true
  | .eventLineChange _ _ => true
  | .sensorRecord _ => true
  | .sensorRecordBroken _ _ => true
  | .readingExpiry _ _ => true
  | .emissionStep => true
  | .periodStart _ => true
  | .activeTimeEnd _ => true
  | .pairTick _ => true
  | .moveEnd _ => true
  | .pauseEnd _ => true
  | .eventLineSample _ => true
  | .linkStartByte => true
  | .sensorStartByte => true

/-- The condition records but those of the listed numbers stand as they stood. -/
abbrev OthersStand (ns : List (Fin 32)) (c d : Cnu) : Prop := ∀ n : Fin 32, n ∉ ns → d.records[n] = c.records[n]

/-- A setting event of LATCHED condition `n` with this source and time stands in `d` where `c` stood before, and no
other record has changed (R177). -/
abbrev RaisedOnce (n : Fin 32) (source : Nat) (time : Tag) (c d : Cnu) : Prop :=
  d.records[n].active = true ∧ d.records[n].count = min (c.records[n].count + 1) 255 ∧
  (c.records[n].active = false → d.records[n].source = source ∧ d.records[n].time = time) ∧
  (c.records[n].active = true → d.records[n].source = c.records[n].source ∧ d.records[n].time = c.records[n].time) ∧
  d.records[n].route = c.records[n].route ∧ d.records[n].alarm = c.records[n].alarm ∧ OthersStand [n] c d

/-- The channel from which a role counts anew after a PULSE-SET on channel `ch` that turned the channels `old` into
`new`: `ch` where the role was given to it or its width changed, its odd partner where a cascade has ended, and none
where the role gained no channel (R20). -/
def gainedChannel (old new : Vector PulseChannel 24) (ch : Fin 24) (role : PulseRole) : Option (Fin 24) :=
  if new[ch].role = role ∧ isPulsePartner new ch = false ∧
      (old[ch].role ≠ role ∨ ch.1 % 2 = 0 ∧ old[ch].width ≠ new[ch].width) then some ch
  else if ch.1 % 2 = 0 ∧ old[ch].width = .cascade ∧ new[ch].width = .single ∧ new[ch + 1].role = role then
    some (ch + 1)
  else none

/-! ## Outputs and condition records (R177, R181) -/

/-- Each output is asserted exactly while a record that drives it is active (R181). -/
abbrev OutputsFollow (c : Cnu) : Prop :=
  (c.attnA = true ↔ ∃ n : Fin 32, c.records[n].active = true ∧ c.records[n].route = .a) ∧
  (c.attnB = true ↔ ∃ n : Fin 32, c.records[n].active = true ∧ c.records[n].route = .b) ∧
  (c.alarm = true ↔ ∃ n : Fin 32, c.records[n].active = true ∧ c.records[n].alarm = true)

/-- Conditions 0 to 29 have the alarm class of Table 10-1, and no count is above 255 (R177). -/
abbrev RecordsSound (c : Cnu) : Prop :=
  ∀ n : Fin 32, (n.1 < 30 → c.records[n].alarm = fixedAlarm n) ∧ c.records[n].count ≤ 255

/-- Conditions and outputs (R177, R181). -/
abbrev ConditionsSound (s : State) : Prop := OutputsFollow s.cnu ∧ RecordsSound s.cnu

/-! ## LEVEL conditions and their causes (R178) -/

/-- The LEVEL conditions of the field and of the logs are active exactly while their causes hold (R16, R35, R122,
R162). -/
abbrev FieldLevels (s : State) : Prop :=
  (s.cnu.records[condSampleHeld].active = true ↔
    ∃ p : Fin 32, s.fiu.points[p].role ≠ .unassigned ∧ s.fiu.points[p].quality = .held) ∧
  (s.cnu.records[condSampleFailed].active = true ↔
    ∃ p : Fin 32, s.fiu.points[p].role ≠ .unassigned ∧ s.fiu.points[p].quality = .failed) ∧
  (s.cnu.records[condCaptureReady].active = true ↔ s.sck.log ≠ []) ∧
  (s.cnu.records[condExportLogReady].active = true ↔ s.exs.log ≠ []) ∧
  (s.cnu.records[condStatementReady].active = true ↔ s.abu.statements ≠ [])

/-- The LEVEL conditions of the gas balance are active exactly while their causes hold (R55, R77). -/
abbrev BalanceLevels (s : State) : Prop :=
  (s.cnu.records[condHolderLowlow].active = true ↔
    ∃ g : Fin 3, s.gbu.grades[g].used = true ∧ s.gbu.grades[g].band = .lowlow) ∧
  (s.cnu.records[condHolderHighhigh].active = true ↔
    ∃ g : Fin 3, s.gbu.grades[g].used = true ∧ s.gbu.grades[g].band = .highhigh) ∧
  (s.cnu.records[condConsumerBlocked].active = true ↔ ∃ n : Fin 12, s.gbu.consumers[n].state = .blocked)

/-- The LEVEL conditions of power export are active exactly while their causes hold (R124). -/
abbrev ExportLevels (s : State) : Prop :=
  (s.cnu.records[condExportPassive].active = true ↔ s.exs.phase = .passive) ∧
  (s.cnu.records[condExportHalted].active = true ↔ s.exs.phase = .halted) ∧
  (s.cnu.records[condPlanGrace].active = true ↔ s.exs.plan = .grace) ∧
  (s.cnu.records[condPlanStarved].active = true ↔ s.exs.plan = .void ∧ s.exs.phase ≠ .idle)

/-- Every LEVEL condition but FLARING follows its cause (R178). -/
abbrev LevelsFollow (s : State) : Prop := FieldLevels s ∧ BalanceLevels s ∧ ExportLevels s

/-! ## The clock (R1 to R4, R10) -/

/-- The clock runs exactly in RUN, its settings are permitted, the position lies in the schedule, a step is within its
end count, and an ARMED timer has an offset of the slot (R1, R2, R4, R10). -/
abbrev ClockSound (s : State) : Prop :=
  (s.sck.running = true ↔ s.lkp.mode = .run) ∧
  slotSPermitted s.sck.slotS = true ∧ 2 ≤ s.sck.stepS ∧ s.sck.stepS ≤ 60 ∧ s.sck.slotS % s.sck.stepS = 0 ∧
  s.sck.pos.frame < 65536 ∧ s.sck.pos.step < stepsPerSlot s.sck ∧
  -5 ≤ s.sck.trim ∧ s.sck.trim ≤ 5 ∧ 2 ≤ s.sck.endCount ∧ s.sck.endCount ≤ s.sck.stepS + 5 ∧
  s.sck.ticks < s.sck.endCount ∧ (s.sck.running = false → s.sck.ticks = 0) ∧ s.sck.phaseMs < 1000 ∧
  ∀ n : Fin 4, s.sck.timers[n].armed = true → s.sck.timers[n].offset < stepsPerSlot s.sck

/-! ## SETUP (R172) -/

/-- The clock runs exactly in RUN. In SETUP every drive channel is STOPPED, every Pc is 0, the export state is IDLE, no
step item is kept, no reading is in the retire queue and FLARING is not active (R2, R57, R70, R88, R108, R110, R127). -/
abbrev SetupQuiet (s : State) : Prop :=
  (s.sck.running = true ↔ s.lkp.mode = .run) ∧
  (s.lkp.mode = .setup →
    (∀ ch : Fin 16, s.dcu.channels[ch].state = .stopped) ∧ (∀ n : Fin 12, s.gbu.consumers[n].pc = 0) ∧
    s.exs.phase = .idle ∧ s.exs.stepItems = [] ∧ s.hmu.queue.all isMarker = true ∧
    s.cnu.records[condFlaring].active = false)

/-! ## Drive pins (R79, R88) -/

/-- The pins of channel `ch` stand as its state and mode drive them; `ch` is no member (R88). -/
abbrev PinsStand (v : Vector DriveChannel 16) (ch : Fin 16) : Prop :=
  (v[ch].state ≠ .running → v[ch].pin = v[ch].idle) ∧
  (v[ch].mode = .raise → v[ch].pin = levelWhen (raiseDriven v[ch]) v[ch] ∧
    v[ch + 1].pin = levelWhen (lowerDriven v[ch]) v[ch]) ∧
  (v[ch].mode = .cascade → v[ch + 1].pin = v[ch].idle)

/-- Only even channels are CASCADE or RAISE, a member has no state of its own, and every pin stands as R88 says. -/
abbrev PinsSound (v : Vector DriveChannel 16) : Prop :=
  ∀ ch : Fin 16, (ch.1 % 2 = 1 → v[ch].mode ≠ .cascade ∧ v[ch].mode ≠ .raise) ∧
    (isMember v ch = true → v[ch].state = .stopped) ∧ (isMember v ch = false → PinsStand v ch)

/-- A channel that is not STOPPED and no member is RUNNING exactly while its permissive is met (R85, R87). -/
abbrev PermissivesFollow (s : State) : Prop :=
  ∀ ch : Fin 16, isMember s.dcu.channels ch = false → s.dcu.channels[ch].state ≠ .stopped →
    (s.dcu.channels[ch].state = .running ↔ permissiveMet s.fiu.lines s.dcu.channels[ch] = true)

/-- Drive channels: pins and permissives. -/
abbrev DrivesSound (s : State) : Prop := PinsSound s.dcu.channels ∧ PermissivesFollow s

/-! ## The ranges of the registers (R18, R24, R30, R37, R56, R78, R93, R100, R102, R104, R115, R120, R121, R126, R129,
R153) -/

/-- A grade entry within Table 3-1 and Table 3-2 (R37). -/
abbrev GradeInRange (e : GradeEntry) : Prop :=
  1 ≤ e.cv ∧ e.cv ≤ 32767 ∧ e.agMax ≤ 2000000 ∧ e.retain ≤ 2000000 ∧ e.flareCapacity ≤ 2000000 ∧
  e.target ≤ 10000 ∧ e.gain ≤ 65535 ∧ 1 ≤ e.theta1 ∧ e.theta1 < e.theta2 ∧ e.theta2 < e.theta3 ∧
  e.theta3 < e.theta4 ∧ e.theta4 ≤ 10000 ∧ e.hysteresis ≤ 1000

/-- A consumer entry within Table 4-1; Pc is 0 or lies in Mc..Xc (R56, R57, R63). -/
abbrev ConsumerInRange (c : Consumer) : Prop :=
  1 ≤ c.tier ∧ c.tier ≤ 4 ∧ c.mc ≤ c.xc ∧ 1 ≤ c.xc ∧ c.xc ≤ 2000000 ∧ 1 ≤ c.dc ∧ c.dc ≤ 2000000 ∧
  (c.kind ≠ .towngas → 1 ≤ c.mc) ∧ c.request ≤ c.xc ∧ (c.pc = 0 ∨ c.mc ≤ c.pc ∧ c.pc ≤ c.xc) ∧
  (∀ ch ∈ c.supp, c.kind = .heat ∧ c.main ≠ some ch) ∧ c.supp.isSome = c.smax.isSome ∧
  (∀ x ∈ c.smax, 1 ≤ x ∧ x ≤ 2000000) ∧ c.weight.isSome = decide (c.kind = .power) ∧
  (∀ w : Nat, c.weight = some w → 1 ≤ w ∧ w ≤ 100) ∧
  (c.main = none → c.enabled = false ∧ c.state = .out)

/-- The pair items of a drive channel within Table 5-4 (R93). -/
abbrev PairInRange (c : DriveChannel) : Prop :=
  10 ≤ c.ttr ∧ c.ttr ≤ 65535 ∧ c.deadband ≤ 500 ∧ 1 ≤ c.reversal ∧ c.reversal ≤ 65535 ∧ c.minMove ≤ c.ttr ∧
  c.seatRun ≤ 65535 ∧ c.est ≤ 10000 ∧ c.est0 ≤ 10000 ∧ c.moved ≤ 65535 ∧ c.length ≤ 65535 ∧ c.remaining ≤ 65535

/-- A drive channel within Tables 5-1 and 5-4; a STOPPED one holds equal setpoints (R78, R84, R93). -/
abbrev DriveInRange (c : DriveChannel) : Prop :=
  c.baseTick ∈ [1, 10, 100] ∧ periodFits c.mode c.period = true ∧ wminFits c.mode c.period c.wmin = true ∧
  c.staged ≤ 10000 ∧ c.active ≤ 10000 ∧ c.count ≤ 65535 ∧ (∀ n ∈ c.period, c.tick < n) ∧
  c.divider < c.baseTick ∧ (c.state = .stopped → c.staged = c.active) ∧ PairInRange c

/-- A pulse channel within R18. -/
abbrev PulseInRange (v : Vector PulseChannel 24) (ch : Fin 24) : Prop :=
  (v[ch].width = .cascade → ch.1 % 2 = 0) ∧ 1 ≤ v[ch].scale ∧ v[ch].scale ≤ 65535 ∧ 1 ≤ v[ch].limit ∧
  v[ch].limit ≤ (if v[ch].width = .single then 65535 else 16777215) ∧ v[ch].counter ≤ 65535

/-- A sample point within R30; a value that readers use lies in the range of the role (R31). -/
abbrev PointInRange (p : SamplePoint) : Prop :=
  1 ≤ p.holdAfter ∧ p.holdAfter ≤ 3600 ∧ p.holdAfter ≤ p.failAfter ∧ p.failAfter ≤ 7200 ∧ p.age ≤ 65535 ∧
  (p.quality = .good ∨ p.quality = .held →
    (roleRange p.role).1 ≤ p.value ∧ p.value ≤ (roleRange p.role).2)

/-- The export configuration within Table 6-1 (R100). -/
abbrev ConfigInRange (c : ExportConfig) : Prop :=
  100 ≤ c.eta ∧ c.eta ≤ 900 ∧ c.capacity ≤ 500000 ∧ 1 ≤ c.tolerance ∧ c.tolerance ≤ 500 ∧ 1 ≤ c.floorWh ∧
  c.floorWh ≤ 16777215 ∧ 1 ≤ c.devLimit ∧ c.devLimit ≤ 15 ∧ c.recoveryPairs ≤ 31 ∧ c.graceSlots ≤ 8

/-- The deviation count lies in 0..15, below DEV_LIMIT in ACTIVE (R120); the recovery count lies in 0..RECOVERY_PAIRS,
and is 0 outside PASSIVE (R121). -/
abbrev CountsInRange (e : Exs) : Prop :=
  e.deviations ≤ 15 ∧ (e.phase = .active → e.deviations < e.config.devLimit) ∧
  e.recoveries ≤ e.config.recoveryPairs ∧ (e.phase ≠ .passive → e.recoveries = 0)

/-- Power export: the configuration, the tables, the held nomination, a curtailment in force and the counts (R100, R102,
R104, R115, R120, R121). -/
abbrev ExportInRange (e : Exs) : Prop :=
  ConfigInRange e.config ∧ (∀ i : Fin 96, e.current[i] ≤ 500000 ∧ e.nextTab[i] ≤ 500000) ∧ e.held ≤ 500000 ∧
  e.grace ≤ 8 ∧ (∀ c ∈ e.curtail, c.cap ≤ 500000 ∧ 1 ≤ c.remaining ∧ c.remaining ≤ 96) ∧ CountsInRange e

/-- A meter channel within Table 7-1 (R126). -/
abbrev MeterInRange (m : Meter) : Prop :=
  1 ≤ m.k ∧ m.k ≤ 65535 ∧ 1 ≤ m.limit ∧ m.limit ≤ 16777215 ∧ m.key ≤ 16777215 ∧ 1 ≤ m.litres ∧ m.litres ≤ 65535 ∧
  m.base ≤ 4294967295 ∧ m.pendingSteps ≤ 65535 ∧ m.carry ≤ 99999

/-- What the tables of Chapters 2 to 8 give a range to stands in it: pulse channels, lines, points, grades, consumers,
drive channels, the export configuration, tables and counts, meter channels, CONFIRM_S and prices. With it stand SETUP's
rest, on which Pc depends (R57), and that a member has no state of its own (R79). -/
abbrev RegistersSound (s : State) : Prop :=
  SetupQuiet s ∧ (∀ g : Fin 3, GradeInRange s.gbu.grades[g]) ∧ (∀ n : Fin 12, ConsumerInRange s.gbu.consumers[n]) ∧
  (∀ ch : Fin 16, DriveInRange s.dcu.channels[ch]) ∧
  (∀ ch : Fin 16, isMember s.dcu.channels ch = true → s.dcu.channels[ch].state = .stopped) ∧
  (∀ ch : Fin 24, PulseInRange s.fiu.pulses ch) ∧
  (∀ sp : Fin 32, PointInRange s.fiu.points[sp]) ∧
  (∀ l : Fin 8, s.fiu.lines[l].debounce ≤ 255 ∧ s.fiu.lines[l].steady ≤ 255) ∧ ExportInRange s.exs ∧
  (∀ m : Fin 16, MeterInRange s.hmu.meters[m]) ∧ 1 ≤ s.hmu.confirmS ∧ s.hmu.confirmS ≤ 60 ∧
  ∀ t k : Fin 8, s.abu.tariffs[t][k] ≤ 16777215

/-! ## Queues, logs and the close of a period (R16, R117, R122, R131, R150, R160) -/

/-- Whether an emission is in progress (R131, R143). -/
def emissionInProgress (a : Abu) : Bool := decide (a.close = .emitting) || decide (a.close = .paused)

/-- The retire queue holds at most 64 entries; its markers and an emission in progress are together at most one, and a
marker stands in it exactly in MARKED (R131, R158). -/
abbrev RetireSound (s : State) : Prop :=
  s.hmu.queue.length ≤ 64 ∧ s.hmu.queue.countP isMarker + (if emissionInProgress s.abu then 1 else 0) ≤ 1 ∧
  (s.hmu.queue.countP isMarker = 1 ↔ s.abu.close = .marked) ∧ (s.abu.closing.isSome ↔ emissionInProgress s.abu = true)

/-- The head of the retire queue is neither finished nor a marker, and a ready reading that is still WAITING stands
behind a WAITING reading of its meter (R137, R139). -/
abbrev QueueSettled (q : List RetireEntry) : Prop :=
  (∀ e ∈ q.head?, isWaiting e = true) ∧
  ∀ i : Fin q.length, ∀ r : Reading, q[i] = .reading r → r.finished = none → r.ready = true →
    ∃ j : Fin q.length, j < i ∧ ∃ r' : Reading, q[j] = .reading r' ∧ r'.finished = none ∧ r'.meter = r.meter

/-- The logs and the statement queue keep their sizes (R16, R122, R160). -/
abbrev LogsSound (s : State) : Prop :=
  s.sck.log.length ≤ 16 ∧ s.exs.log.length ≤ 16 ∧ s.abu.statements.length ≤ 32

/-- The lookaside holds at most 8 entries and no two with the same key (R150). -/
abbrev LookasideSound (a : Abu) : Prop := a.lookaside.length ≤ 8 ∧ (a.lookaside.map (·.key)).Nodup

/-- Queues and logs. -/
abbrev QueuesSound (s : State) : Prop :=
  RetireSound s ∧ QueueSettled s.hmu.queue ∧ LogsSound s ∧ LookasideSound s.abu

/-! ## The directory (R144) -/

/-- A valid entry lies in the group that its H mark names, with a key in range (R144). -/
abbrev EntryPlaced (d : Vector DirEntry 256) (i : Fin 256) : Prop :=
  d[i].valid = true →
    keyInRange d[i].key = true ∧
    i.1 / 4 = if d[i].secondary then secondaryGroup d[i].key else primaryGroup d[i].key

/-- No two valid entries hold the same key, and each is placed by its H mark (R144). -/
abbrev DirectorySound (d : Vector DirEntry 256) : Prop :=
  (∀ i, EntryPlaced d i) ∧
  ∀ i j : Fin 256, d[i].valid = true → d[j].valid = true → d[i].key = d[j].key → i = j

/-! ## Billing banks (R143, R156, R160) -/

/-- A bank that has taken no reading has taken nothing: only a rem carried in at a flip may stand in it (R156,
R159). -/
abbrev BankPlain (b : Bank) : Prop :=
  b.rem < Config.kJPerMWh ∧ (b.readings = 0 → b.recKJ = 0 ∧ b.supKJ = 0 ∧ b.charge = 0 ∧ b.estimated = 0)

/-- The closing bank of entry `i` holds nothing unless its emission is still to come (R143, R160). -/
abbrev ClosingBank (a : Abu) (i : Fin 256) : Prop :=
  a.directory[i].valid = true →
    BankPlain a.directory[i].banks[a.active] ∧ BankPlain a.directory[i].banks[a.active + 1] ∧
    a.directory[i].banks[a.active + 1].rem = 0 ∧
    (a.directory[i].banks[a.active + 1].readings ≠ 0 → emissionInProgress a = true ∧ a.cursor ≤ i.1)

/-- The closing bank of the suspense of meter `m`, in the same way (R143, R157, R160). -/
abbrev ClosingSuspense (a : Abu) (m : Fin 16) : Prop :=
  (a.suspense[m][a.active + 1].readings = 0 → a.suspense[m][a.active + 1] = SuspenseBank.zero) ∧
  (a.suspense[m][a.active].readings = 0 → a.suspense[m][a.active] = SuspenseBank.zero) ∧
  (a.suspense[m][a.active + 1].readings ≠ 0 → emissionInProgress a = true ∧ a.cursor ≤ 256 + m.1)

/-- The banks of every account and suspense: outside an emission the bank that is not active is empty (R143). -/
abbrev BanksSound (a : Abu) : Prop :=
  (∀ i, ClosingBank a i) ∧ (∀ m, ClosingSuspense a m) ∧ (emissionInProgress a = true → a.cursor < 272)

end Sys2Proof.Machine
end

