-- ==== Sys2Proof/Certificates/Slice0/Obligations.lean ====
section
/-!
DEFINITION. The statements of this model, by the chapters of the manual. Each says which rule it states; what is the
model's own choice is named as such with its log entry.
-/

open Sys2Proof Sys2Proof.Machine

/-! ## Commands, the queue and the link (Chapter 9) -/

/-- A step takes the command at the front of the queue and executes it with the rest of the queue. On an empty queue it is
one idle millisecond, which is the model's choice (log entry 1): it moves the phase of the timebase, up to 999, and in
each RUNNING channel the divider of the base tick, whose end moves the tick in period of a channel that works in periods,
short of the end of its active time and of its period; everything else stands. -/
def Obligations.StepRunsFront : Prop :=
  (∀ (s : State) (c : Instr) (q : List Instr),
    step { s with pending := c :: q } = exec c { s with pending := q }) ∧
  ∀ s : State, s.pending = [] → ∃ v : Vector DriveChannel 16,
    step s = .next { s with
      sck := { s.sck with phaseMs := min (s.sck.phaseMs + 1) 999 }, dcu := { s.dcu with channels := v } } ∧
    ∀ ch : Fin 16,
      let c := s.dcu.channels[ch]
      let event := c.tick + 1 = activeTime c ∨ c.period.getD 0 ≤ c.tick + 1
      (c.state ≠ .running → v[ch] = c) ∧
      (c.state = .running → c.divider + 1 < c.baseTick → v[ch] = { c with divider := c.divider + 1 }) ∧
      (c.state = .running → c.baseTick ≤ c.divider + 1 →
        v[ch] = if c.mode ≠ .raise ∧ ¬ event then { c with divider := 0, tick := c.tick + 1 } else c)

/-- No command stops the part, and none touches the commands that wait: whatever the state and the operands, there is
a next state with the same queue. -/
def Obligations.EveryCommandCompletes : Prop :=
  ∀ (c : Instr) (s : State), ∃ t, exec c s = .next t ∧ t.pending = s.pending

/-- Table 9-1, R166 to R168: the frame that the line carries for a request reads as that request, its CRC is right and
its LEN complete. -/
def Obligations.FramesRead : Prop :=
  ∀ (c : Instr) (kind : Byte) (p : List Byte), c.wellFormed = true → requestFrame c = some (kind, p) →
    isComplete (wireFrame kind p) = true ∧ crcRight (wireFrame kind p) = true ∧
    readFrame (wireFrame kind p) = some c

/-- R165: the payload that spells given fields, each number in whole bytes with its high byte first, an optional field
after its presence byte, a dependent one omitted where it is absent; every payload that is read is one that is written
so, and every one that is written so is read. -/
def Obligations.PayloadsSpelled : Prop :=
  ∀ p : List Byte,
    let b8 := fun k : Nat => k < 256
    let b16 := fun k : Nat => k < 65536
    let b24 := fun k : Nat => k < 16777216
    (∀ a, parse8 p = some a ↔ b8 a ∧ p = be 1 a) ∧
    (∀ a b, parse88 p = some (a, b) ↔ b8 a ∧ b8 b ∧ p = be 1 a ++ be 1 b) ∧
    (∀ a b c, parse888 p = some (a, b, c) ↔ b8 a ∧ b8 b ∧ b8 c ∧ p = be 1 a ++ be 1 b ++ be 1 c) ∧
    (∀ a b, parse816 p = some (a, b) ↔ b8 a ∧ b16 b ∧ p = be 1 a ++ be 2 b) ∧
    (∀ a b, parse824 p = some (a, b) ↔ b8 a ∧ b24 b ∧ p = be 1 a ++ be 3 b) ∧
    (∀ a, parse24 p = some a ↔ b24 a ∧ p = be 3 a) ∧
    (∀ a b, parse248 p = some (a, b) ↔ b24 a ∧ b8 b ∧ p = be 3 a ++ be 1 b) ∧
    (∀ a, parse32 p = some a ↔ a < 4294967296 ∧ p = be 4 a) ∧
    (∀ m, parseMask p = some m ↔ p = be 4 m.toNat) ∧
    (∀ t, parseSigned p = some t ↔ (-128 ≤ t ∧ t ≤ 127) ∧ p = beInt 1 t) ∧
    (∀ f, parseClockSet p = some f ↔ b16 f.slotS ∧ b8 f.stepS ∧ b16 f.frame ∧ b8 f.slot ∧ b16 f.step ∧
      p = encodeClockSet f) ∧
    (∀ f, parseTimerSet p = some f ↔ b8 f.timer ∧ b8 f.slot ∧ b16 f.offset ∧ b8 f.again ∧ (∀ u ∈ f.unit, b8 u) ∧
      p = encodeTimerSet f) ∧
    (∀ f, parseCaptureSet p = some f ↔ b8 f.unit ∧ b8 f.trigger ∧ (∀ x ∈ f.line, b8 x) ∧ (∀ x ∈ f.edge, b8 x) ∧
      (∀ x ∈ f.snapshot, b8 x) ∧ b8 f.mode ∧ f.line.isSome = triggerTakesLine f.trigger ∧
      f.edge.isSome = triggerTakesLine f.trigger ∧ p = encodeCaptureSet f) ∧
    (∀ f, parsePulseSet p = some f ↔ b8 f.channel ∧ b8 f.width ∧ b8 f.role ∧ b16 f.scale ∧ b24 f.limit ∧
      p = encodePulseSet f) ∧
    (∀ f, parsePointSet p = some f ↔ b8 f.point ∧ b8 f.role ∧ b16 f.holdAfter ∧ b16 f.failAfter ∧
      p = encodePointSet f) ∧
    (∀ f, parseGradeSet p = some f ↔ b8 f.grade ∧ b8 f.use ∧ b16 f.cv ∧ b24 f.agMax ∧ b24 f.retain ∧
      b24 f.flareCapacity ∧ (∀ x ∈ f.flareChannel, b8 x) ∧ p = encodeGradeSet f) ∧
    (∀ f, parseHolderSet p = some f ↔ b8 f.grade ∧ b16 f.target ∧ b16 f.gain ∧ b16 f.theta1 ∧ b16 f.theta2 ∧
      b16 f.theta3 ∧ b16 f.theta4 ∧ b16 f.hysteresis ∧ p = encodeHolderSet f) ∧
    (∀ f, parseConsumerSet p = some f ↔ b8 f.consumer ∧ b8 f.kind ∧ b8 f.tier ∧ b24 f.mc ∧ b24 f.xc ∧ b24 f.dc ∧
      (∀ x ∈ f.main, b8 x) ∧ (∀ x ∈ f.supp, b8 x) ∧ (∀ x ∈ f.smax, b24 x) ∧ (∀ x ∈ f.weight, b8 x) ∧
      f.smax.isSome = f.supp.isSome ∧ f.weight.isSome = decide (f.kind = 1) ∧ p = encodeConsumerSet f) ∧
    (∀ f, parseDriveSet p = some f ↔ b8 f.channel ∧ b8 f.mode ∧ b8 f.baseTick ∧ (∀ x ∈ f.period, b16 x) ∧
      (∀ x ∈ f.wmin, b16 x) ∧ b8 f.idle ∧ (∀ x ∈ f.line, b8 x) ∧ (∀ x ∈ f.polarity, b8 x) ∧ b8 f.source ∧
      (∀ x ∈ f.pair, b16 x.ttr ∧ b16 x.deadband ∧ b16 x.reversal ∧ b16 x.minMove ∧ b16 x.seatRun) ∧
      f.period.isSome = decide (f.mode ≠ 3) ∧ f.wmin.isSome = decide (f.mode = 1) ∧
      f.polarity.isSome = f.line.isSome ∧ f.pair.isSome = decide (f.mode = 3) ∧ p = encodeDriveSet f) ∧
    (∀ f, parseExportSet p = some f ↔ b16 f.eta ∧ b24 f.capacity ∧ b16 f.tolerance ∧ b24 f.floorWh ∧ b8 f.devLimit ∧
      b8 f.recoveryPairs ∧ b8 f.haltOnDev ∧ b8 f.graceSlots ∧ (∀ x ∈ f.gridHold, b8 x) ∧ p = encodeExportSet f) ∧
    (∀ f, parseNominate p = some f ↔ b8 f.first ∧ b8 f.count ∧ (∀ x ∈ f.entries, b24 x) ∧
      f.entries.length = f.count ∧ p = encodeNominate f) ∧
    (∀ f, parseMeterSet p = some f ↔ b8 f.meter ∧ b8 f.use ∧ b16 f.k ∧ b24 f.limit ∧ b24 f.key ∧
      p = encodeMeterSet f) ∧
    (∀ f, parseTariffSet p = some f ↔ b8 f.tariff ∧ (∀ x ∈ f.prices, b24 x) ∧ f.prices.length = 8 ∧
      p = encodeTariffSet f) ∧
    ∀ f, parseBandmapSet p = some f ↔ b8 f.first ∧ b8 f.count ∧ (∀ x ∈ f.bands, b8 x) ∧
      f.bands.length = f.count ∧ p = encodeBandmapSet f

/-- R166, R168, R169: a request that is heard is answered with its kind number plus 80H and one result code; any code
but OK and CLAMPED leaves everything but the link as it was, conditions included, and carries no payload but the item
index of RANGE, or the two bytes of MODE-START. Only MODE-START and MODE-STOP change the mode. -/
def Obligations.RefusalsChangeNothing : Prop :=
  ∀ (s t : State) (c : Instr) (kind : Byte) (p : List Byte),
    c.wellFormed = true → requestFrame c = some (kind, p) → Heard s → exec c s = .next t →
    ∃ (code : ResultCode) (payload : List Byte),
      t.lkp = replied (replyKind kind) code payload { s.lkp with mode := t.lkp.mode } ∧
      (kind.toNat < 128 → replyKind kind = kind + 0x80) ∧
      (code ≠ .ok → code ≠ .clamped → t = { s with lkp := replied (replyKind kind) code payload s.lkp }) ∧
      (code ∉ [ResultCode.ok, .clamped, .range] → payload = []) ∧
      (code = .range → payload.length = 1 ∨ c = .modeStart p ∧ payload.length = 2) ∧
      (c ≠ .modeStart p → c ≠ .modeStop p → t.lkp.mode = s.lkp.mode)

/-- R168, R170: a kind that is none of Table 9-6 is answered UNKNOWN, a payload of a size that the kind does not permit
LENGTH, and in RUN the eight configuration requests LOCKED, whatever their fields. -/
def Obligations.SizesAndLocksJudged : Prop :=
  ∀ s : State, Heard s →
    (∀ (kind : Byte) (p : List Byte), kindUnknown kind = true → ∃ k : Byte, (kind.toNat < 128 → k = kind + 0x80) ∧
      Declines (.unknownKind kind p) s k .unknown []) ∧
    (∀ (c : Instr) (kind : Byte) (p : List Byte), requestFrame c = some (kind, p) → sizePermitted c = false →
      Declines c s (kind + 0x80) .length []) ∧
    ∀ p : List Byte, s.lkp.mode = .run →
      ∀ c ∈ [Instr.pulseSet p, .eventSet p, .pointSet p, .gradeSet p, .holderSet p, .consumerSet p, .meterSet p,
          .clockSet p],
        sizePermitted c = true → ∃ kind : Byte, requestFrame c = some (kind, p) ∧
          Declines c s (kind + 0x80) .locked []

/-- R166, R167: what a byte of E7H, a broken frame and a discarded frame do to the receiver and to the conditions, and
that the reply in progress stands. While COLLECTING an E7H is data; where it completes the frame, the frame is judged at
once, and one that is sound and has no overrun mark is the command that it spells. A complete frame with the overrun mark
raises LINK-OVERRUN with its KIND before its CRC is judged. A row of the table whose event does not hold leaves the state
as it is (log entry 8). -/
def Obligations.LinkReceives : Prop :=
  ∀ s : State,
    let lost := fun (c : Instr) (n : Fin 32) (source : Nat) (rx : Receiver) (mark : Bool) => ∃ d : Cnu,
      exec c s = .next { s with lkp := { s.lkp with rx := rx, overrun := mark }, cnu := d } ∧
      RaisedOnce n source s.sck.pos s.cnu d
    (s.lkp.rx = .hunting →
      exec .linkStartByte s =
        .next { s with lkp := { s.lkp with rx := .collecting [], overrun := s.lkp.answer } } ∧
      ∀ cause : LinkBreak, exec (.linkFrameBroken cause) s = .next s) ∧
    (∀ l : List Byte, s.lkp.rx = .collecting l →
      let f := l ++ [0xE7]
      ((l.length ≠ 1 ∨ (∃ hi : Byte, l = [hi] ∧ hi.toNat ≤ 3)) → isComplete f = false →
        exec .linkStartByte s = .next { s with lkp := { s.lkp with rx := .collecting f } }) ∧
      (isComplete f = true → s.lkp.overrun = true →
        lost .linkStartByte condLinkOverrun (kindOf f).toNat .hunting false) ∧
      (isComplete f = true → s.lkp.overrun = false → crcRight f = false →
        lost .linkStartByte condLinkFrame 1 .hunting false) ∧
      (∀ c : Instr, readFrame f = some c → s.lkp.overrun = false → exec .linkStartByte s = exec c s) ∧
      (∀ hi : Byte, l = [hi] → 4 ≤ hi.toNat → lost .linkStartByte condLinkFrame 2 .hunting false) ∧
      lost (.linkFrameBroken .stop) condLinkFrame 4 .hunting false ∧
      (∀ (b : Byte) (stopBit : Bool),
        (stopBit = true → b = 0xE7 →
          lost (.linkFrameBroken (.gap b stopBit)) condLinkFrame 3 (.collecting []) s.lkp.answer) ∧
        (stopBit = false ∨ b ≠ 0xE7 → lost (.linkFrameBroken (.gap b stopBit)) condLinkFrame 3 .hunting false)) ∧
      ∀ len : BitVec 16, l.length < 2 → len.toNat = 0 ∨ 1023 < len.toNat →
        lost (.linkFrameBroken (.badLen len)) condLinkFrame 2 .hunting false) ∧
    (∀ (l : List Byte) (len : BitVec 16), s.lkp.rx = .collecting l → 2 ≤ l.length ∨ 1 ≤ len.toNat ∧ len.toNat ≤ 1023 →
      exec (.linkFrameBroken (.badLen len)) s = .next s) ∧
    (∀ bytes : List Byte,
      let f := frameBytes bytes s.lkp
      (isComplete f = true → linkOverrun s.lkp = true →
        lost (.frameDiscarded bytes) condLinkOverrun (kindOf f).toNat .hunting false) ∧
      (isComplete f = true → Heard s → crcRight f = false →
        lost (.frameDiscarded bytes) condLinkFrame 1 .hunting false) ∧
      (isComplete f = false ∨ Heard s ∧ crcRight f = true → exec (.frameDiscarded bytes) s = .next s)) ∧
    ∀ (c : Instr) (kind : Byte) (p : List Byte), c.wellFormed = true → requestFrame c = some (kind, p) →
      linkOverrun s.lkp = true → lost c condLinkOverrun kind.toNat .hunting false

/-- R168, R173, R174, R181: the end of a reply clears the answer mark, and that of RESTART's OK is followed by the warm
reset; the warm reset clears every record as CONDITION-CLEAR does, makes timers and units IDLE, empties the lookaside
and keeps the rest of what MODE-STOP, or in SETUP the flush (R140), leaves; a cold reset leaves the reset values. -/
def Obligations.ResetsLeave : Prop :=
  (∀ s : State, Heard s → Answers (.restart []) s 0x85 .ok [] s) ∧
  (∀ s : State,
    ((∀ payload : List Byte, s.lkp.reply ≠ some { kind := 0x85, code := .ok, payload := payload }) →
      exec .replySent s = .next { s with lkp := { s.lkp with answer := false, reply := none } }) ∧
    (∀ payload : List Byte, s.lkp.reply = some { kind := 0x85, code := .ok, payload := payload } →
      exec .replySent s = exec .warmReset s) ∧
    CompletesWith .warmReset s fun t =>
      let u := match s.lkp.mode with | .run => modeStop s | .setup => flushQueue s
      t = { u with
        abu := { u.abu with lookaside := [] }
        sck := { u.sck with timers := t.sck.timers, units := t.sck.units, trim := 0 }
        fiu := { u.fiu with sensor := .hunting }
        lkp := { mode := .setup, rx := .hunting, answer := false, overrun := false, lsel := s.lkp.lsel,
                 reply := none }
        cnu := t.cnu } ∧
      (∀ n : Fin 4, t.sck.timers[n] = { s.sck.timers[n] with armed := false }) ∧
      (∀ n : Fin 4, t.sck.units[n] = { s.sck.units[n] with armed := false }) ∧
      (∀ n : Fin 32, t.cnu.records[n] =
        { u.cnu.records[n] with
          active := isLevelCondition n && u.cnu.records[n].active, count := 0, source := 0, time := Tag.zero }) ∧
      OutputsFollow t.cnu) ∧
  ∀ (s : State) (lsel : BitVec 2) (levels : BitVec 8), CompletesWith (.coldReset lsel levels) s fun t =>
    t = { State.reset with
      pending := s.pending
      lkp := { State.reset.lkp with lsel := lsel }
      fiu := { State.reset.fiu with lines := t.fiu.lines } } ∧
    (∀ l : Fin 8, t.fiu.lines[l].debounced = levelOf levels l ∧ t.fiu.lines[l].raw = levelOf levels l) ∧
    t.lkp.mode = .setup ∧ t.lkp.rx = .hunting ∧ t.lkp.answer = false ∧ t.lkp.overrun = false ∧
    t.sck.pos = { frame := 0, slot := 0, step := 0 } ∧ t.gbu.rhoNow.value = 1000 ∧ t.exs.plan = .void ∧
    t.hmu.queue = [] ∧ t.abu.statements = [] ∧ t.sck.log = [] ∧ t.exs.log = [] ∧
    (∀ n : Fin 32, t.cnu.records[n].active = false) ∧ (∀ i : Fin 256, t.abu.directory[i].valid = false) ∧
    ∀ ch : Fin 24, t.fiu.pulses[ch].counter = 0

/-- R171, R172: MODE-START is refused with the group and the item of the first check of Table 9-5 that fails, and makes
its start effects where every check passes; MODE-STOP stops the clock, the drives, the allocation and the export, and
flushes the retire queue; each is refused in the mode that it would leave the part in. -/
def Obligations.ModesChange : Prop :=
  ∀ s : State, Heard s →
    let v := s.fiu.pulses
    let q := s.fiu.points
    let dup1 := fun ch : Fin 24 => v[ch].role ≠ .unassigned ∧ isPulsePartner v ch = false ∧
      ∃ c : Fin 24, c < ch ∧ isPulsePartner v c = false ∧ v[c].role = v[ch].role
    let dup2 := fun sp : Fin 32 => q[sp].role ≠ .unassigned ∧ ∃ c : Fin 32, c < sp ∧ q[c].role = q[sp].role
    let held := fun role : PulseRole => ∃ ch : Fin 24, isPulsePartner v ch = false ∧ v[ch].role = role
    let read := fun role : PointRole => ∃ sp : Fin 32, q[sp].role = role
    let sourced := fun (ch : Option (Fin 16)) (source : DriveSource) =>
      ∀ k ∈ ch, isMember s.dcu.channels k = false ∧ s.dcu.channels[k].source = source
    let bad3 := fun g : Fin 3 => s.gbu.grades[g].used = true ∧
      ¬ (held (.gasSupply g) ∧ read (.holderLevel g) ∧ sourced s.gbu.grades[g].flareChannel (.flare g))
    let cs := s.gbu.consumers
    let power := fun n : Fin 12 => cs[n].isPower = true
    let bad4 := fun n : Fin 12 => cs[n].defined = true ∧
      ¬ (sourced cs[n].main (.consumerMain n) ∧ sourced cs[n].supp (.consumerSupp n))
    let odd4 := fun m n : Fin 12 => power m ∧ power n ∧ m < n ∧ cs[m].tier ≠ cs[n].tier ∧ ∀ k < m, ¬ power k
    let bad5 := fun m : Fin 16 => s.hmu.meters[m].used = true ∧
      ¬ (read (.supplyTemp m) ∧ read (.returnTemp m) ∧
        ∃ ch : Fin 24, holderOf v (.heatFlow m) = some ch ∧ s.hmu.meters[m].litres = v[ch].scale)
    let first := fun {n : Nat} (bad : Fin n → Prop) (k : Fin n) => bad k ∧ ∀ j < k, ¬ bad j
    let declined := fun (group item : Byte) => Declines (.modeStart []) s 0x83 .range [group, item]
    let pass1 := ∀ k, ¬ dup1 k
    let pass2 := pass1 ∧ ∀ k, ¬ dup2 k
    let pass3 := pass2 ∧ ∀ k, ¬ bad3 k
    let passEach := pass3 ∧ ∀ k, ¬ bad4 k
    let pass4 := passEach ∧ (∀ m n, ¬ odd4 m n) ∧ ((∃ n, power n) → held .exportEnergy)
    (s.lkp.mode = .run → Declines (.modeStart []) s 0x83 .state []) ∧
    (s.lkp.mode = .setup → Declines (.modeStop []) s 0x84 .state []) ∧
    (s.lkp.mode = .setup →
      (∀ k, first dup1 k → declined 1 (BitVec.ofNat 8 k)) ∧
      (∀ k, pass1 → first dup2 k → declined 2 (BitVec.ofNat 8 k)) ∧
      (∀ k, pass2 → first bad3 k → declined 3 (BitVec.ofNat 8 k)) ∧
      (∀ k, pass3 → first bad4 k → declined 4 (BitVec.ofNat 8 k)) ∧
      (∀ m, passEach → ∀ k, first (odd4 m) k → declined 4 (BitVec.ofNat 8 k)) ∧
      (passEach → (∀ m n, ¬ odd4 m n) → ¬ held .exportEnergy →
        ∀ k, first power k → declined 4 (BitVec.ofNat 8 k)) ∧
      (∀ k, pass4 → first bad5 k → declined 5 (BitVec.ofNat 8 k)) ∧
      (pass4 → (∀ k, ¬ bad5 k) → ∃ t : State, Answers (.modeStart []) s 0x83 .ok [] t ∧
        t.lkp = { s.lkp with mode := .run } ∧
        t.sck = { s.sck with
          running := true, ticks := 0, phaseMs := 0, trim := 0, endCount := s.sck.stepS, timers := t.sck.timers,
          units := t.sck.units, log := t.sck.log } ∧
        (∀ n : Fin 4,
          let x := s.sck.timers[n]
          if x.armed = true ∧ (x.slot = none ∨ x.slot = some s.sck.pos.slot) ∧ x.offset = s.sck.pos.step then
            t.sck.timers[n] = { x with armed := decide (x.again ≠ .once) } ∧
            t.cnu.records[condTimer n].active = true
          else t.sck.timers[n] = x ∧ t.cnu.records[condTimer n] = s.cnu.records[condTimer n]) ∧
        t.gbu = { s.gbu with
          grades := t.gbu.grades, rhoPrev := none
          rhoNow := { tag := some s.sck.pos, value := s.gbu.rhoNow.value } } ∧
        (∀ g : Fin 3, t.gbu.grades[g] = { s.gbu.grades[g] with placed := false }) ∧
        t.exs.slotInHand = s.sck.pos.slot ∧ t.exs.acc = SlotAccumulators.zero ∧ t.exs.phase = s.exs.phase ∧
        t.exs.startState = s.exs.phase ∧ t.exs.record = formedRecord t ∧
        ((∀ i : Fin 96, s.exs.written[i] = true) → t.exs.plan = .valid ∧ t.exs.current = s.exs.nextTab ∧
          t.exs.written = Vector.replicate 96 false) ∧
        ((∃ i : Fin 96, s.exs.written[i] = false) → t.exs.plan = s.exs.plan ∧ t.exs.current = s.exs.current ∧
          t.exs.nextTab = s.exs.nextTab ∧ t.exs.written = s.exs.written) ∧
        t.fiu = s.fiu ∧ t.dcu = s.dcu ∧ t.hmu = s.hmu ∧ t.abu = s.abu ∧ t.pending = s.pending)) ∧
    (s.lkp.mode = .run → ∃ t : State, Answers (.modeStop []) s 0x84 .ok [] t ∧
      t.lkp = { s.lkp with mode := .setup } ∧
      t.sck = { s.sck with
        running := false, ticks := 0, trim := 0, endCount := s.sck.stepS, units := t.sck.units, log := t.sck.log } ∧
      (∀ n : Fin 12, t.gbu.consumers[n] = { s.gbu.consumers[n] with pc := 0 }) ∧
      t.gbu = { s.gbu with consumers := t.gbu.consumers } ∧
      t.cnu.records[condFlaring].active = false ∧
      t.exs.phase = .idle ∧ t.exs.deviations = 0 ∧ t.exs.recoveries = 0 ∧ t.exs.record = formedRecord t ∧
      t.exs.plan = s.exs.plan ∧ t.exs.current = s.exs.current ∧ t.exs.nextTab = s.exs.nextTab ∧
      t.exs.curtail = s.exs.curtail ∧
      (∀ ch : Fin 16, t.dcu.channels[ch].state = .stopped ∧ t.dcu.channels[ch].est = s.dcu.channels[ch].est) ∧
      (PinsSound s.dcu.channels → ∀ ch : Fin 16, s.dcu.channels[ch].state ≠ .stopped →
        t.dcu.channels[ch].pin = s.dcu.channels[ch].idle ∧ t.dcu.channels[ch].active = s.dcu.channels[ch].staged) ∧
      t.hmu.queue = [] ∧ t.fiu = s.fiu ∧ t.pending = s.pending)

/-- R175: what IDENTIFY answers, in either mode; it carries no fields, and it changes nothing. -/
def Obligations.IdentifyAnswers : Prop :=
  ∀ s : State, Heard s →
    Answers (.identify []) s 0x81 .ok [0x02, 0x16, 0x01, s.lkp.lsel.setWidth 8] s ∧
    ∀ p : List Byte, p ≠ [] → Declines (.identify p) s 0x81 .length []

/-- R9, R17, R23, R27, R36, R40, R59, R75, R99, R123, R125, R141, R142, R149, R152, R154, R157, R163, R164, R176: every
read answers OK with what its rule lists, in the layout and the numbering of the model (R165, log entries 9, 10 and 11),
and changes nothing; every fetch takes up to 4 of the oldest records with it, and ends its condition where none is left. -/
def Obligations.ReadsAnswer : Prop :=
  ∀ (s : State) (p : List Byte), Heard s →
    let a := s.abu
    let range := fun (n : Nat) (first count : Nat) => (List.finRange n).filter fun i =>
      decide (first ≤ i.1 ∧ i.1 < first + count)
    (p = [] →
      Answers (.status p) s 0x82 .ok (statusPayload s) s ∧
      Answers (.clockRead p) s 0x88 .ok (clockReadPayload s.sck) s ∧
      Answers (.eventRead p) s 0x92 .ok (s.fiu.lines.toList.flatMap encLine) s ∧
      Answers (.stepRead p) s 0x9C .ok (encOpt encStepRecord s.gbu.stepRecord) s ∧
      Answers (.exportRead p) s 0xAC .ok (exportReadPayload s.exs) s ∧
      Answers (.lookasideRead p) s 0xBB .ok (be 1 a.lookaside.length ++ a.lookaside.flatMap encLook) s ∧
      Answers (.tariffRead p) s 0xBE .ok
        (a.tariffs.toList.flatMap (fun t => t.toList.flatMap (be 3)) ++
          a.bandMap.toList.flatMap fun b => be 1 b.1) s ∧
      Answers (.periodRead p) s 0xC2 .ok (periodReadPayload s) s ∧
      (∃ d : Cnu,
        Answers (.captureFetch p) s 0x8E .ok
          (be 1 (min 4 s.sck.log.length) ++ (s.sck.log.take 4).flatMap encCapture)
          { s with sck := { s.sck with log := s.sck.log.drop 4 }, cnu := d } ∧
        OthersStand [condCaptureReady] s.cnu d ∧ (4 < s.sck.log.length → d = s.cnu) ∧
        (s.sck.log.length ≤ 4 → d.records[condCaptureReady].active = false)) ∧
      (∃ d : Cnu,
        Answers (.exportLogFetch p) s 0xAB .ok
          (be 1 (min 4 s.exs.log.length) ++ (s.exs.log.take 4).flatMap encSlotRecord)
          { s with exs := { s.exs with log := s.exs.log.drop 4 }, cnu := d } ∧
        OthersStand [condExportLogReady] s.cnu d ∧ (4 < s.exs.log.length → d = s.cnu) ∧
        (s.exs.log.length ≤ 4 → d.records[condExportLogReady].active = false)) ∧
      ∃ d : Cnu,
        Answers (.statementFetch p) s 0xC1 .ok
          (be 1 (min 4 a.statements.length) ++ (a.statements.take 4).flatMap encStatement)
          { s with
            abu := { a with
              statements := a.statements.drop 4
              close := if a.close = .paused ∧ a.statements ≠ [] then .emitting else a.close }
            cnu := d } ∧
        OthersStand [condStatementReady] s.cnu d ∧ (4 < a.statements.length → d = s.cnu) ∧
        (a.statements.length ≤ 4 → d.records[condStatementReady].active = false)) ∧
    (∀ g : Fin 3, parse8 p = some g.1 → Answers (.gradeRead p) s 0x97 .ok (encGrade s g) s) ∧
    (∀ n : Fin 12, parse8 p = some n.1 →
      Answers (.consumerRead p) s 0x9B .ok (encConsumer s.gbu.consumers[n]) s) ∧
    (∀ m : Fin 16, parse8 p = some m.1 →
      Answers (.meterRead p) s 0xB1 .ok (meterReadPayload s m) s ∧
      Answers (.suspenseRead p) s 0xBF .ok
        (a.suspense[m].toList.flatMap encSuspenseBank ++ be 1 a.active.1) s) ∧
    (∀ first count : Nat, parse88 p = some (first, count) → 1 ≤ count →
      (first ≤ 23 → first + count ≤ 24 →
        Answers (.pulseRead p) s 0x90 .ok ((range 24 first count).flatMap (encPulse s.fiu.pulses)) s) ∧
      (first ≤ 31 → first + count ≤ 32 →
        Answers (.pointRead p) s 0x94 .ok ((range 32 first count).flatMap fun i => encPoint s.fiu.points[i]) s) ∧
      (first ≤ 15 → first + count ≤ 16 →
        Answers (.driveRead p) s 0xA2 .ok ((range 16 first count).flatMap (encDrive s.dcu.channels)) s) ∧
      (first ≤ 63 → count ≤ 4 →
        Answers (.retireRead p) s 0xB2 .ok
          (be 1 s.hmu.queue.length ++ be 1 (s.hmu.queue.countP isMarker) ++
            ((s.hmu.queue.drop first).take count).flatMap encRetireEntry) s) ∧
      (first ≤ 255 → count ≤ 8 → first + count ≤ 256 →
        Answers (.directoryRead p) s 0xB9 .ok
          ((range 256 first count).flatMap fun i => encDirEntry a.directory[i]) s)) ∧
    (∀ table first count : Nat, parse888 p = some (table, first, count) → table ≤ 1 → 1 ≤ count → count ≤ 48 →
      first + count ≤ 96 →
      Answers (.nominationRead p) s 0xAD .ok
        ((range 96 first count).flatMap (nominationEntries (decide (table = 1)) s.exs) ++
          encCode (nextStatusCode s.exs) ++ encCode s.exs.plan.code) s) ∧
    (∀ key : Nat, parse24 p = some key →
      (∀ i : Fin 256, key ≠ 0 → lookup a.directory key = some i →
        Answers (.accountRead p) s 0xB8 .ok (accountPayload a.active i a.directory[i]) s) ∧
      (key ≠ 0 → lookup a.directory key = none → Declines (.accountRead p) s 0xB8 .absent []))

/-! ## Chapter 1: the schedule clock, timers and capture units -/

/-- R7: a CLOCK-SET in SETUP whose fields are permitted sets the settings and the position, and the end count and the
trim total of the step; one that an ARMED timer does not fit is refused with RANGE, item 2. R8: what a trim leaves,
and that it never ends the step less than 1 s after the request. -/
def Obligations.ClockRequestsWrite : Prop :=
  (∀ (s : State) (p : List Byte) (f : ClockSetFields) (slot : Fin 96),
     Heard s → s.lkp.mode = .setup → parseClockSet p = some f → f.slotS ∈ [300, 600, 900, 1800, 3600] →
     2 ≤ f.stepS → f.stepS ≤ 60 → f.slotS % f.stepS = 0 → f.slot = slot.1 → f.step < f.slotS / f.stepS →
     ((∀ n : Fin 4, s.sck.timers[n].armed = true → s.sck.timers[n].offset < f.slotS / f.stepS) →
       Answers (.clockSet p) s 0x86 .ok []
         { s with sck := { s.sck with
             slotS := f.slotS, stepS := f.stepS, pos := { frame := f.frame, slot := slot, step := f.step },
             trim := 0, endCount := f.stepS } }) ∧
     ((∃ n : Fin 4, s.sck.timers[n].armed = true ∧ f.slotS / f.stepS ≤ s.sck.timers[n].offset) →
       Declines (.clockSet p) s 0x86 .range [2])) ∧
  (∀ (s : State) (p : List Byte) (t : Int),
     Heard s → parseSigned p = some t →
     (s.lkp.mode = .setup → Declines (.clockTrim p) s 0x87 .state []) ∧
     (s.lkp.mode = .run → 2 ≤ s.sck.endCount → ∃ (trim : Int) (last : Nat) (code : ResultCode),
       Answers (.clockTrim p) s 0x87 code (beInt 1 trim ++ be 1 last)
         { s with sck := { s.sck with trim := trim, endCount := last } } ∧
       (trim = max (-5) (min 5 (s.sck.trim + max (-5) (min 5 t)))) ∧
       (code = .ok ↔ (-5 ≤ t ∧ t ≤ 5) ∧ -5 ≤ s.sck.trim + t ∧ s.sck.trim + t ≤ 5) ∧
       (code = .ok ∨ code = .clamped) ∧ 2 ≤ last ∧
       ((elapsedCount s.sck / 1000 : Nat) + 2 ≤ (s.sck.stepS : Int) + trim → (last : Int) = s.sck.stepS + trim) ∧
       ((s.sck.stepS : Int) + trim < (elapsedCount s.sck / 1000 : Nat) + 2 →
         last = min (elapsedCount s.sck / 1000 + 2) s.sck.endCount) ∧
       (last = s.sck.endCount ∨ elapsedCount s.sck + 1000 ≤ last * 1000)))

/-- R10: an accepted TIMER-SET writes the four fields and arms the timer, a repeat that does not fit the slot and an
ARMED timer are refused; TIMER-DISARM makes the timer IDLE whatever its state. R13: an accepted CAPTURE-SET writes the
fields and arms the unit, an ARMED unit is refused; CAPTURE-DISARM makes the unit IDLE whatever its state. -/
def Obligations.TimersAndUnitsSet : Prop :=
  (∀ (s : State) (n : Fin 4), Heard s →
     (∀ (p : List Byte) (f : TimerSetFields), parseTimerSet p = some f → f.timer = n.1 →
       (s.sck.timers[n].armed = true → Declines (.timerSet p) s 0x89 .state []) ∧
       (s.sck.timers[n].armed = false → f.slot ≤ 96 → f.offset < stepsPerSlot s.sck → f.again < 3 →
         (f.slot < 96 ∧ f.again = 1 ∨ f.slot = 96 ∧ f.again = 2 → Declines (.timerSet p) s 0x89 .range [4]) ∧
         ((f.slot < 96 ∧ f.again ≠ 1 ∨ f.slot = 96 ∧ f.again ≠ 2) → (∀ u ∈ f.unit, u < 4) →
           ∃ timer : SlotTimer,
             Answers (.timerSet p) s 0x89 .ok []
               { s with sck := { s.sck with timers := put s.sck.timers n timer } } ∧
             timer.armed = true ∧ timer.offset = f.offset ∧ timer.unit.map Fin.val = f.unit ∧
             (timer.slot = none ↔ f.slot = 96) ∧ (∀ k ∈ timer.slot, k.1 = f.slot) ∧
             (timer.again = .once ↔ f.again = 0) ∧ (timer.again = .eachSlot ↔ f.again = 1)))) ∧
     ∀ p : List Byte, parse8 p = some n.1 →
       Answers (.timerDisarm p) s 0x8A .ok []
         { s with sck := { s.sck with timers := put s.sck.timers n { s.sck.timers[n] with armed := false } } }) ∧
  (∀ (s : State) (u : Fin 4), Heard s →
     (∀ (p : List Byte) (f : CaptureSetFields), parseCaptureSet p = some f → f.unit = u.1 →
       (s.sck.units[u].armed = true → Declines (.captureSet p) s 0x8B .state []) ∧
       (s.sck.units[u].armed = false → f.trigger < 4 → (∀ l ∈ f.line, l < 8) → (∀ e ∈ f.edge, e < 3) →
         (∀ ch ∈ f.snapshot, ch < 24) → f.mode < 2 → ∃ unit : CaptureUnit,
           Answers (.captureSet p) s 0x8B .ok [] { s with sck := { s.sck with units := put s.sck.units u unit } } ∧
           unit.armed = true ∧ unit.continuous = decide (f.mode = 1) ∧ unit.snapshot.map Fin.val = f.snapshot ∧
           (f.trigger = 0 → ∃ (line : Fin 8) (edge : Edge), unit.trigger = .event line edge ∧ f.line = some line.1 ∧
             f.edge = some (match edge with | .rising => 0 | .falling => 1 | .both => 2)) ∧
           (f.trigger = 1 → unit.trigger = .timer) ∧ (f.trigger = 2 → unit.trigger = .exportChange) ∧
           (f.trigger = 3 → unit.trigger = .request))) ∧
     ∀ p : List Byte, parse8 p = some u.1 →
       Answers (.captureDisarm p) s 0x8C .ok []
         { s with sck := { s.sck with units := put s.sck.units u { s.sck.units[u] with armed := false } } })

/-- R14 to R16: CAPTURE-TRIGGER on an ARMED unit appends one record with the position, the elapsed count, the clock
state and the snapshot, applies the unit's mode and makes CAPTURE-READY active; against a full log the oldest record
goes and CAPTURE-OVERWRITE is raised. An IDLE unit is refused with STATE. -/
def Obligations.CaptureTriggered : Prop :=
  ∀ (s : State) (p : List Byte) (u : Fin 4), Heard s → parse8 p = some u.1 →
    (s.sck.units[u].armed = false → Declines (.captureTrigger p) s 0x8D .state []) ∧
    (s.sck.units[u].armed = true → ∃ d : Cnu,
      Answers (.captureTrigger p) s 0x8D .ok []
        { s with
          sck := { s.sck with
            log := (if s.sck.log.length < 16 then s.sck.log else s.sck.log.tail) ++
              [{ unit := u, cause := .request, pos := s.sck.pos, ms := elapsedCount s.sck, running := s.sck.running,
                 snapshot := s.sck.units[u].snapshot.map fun ch => (ch, countOf s.fiu.pulses ch) }]
            units := put s.sck.units u { s.sck.units[u] with armed := s.sck.units[u].continuous } }
          cnu := d } ∧
      d.records[condCaptureReady].active = true ∧
      (s.sck.log.length < 16 → OthersStand [condCaptureReady] s.cnu d) ∧
      (16 ≤ s.sck.log.length → ∃ c : Cnu, OthersStand [condCaptureReady] s.cnu c ∧
        RaisedOnce condCaptureOverwrite u.1 s.sck.pos c d))

/-- R4, R5: on the tick that reaches the end count, the position moves one step on and the next step begins; the other
settings of the clock stand. That STEP_BOUNDARY is the whole tick, and is no event where no step ends, is the model's
reading of the table (log entries 2 and 8). -/
def Obligations.StepBoundaryAdvances : Prop :=
  ∀ (s : State) (o : TickOrder),
    (s.sck.running = true ∧ s.sck.endCount ≤ s.sck.ticks + 1 →
      ∃ t, exec (.stepBoundary o) s = .next t ∧ exec (.timebaseTick o) s = .next t ∧
        t.sck.pos =
          (if s.sck.pos.step + 1 < stepsPerSlot s.sck then { s.sck.pos with step := s.sck.pos.step + 1 }
           else { frame := if s.sck.pos.slot.1 = 95 then (s.sck.pos.frame + 1) % 65536 else s.sck.pos.frame,
                  slot := s.sck.pos.slot + 1, step := 0 }) ∧
        t.sck.ticks = 0 ∧ t.sck.phaseMs = 0 ∧ t.sck.trim = 0 ∧ t.sck.endCount = s.sck.stepS ∧
        t.sck.running = true ∧ t.sck.slotS = s.sck.slotS ∧ t.sck.stepS = s.sck.stepS ∧ t.lkp = s.lkp ∧
        t.fiu.pulses = s.fiu.pulses ∧ t.fiu.lines = s.fiu.lines ∧ t.fiu.sensor = s.fiu.sensor ∧
        t.pending = s.pending) ∧
    (¬ (s.sck.running = true ∧ s.sck.endCount ≤ s.sck.ticks + 1) → exec (.stepBoundary o) s = .next s)

/-- R11: a timer that matches the step that a boundary begins expires: its condition is raised with its number and the
tag of that step, a ONCE timer becomes IDLE, and the ARMED unit that it names is triggered where its trigger is TIMER: the
record carries the tag of that step and the elapsed count 0, and the unit's mode is applied. That TIMER_EXPIRY is the whole
tick, and without such a match no event, is the model's reading of the table (log entries 2 and 8); that a lower timer
which names the same ONCE unit triggers it first is the model's choice (log entry 13). -/
def Obligations.TimerExpires : Prop :=
  ∀ (s : State) (o : TickOrder) (n : Fin 4),
    let c := s.sck.timers[n]
    let due := s.sck.running = true ∧ s.sck.endCount ≤ s.sck.ticks + 1 ∧ c.armed = true ∧
      (c.slot = none ∨ c.slot = some (nextTag s.sck).slot) ∧ c.offset = (nextTag s.sck).step
    (due → ∃ t, exec (.timerExpiry n o) s = .next t ∧
      t.sck.timers[n] = { c with armed := decide (c.again ≠ .once) } ∧
      t.cnu.records[condTimer n].active = true ∧
      t.cnu.records[condTimer n].count = min (s.cnu.records[condTimer n].count + 1) 255 ∧
      (s.cnu.records[condTimer n].active = false →
        t.cnu.records[condTimer n].source = n.1 ∧ t.cnu.records[condTimer n].time = nextTag s.sck) ∧
      ∀ u ∈ c.unit, s.sck.units[u].trigger = .timer → s.sck.units[u].armed = true →
        t.sck.units[u] = { s.sck.units[u] with armed := s.sck.units[u].continuous } ∧
        t.cnu.records[condCaptureReady].active = true ∧
        ((∀ m < n, s.sck.timers[m].unit ≠ some u) →
          { unit := u, cause := .timer n, pos := nextTag s.sck, ms := 0, running := true,
            snapshot := s.sck.units[u].snapshot.map fun ch => (ch, countOf s.fiu.pulses ch) : CaptureRecord } ∈
            t.sck.log)) ∧
    (¬ due → exec (.timerExpiry n o) s = .next s)

/-! ## Chapter 2: field inputs -/

/-- R19: what an arrival adds to the counters, whatever the mode, the clock and the roles; nothing else changes. -/
def Obligations.PulsesCounted : Prop :=
  ∀ (s : State) (ch : Fin 24),
    let v := s.fiu.pulses
    (isPulsePartner v ch = true → exec (.pulseArrival ch) s = .next s) ∧
    (isPulsePartner v ch = false → ∃ w : Vector PulseChannel 24,
      exec (.pulseArrival ch) s = .next { s with fiu := { s.fiu with pulses := w } } ∧
      w[ch] = { v[ch] with counter := (v[ch].counter + 1) % 65536 } ∧
      (isCascaded v ch = true → w[ch + 1] =
        { v[ch + 1] with
          counter := if (v[ch].counter + 1) % 65536 = 0 then (v[ch + 1].counter + 1) % 65536
            else v[ch + 1].counter }) ∧
      ∀ c : Fin 24, c ≠ ch → ¬ (isCascaded v ch = true ∧ c = ch + 1) → w[c] = v[c])

/-- R18, R21: one arrival adds 1 to the count of a single channel modulo 65,536, and to that of a cascaded pair modulo
4,294,967,296, so that every reader's delta grows by 1 in the same modulus. -/
def Obligations.CountsGrowByOne : Prop :=
  ∀ (s : State) (ch : Fin 24) (base : Nat),
    let v := s.fiu.pulses
    isPulsePartner v ch = false → v[ch].counter ≤ 65535 → v[ch + 1].counter ≤ 65535 →
    CompletesWith (.pulseArrival ch) s fun t =>
      countOf t.fiu.pulses ch = (countOf v ch + 1) % (if isCascaded v ch then 4294967296 else 65536) ∧
      deltaOf t.fiu.pulses ch base = (deltaOf v ch base + 1) % (if isCascaded v ch then 4294967296 else 65536)

/-- R20: an accepted PULSE-SET writes the fields, clears the counters of a pair whose width changes, and gives every
role that has gained a channel a new baseline from it; the baselines of the other roles stand. Which roles have gained a
channel follows R20's list of three ways; that a role taken from one of two channels that hold it gains none is the
model's choice (log entry 21). -/
def Obligations.PulseSetRebases : Prop :=
  ∀ (s : State) (p : List Byte) (f : PulseSetFields) (ch : Fin 24) (width : Width) (role : PulseRole),
    Heard s → s.lkp.mode = .setup → parsePulseSet p = some f → f.channel = ch.1 →
    f.width = (match width with | .single => 0 | .cascade => 1) → (width = .cascade → ch.1 % 2 = 0) →
    f.role = pulseRoleCode role → 1 ≤ f.scale → 1 ≤ f.limit → (width = .single → f.limit ≤ 65535) →
    let v := s.fiu.pulses
    let changed := ch.1 % 2 = 0 ∧ width ≠ v[ch].width
    ∃ (w : Vector PulseChannel 24) (supply works : Vector Nat 3) (base : Nat) (meters : Vector Meter 16),
      Answers (.pulseSet p) s 0x8F .ok []
        { s with
          fiu := { s.fiu with pulses := w }
          gbu := { s.gbu with supplyBase := supply, worksBase := works }
          exs := { s.exs with base := base }
          hmu := { s.hmu with meters := meters } } ∧
      w[ch] = { width := width, role := role, scale := f.scale, limit := f.limit,
                counter := if changed then 0 else v[ch].counter } ∧
      (changed → w[ch + 1] = { v[ch + 1] with counter := 0 }) ∧
      (∀ c : Fin 24, c ≠ ch → ¬ (changed ∧ c = ch + 1) → w[c] = v[c]) ∧
      (∀ g : Fin 3, supply[g] = ((gainedChannel v w ch (.gasSupply g)).map (countOf w)).getD s.gbu.supplyBase[g]) ∧
      (∀ g : Fin 3, works[g] = ((gainedChannel v w ch (.gasWorks g)).map (countOf w)).getD s.gbu.worksBase[g]) ∧
      base = ((gainedChannel v w ch .exportEnergy).map (countOf w)).getD s.exs.base ∧
      ∀ m : Fin 16, meters[m] = ((gainedChannel v w ch (.heatFlow m)).map fun c =>
        { s.hmu.meters[m] with
          base := countOf w c, litres := w[c].scale, carry := 0, pendingSteps := 0, lagged := false }).getD
        s.hmu.meters[m]

/-- R25: what a sample makes of every line. R26: a change that it takes is handed to every user of the line. Each ARMED
capture unit that watches the edge forms a record and applies its mode (R14, R16); the order of the records, by line and
then by unit, is the model's choice (log entries 4 and 13). R87: a RUNNING channel whose permissive is met no longer is
BLOCKED with its pins idle, its move abandoned and E kept, and a BLOCKED one whose permissive is met runs with a fresh
period, or judges its pair; the period count and tick of a BLOCKED channel stand by the model's reading (log entry 14).
R116: a change of the GRID-HOLD line forms the demand record afresh, and no other change does. EVENT_LINE_CHANGE is the
same sample where it takes the change of its line, and no event where it does not (log entry 4). R27: EVENT-SET writes the
debounce alone. -/
def Obligations.LinesDebounced : Prop :=
  (∀ (s : State) (levels : BitVec 8), CompletesWith (.eventLineSample levels) s fun t =>
    (∀ l : Fin 8,
      let raw := levelOf levels l
      let old := s.fiu.lines[l]
      let steady := if old.steady < old.debounce then old.steady + 1 else old.steady
      t.fiu.lines[l] =
        if raw = old.debounced then { old with raw := raw, steady := 0 }
        else if old.debounce ≤ steady then { old with raw := raw, debounced := raw, steady := 0 }
        else { old with raw := raw, steady := steady }) ∧
    t.lkp = s.lkp ∧ t.gbu = s.gbu ∧ t.hmu = s.hmu ∧ t.abu = s.abu ∧ t.pending = s.pending ∧
    t.fiu = { s.fiu with lines := t.fiu.lines } ∧
    t.sck = { s.sck with units := t.sck.units, log := t.sck.log } ∧
    t.exs = { s.exs with record := t.exs.record } ∧
    ∀ l : Fin 8, exec (.eventLineChange l levels) s =
      .next (if t.fiu.lines[l].debounced = s.fiu.lines[l].debounced then s else t)) ∧
  (∀ (s : State) (levels : BitVec 8), CompletesWith (.eventLineSample levels) s fun t =>
    let changed := fun l : Fin 8 => t.fiu.lines[l].debounced ≠ s.fiu.lines[l].debounced
    let rising := fun l : Fin 8 => t.fiu.lines[l].debounced = .high
    let hit := fun (l : Fin 8) (u : Fin 4) => changed l ∧
      (s.sck.units[u].trigger = .event l .both ∨ rising l ∧ s.sck.units[u].trigger = .event l .rising ∨
        ¬ rising l ∧ s.sck.units[u].trigger = .event l .falling)
    let new : List CaptureRecord := (List.finRange 8).flatMap fun l =>
      ((List.finRange 4).filter fun u => decide (hit l u ∧ s.sck.units[u].armed = true)).map fun u =>
        { unit := u, cause := .event l (decide (rising l)), pos := s.sck.pos, ms := elapsedCount s.sck,
          running := s.sck.running,
          snapshot := s.sck.units[u].snapshot.map fun ch => (ch, countOf s.fiu.pulses ch) }
    let lost := s.sck.log.length + new.length - 16
    let overwrite := s.cnu.records[condCaptureOverwrite]
    (∀ u : Fin 4, t.sck.units[u] = { s.sck.units[u] with
      armed := s.sck.units[u].armed && (decide (∀ l, ¬ hit l u) || s.sck.units[u].continuous) }) ∧
    (s.sck.log.length ≤ 16 →
      t.sck.log = (s.sck.log ++ new).drop lost ∧
      (new = [] → t.cnu = s.cnu) ∧ (new ≠ [] → t.cnu.records[condCaptureReady].active = true) ∧
      OthersStand [condCaptureReady, condCaptureOverwrite] s.cnu t.cnu ∧
      (lost = 0 → t.cnu.records[condCaptureOverwrite] = overwrite) ∧
      (0 < lost → t.cnu.records[condCaptureOverwrite].active = true ∧
        t.cnu.records[condCaptureOverwrite].count = min (overwrite.count + lost) 255)) ∧
    t.exs.record = if ∃ l ∈ s.exs.config.gridHold, changed l then formedRecord t else s.exs.record) ∧
  (∀ (s : State) (levels : BitVec 8),
    let v := s.dcu.channels
    (∀ ch : Fin 16, ch.1 % 2 = 1 → v[ch].mode ≠ .cascade ∧ v[ch].mode ≠ .raise) →
    CompletesWith (.eventLineSample levels) s fun t =>
      let w := t.dcu.channels
      ∀ ch : Fin 16,
        let c := v[ch]
        let changed := ∃ x ∈ c.permissive, t.fiu.lines[x.1].debounced ≠ s.fiu.lines[x.1].debounced
        let met := ∀ x ∈ c.permissive, t.fiu.lines[x.1].debounced = x.2
        let blocks := changed ∧ c.state = .running ∧ ¬ met
        let returns := changed ∧ c.state = .blocked ∧ met
        (isMember v ch = true → w[ch] = { v[ch] with pin := w[ch].pin }) ∧
        (isMember v ch = false →
          (¬ blocks → ¬ returns → w[ch] = c ∧
            ((c.mode = .cascade ∨ c.mode = .raise) → w[ch + 1] = v[ch + 1])) ∧
          (blocks →
            w[ch] = { c with
              state := .blocked, pin := c.idle, divider := 0, sub := .atRest, est0 := 0, moved := 0, length := 0,
              remaining := 0 } ∧
            ((c.mode = .cascade ∨ c.mode = .raise) → w[ch + 1].pin = c.idle)) ∧
          (returns → w[ch].state = .running ∧ w[ch].active = c.staged ∧ w[ch].staged = c.staged ∧ w[ch].est = c.est ∧
            (c.mode ≠ .raise → w[ch].count = 0 ∧ w[ch].tick = 0 ∧ w[ch].divider = 0 ∧
              w[ch].pin = if 0 < activeTime w[ch] then activeLevel c else c.idle) ∧
            (c.mode = .raise →
              (w[ch].sub = .raising ↔ c.est + c.deadband < c.staged) ∧
              (w[ch].sub = .lowering ↔ c.staged + c.deadband < c.est) ∧ w[ch].sub ≠ .reversalPause ∧
              w[ch].sub ≠ .seating ∧
              w[ch].pin = (if w[ch].sub = .raising then activeLevel c else c.idle) ∧
              w[ch + 1].pin = (if w[ch].sub = .lowering then activeLevel c else c.idle))))) ∧
  ∀ (s : State) (p : List Byte) (l : Fin 8) (debounce : Nat), Heard s → s.lkp.mode = .setup →
    parse88 p = some (l.1, debounce) →
    Answers (.eventSet p) s 0x91 .ok []
      { s with fiu := { s.fiu with lines := put s.fiu.lines l { s.fiu.lines[l] with debounce := debounce } } }

/-- R30: an accepted POINT-SET writes the role and the times, and empties a point whose role changes. R33: every tick
ages every point that is not EMPTY, in either mode and clock state, and judges its quality against the new age;
POINT_AGE_EXPIRY is that tick where the quality of its point changes, and no event where it does not (log entry 2). -/
def Obligations.PointsKept : Prop :=
  (∀ (s : State) (p : List Byte) (f : PointSetFields) (sp : Fin 32) (role : PointRole),
     Heard s → s.lkp.mode = .setup → parsePointSet p = some f → f.point = sp.1 → f.role = pointRoleCode role →
     1 ≤ f.holdAfter → f.holdAfter ≤ 3600 → f.holdAfter ≤ f.failAfter → f.failAfter ≤ 7200 →
     let old := s.fiu.points[sp]
     ∃ (point : SamplePoint) (d : Cnu),
       Answers (.pointSet p) s 0x93 .ok []
         { s with
           fiu := { s.fiu with points := put s.fiu.points sp point }
           cnu := d } ∧
       point = (if role = old.role then { old with holdAfter := f.holdAfter, failAfter := f.failAfter }
         else { role := role, holdAfter := f.holdAfter, failAfter := f.failAfter, value := 0, age := 0,
                quality := .empty }) ∧
       OthersStand [condSampleHeld, condSampleFailed] s.cnu d) ∧
  (∀ (s : State) (o : TickOrder), CompletesWith (.timebaseTick o) s fun t =>
     (∀ sp : Fin 32,
       let old := s.fiu.points[sp]
       let age := min (old.age + 1) 65535
       (old.quality = .empty → t.fiu.points[sp] = old) ∧
       (old.quality ≠ .empty → t.fiu.points[sp] =
         { old with
           age := age
           quality :=
             if (old.quality = .good ∨ old.quality = .held) ∧ old.failAfter ≤ age then .failed
             else if old.quality = .good ∧ old.holdAfter ≤ age then .held
             else old.quality })) ∧
     ∀ sp : Fin 32, exec (.pointAgeExpiry sp o) s =
       .next (if t.fiu.points[sp].quality = s.fiu.points[sp].quality then s else t))

/-- R28: a start byte, a record broken while COLLECTING and the byte that ends a gap. That a row of the table feeds its
bytes one by one, SENSOR_RECORD with the start byte where the port is HUNTING, is the model's choice (log entry 8), and so
is the position as SENSOR-FRAME's time (log entry 24). R29, R31, R32: a complete record that fails a test raises
SENSOR-FRAME with its POINT byte; a GOOD one writes the clamped value with age 0; a BAD one makes the quality FAILED and
keeps value and age. R135: a GOOD record for a temperature of a USED meter sets the fresh mark of each WAITING reading of
that meter, and changes no more where none finishes by it; any other reaches nothing beyond the point. -/
def Obligations.SensorPortReceives : Prop :=
  (∀ s : State,
     (s.fiu.sensor = .hunting → exec .sensorStartByte s =
       .next { s with fiu := { s.fiu with sensor := .collecting [] } }) ∧
     (∀ l : List Byte, s.fiu.sensor = .collecting l →
       (l.length < 4 → exec .sensorStartByte s =
         .next { s with fiu := { s.fiu with sensor := .collecting (l ++ [0x5A]) } }) ∧
       (l.length = 4 → exec .sensorStartByte s =
         exec (.sensorRecord (l ++ [0x5A])) { s with fiu := { s.fiu with sensor := .hunting } })) ∧
     (∀ (l bytes : List Byte) (cause : SensorBreak), s.fiu.sensor = .collecting l → l.length + bytes.length ≤ 4 →
       ∃ d : Cnu,
         exec (.sensorRecordBroken bytes cause) s =
           .next { s with
             fiu := { s.fiu with
               sensor := if cause = .gap 0x5A true then .collecting [] else .hunting }
             cnu := d } ∧
         RaisedOnce condSensorFrame (((l ++ bytes).head?).elim 255 BitVec.toNat) s.sck.pos s.cnu d) ∧
     (s.fiu.sensor = .hunting → exec (.sensorRecordBroken [] .stop) s = .next s)) ∧
  (∀ (s : State) (a hi lo status crc : Byte),
     s.fiu.sensor = .hunting ∨ s.fiu.sensor = .collecting [] →
     (crc8 [a, hi, lo, status] ≠ crc ∨ 32 ≤ a.toNat ∨ (status ≠ 0x00 ∧ status ≠ 0x01) → ∃ d : Cnu,
       exec (.sensorRecord [a, hi, lo, status, crc]) s =
         .next { s with fiu := { s.fiu with sensor := .hunting }, cnu := d } ∧
       RaisedOnce condSensorFrame a.toNat s.sck.pos s.cnu d) ∧
     ∀ sp : Fin 32, a.toNat = sp.1 → crc8 [a, hi, lo, status] = crc →
       (status = 0x01 → ∃ d : Cnu,
         exec (.sensorRecord [a, hi, lo, status, crc]) s =
           .next { s with
             fiu := { s.fiu with
               sensor := .hunting, points := put s.fiu.points sp { s.fiu.points[sp] with quality := .failed } }
             cnu := d } ∧
         OthersStand [condSampleHeld, condSampleFailed] s.cnu d) ∧
       (status = 0x00 → CompletesWith (.sensorRecord [a, hi, lo, status, crc]) s fun t =>
         let role := s.fiu.points[sp].role
         let value := (hi ++ lo).toInt
         t.fiu = { s.fiu with
           sensor := .hunting
           points := put s.fiu.points sp { s.fiu.points[sp] with
             value := match role with
               | .unassigned => value
               | .holderLevel _ => max 0 (min 10000 value)
               | .calorific _ => max 1 (min 32767 value)
               | .supplyTemp _ => max (-5000) (min 20000 value)
               | .returnTemp _ => max (-5000) (min 20000 value)
             age := 0
             quality := .good } } ∧
         t.lkp = s.lkp ∧ t.sck = s.sck ∧ t.gbu = s.gbu ∧ t.dcu = s.dcu ∧ t.exs = s.exs ∧ t.pending = s.pending ∧
         ((∀ m : Fin 16, role = .supplyTemp m ∨ role = .returnTemp m → s.hmu.meters[m].used = false) →
           t.hmu = s.hmu ∧ t.abu = s.abu ∧ OthersStand [condSampleHeld, condSampleFailed] s.cnu t.cnu) ∧
         ∀ m : Fin 16, role = .supplyTemp m ∨ role = .returnTemp m → s.hmu.meters[m].used = true →
           let q := s.hmu.queue.map fun e => match e with
             | .reading r => .reading (if r.finished = none ∧ r.meter = m then
                 { r with
                   supplyFresh := r.supplyFresh || decide (role = .supplyTemp m)
                   returnFresh := r.returnFresh || decide (role = .returnTemp m) }
               else r)
             | .marker k => .marker k
           QueueSettled q → t.hmu = { s.hmu with queue := q } ∧ t.abu = s.abu ∧
             OthersStand [condSampleHeld, condSampleFailed] s.cnu t.cnu))

/-! ## Chapter 3: gas grades and holders -/

/-- R38: an accepted GRADE-SET writes the six fields, and rebases the two roles of a grade that comes into use where a
channel holds them. R39: an accepted HOLDER-SET writes the fields, makes the band NORMAL and clears the placed mark. -/
def Obligations.GradesConfigured : Prop :=
  (∀ (s : State) (p : List Byte) (f : GradeSetFields) (g : Fin 3),
     Heard s → s.lkp.mode = .setup → parseGradeSet p = some f → f.grade = g.1 → f.use < 2 → 1 ≤ f.cv →
     f.cv ≤ 32767 → f.agMax ≤ 2000000 → f.retain ≤ 2000000 → f.flareCapacity ≤ 2000000 →
     (∀ k ∈ f.flareChannel, k < 16) →
     let old := s.gbu.grades[g]
     let newly := f.use = 0 ∧ old.used = false
     let v := s.fiu.pulses
     ∃ (entry : GradeEntry) (supply works : Nat) (d : Cnu),
       Answers (.gradeSet p) s 0x95 .ok []
         { s with
           gbu := { s.gbu with
             grades := put s.gbu.grades g entry, supplyBase := put s.gbu.supplyBase g supply,
             worksBase := put s.gbu.worksBase g works }
           cnu := d } ∧
       entry = { old with
         used := decide (f.use = 0), cv := f.cv, agMax := f.agMax, retain := f.retain,
         flareCapacity := f.flareCapacity, flareChannel := entry.flareChannel } ∧
       entry.flareChannel.map Fin.val = f.flareChannel ∧
       (¬ newly → supply = s.gbu.supplyBase[g] ∧ works = s.gbu.worksBase[g]) ∧
       (newly → supply = ((holderOf v (.gasSupply g)).map (countOf v)).getD s.gbu.supplyBase[g] ∧
         works = ((holderOf v (.gasWorks g)).map (countOf v)).getD s.gbu.worksBase[g]) ∧
       OthersStand [condHolderLowlow, condHolderHighhigh] s.cnu d) ∧
  (∀ (s : State) (p : List Byte) (f : HolderSetFields) (g : Fin 3),
     Heard s → s.lkp.mode = .setup → parseHolderSet p = some f → f.grade = g.1 → f.target ≤ 10000 →
     1 ≤ f.theta1 → f.theta1 < f.theta2 → f.theta2 < f.theta3 → f.theta3 < f.theta4 → f.theta4 ≤ 10000 →
     f.hysteresis ≤ 1000 → ∃ d : Cnu,
       Answers (.holderSet p) s 0x96 .ok []
         { s with
           gbu := { s.gbu with grades := put s.gbu.grades g { s.gbu.grades[g] with
             target := f.target, gain := f.gain, theta1 := f.theta1, theta2 := f.theta2, theta3 := f.theta3,
             theta4 := f.theta4, hysteresis := f.hysteresis, band := .normal, placed := false } }
           cnu := d } ∧
       OthersStand [condHolderLowlow, condHolderHighhigh] s.cnu d)

/-- R48 to R52: the course of the band stage. A rise goes to the highest band reached; a fall goes to the highest band
at or below the starting one whose threshold less Hy the level is not below, or to LOWLOW; an unplaced band is placed by
the level alone; an unusable level holds band and mark. -/
def Obligations.BandsRiseAndFall : Prop :=
  ∀ (e : GradeEntry) (level : Int),
    e.theta1 < e.theta2 → e.theta2 < e.theta3 → e.theta3 < e.theta4 →
    let reached := fun b : Band => b = .lowlow ∨ (thresholdOf e b : Int) ≤ level
    let kept := fun b : Band => b = .lowlow ∨ (thresholdOf e b : Int) - e.hysteresis ≤ level
    let after := (bandStage e (some level)).1
    bandStage e none = (e.band, e.placed) ∧ (bandStage e (some level)).2 = true ∧
    (e.placed = false → reached after ∧ ∀ b : Band, reached b → b.code ≤ after.code) ∧
    (e.placed = true →
      ((∃ b : Band, reached b ∧ e.band.code < b.code) →
        reached after ∧ ∀ b : Band, reached b → b.code ≤ after.code) ∧
      ((∀ b : Band, reached b → b.code ≤ e.band.code) →
        kept after ∧ after.code ≤ e.band.code ∧
        ∀ b : Band, b.code ≤ e.band.code → kept b → b.code ≤ after.code))

/-- R42 to R47, R53: at a boundary in RUN a USED grade with a supply channel is evaluated from the tag and es of the
ended step: its volumes from the deltas clamped to the channels' limits, its CV, Sg, Hg, band and Ag; the baselines of
the channels counted move to the present counts. The points are read before or after the tick's ageing (log entry 3). -/
def Obligations.GradesEvaluated : Prop :=
  ∀ (s : State) (o : TickOrder) (g : Fin 3) (ch : Fin 24),
    let v := s.fiu.pulses
    let e := s.gbu.grades[g]
    let points := if o.fiuFirst then each s.fiu.points fun _ q => agePoint q else s.fiu.points
    let used := fun (c : Fin 24) (base : Nat) => min (deltaOf v c base) v[c].limit
    s.sck.running = true → s.sck.endCount ≤ s.sck.ticks + 1 → e.used = true → holderOf v (.gasSupply g) = some ch →
    CompletesWith (.stepBoundary o) s fun t => ∃ (x : Evaluation) (vs vw cv : Nat),
      t.gbu.grades[g] = { e with band := x.bandAfter, placed := x.placed, last := some x } ∧
      x.tag = s.sck.pos ∧ x.es = s.sck.endCount ∧ x.vs = some vs ∧ x.vw = some vw ∧ x.cv = some cv ∧
      vs = used ch s.gbu.supplyBase[g] * v[ch].scale ∧
      t.gbu.supplyBase[g] = countOf v ch ∧
      (∀ w : Fin 24, holderOf v (.gasWorks g) = some w →
        vw = used w s.gbu.worksBase[g] * v[w].scale ∧ t.gbu.worksBase[g] = countOf v w) ∧
      (holderOf v (.gasWorks g) = none → vw = 0 ∧ t.gbu.worksBase[g] = s.gbu.worksBase[g]) ∧
      cv = ((usableValue points (.calorific g)).map Int.toNat).getD e.cv ∧
      x.sg = (((vs : Int) - vw) * cv).tdiv (1000 * s.sck.endCount) ∧
      x.hg = ((usableValue points (.holderLevel g)).map fun l : Int => ((l - e.target) * e.gain).tdiv 100).getD 0 ∧
      (x.bandAfter, x.placed) = bandStage e (usableValue points (.holderLevel g)) ∧ x.bandBefore = e.band ∧
      x.ag = if x.bandAfter = .lowlow then 0 else (max 0 (min (x.sg + x.hg) e.agMax)).toNat

/-! ## Chapter 4: step allocation -/

/-- R57: an accepted CONSUMER-SET writes the fields, fits the host request to the new Xc and the kind, and takes a
consumer that has no main channel OUT. R58: CONSUMER-ENABLE writes the enable and judges the state from the main drive
channel; IN without a main channel is refused. R59: REQUEST-SET clamps the request into 0..Xc, and is refused for
POWER. -/
def Obligations.ConsumersDirected : Prop :=
  (∀ (s : State) (p : List Byte) (f : ConsumerSetFields) (n : Fin 12) (kind : ConsumerKind),
     Heard s → s.lkp.mode = .setup → parseConsumerSet p = some f → f.consumer = n.1 → f.kind = kind.code →
     1 ≤ f.tier → f.tier ≤ 4 → (kind = .towngas ∨ 1 ≤ f.mc) → f.mc ≤ f.xc → 1 ≤ f.xc → f.xc ≤ 2000000 →
     1 ≤ f.dc → f.dc ≤ 2000000 → (∀ k ∈ f.main, k < 16) →
     (∀ k ∈ f.supp, kind = .heat ∧ k < 16 ∧ f.main ≠ some k) → (∀ x ∈ f.smax, 1 ≤ x ∧ x ≤ 2000000) →
     (∀ w ∈ f.weight, 1 ≤ w ∧ w ≤ 100) →
     let old := s.gbu.consumers[n]
     ∃ (c : Consumer) (d : Cnu),
       Answers (.consumerSet p) s 0x98 .ok []
         { s with gbu := { s.gbu with consumers := put s.gbu.consumers n c }, cnu := d } ∧
       c = { old with
         kind := kind, tier := f.tier, mc := f.mc, xc := f.xc, dc := f.dc, main := c.main, supp := c.supp,
         smax := f.smax, weight := f.weight, request := if kind = .power then 0 else min old.request f.xc,
         enabled := old.enabled && f.main.isSome, state := if f.main.isSome then old.state else .out } ∧
       c.main.map Fin.val = f.main ∧ c.supp.map Fin.val = f.supp ∧ OthersStand [condConsumerBlocked] s.cnu d ∧
       (f.main.isSome → d = s.cnu)) ∧
  (∀ (s : State) (n : Fin 12), Heard s →
     let c := s.gbu.consumers[n]
     (∀ (p : List Byte) (k : Nat), parse88 p = some (n.1, k) → k < 2 →
       (k = 0 ∧ c.main = none → Declines (.consumerEnable p) s 0x99 .range [2]) ∧
       (k = 1 ∨ c.main ≠ none → ∃ (x : ConsumerState) (d : Cnu),
         Answers (.consumerEnable p) s 0x99 .ok []
           { s with
             gbu := { s.gbu with consumers := put s.gbu.consumers n { c with enabled := decide (k = 0), state := x } }
             cnu := d } ∧
         (k = 1 → x = .out) ∧
         (∀ ch : Fin 16, k = 0 → c.main = some ch →
           x = if channelState s.dcu.channels ch = .running then .ready else .blocked) ∧
         OthersStand [condConsumerBlocked] s.cnu d)) ∧
     ∀ (p : List Byte) (k : Nat), parse824 p = some (n.1, k) →
       (c.kind = .power → Declines (.requestSet p) s 0x9A .range [1]) ∧
       (c.kind ≠ .power → Answers (.requestSet p) s 0x9A (if k ≤ c.xc then .ok else .clamped) []
         { s with gbu := { s.gbu with consumers := put s.gbu.consumers n { c with request := min k c.xc } } }))

/-- R58, R62, R63: the state, the request and the target that an allocation records for a consumer; a target that is
not 0 lies in Mc..Xc and within the ramp window. The request shown for an undefined POWER consumer, 0, is the model's
choice (log entry 25). -/
def Obligations.TargetsRamp : Prop :=
  ∀ (s : State) (o : TickOrder) (n : Fin 12),
    let c := s.gbu.consumers[n]
    s.sck.running = true → s.sck.endCount ≤ s.sck.ticks + 1 →
    CompletesWith (.stepBoundary o) s fun t => ∃ r, t.gbu.stepRecord = some r ∧
      let x := r.consumers[n]
      let low := c.pc - c.dc
      let top := if c.pc < c.mc then max (c.pc + c.dc) c.mc else c.pc + c.dc
      let wanted := max (min x.request c.xc) c.mc
      t.gbu.consumers[n].state = x.state ∧
      (x.state = .out ↔ c.main = none ∨ c.enabled = false) ∧
      (x.state = .ready ↔ c.enabled = true ∧ ∃ ch ∈ c.main, channelState s.dcu.channels ch = .running) ∧
      (c.kind ≠ .power → x.request = c.request) ∧
      (c.kind = .power → s.sck.pos.step + 1 < stepsPerSlot s.sck →
        x.request = (s.exs.record.requests[n]).getD 0) ∧
      (x.state ≠ .ready ∨ x.request = 0 → x.target = 0) ∧
      (x.state = .ready → x.request ≠ 0 →
        (wanted < low → x.target = low) ∧ (low ≤ wanted → wanted ≤ top → x.target = wanted) ∧
        (low ≤ wanted → top < wanted → x.target = top)) ∧
      (c.mc ≤ c.xc → (c.pc = 0 ∨ c.mc ≤ c.pc ∧ c.pc ≤ c.xc) → x.target ≠ 0 → c.mc ≤ x.target ∧ x.target ≤ c.xc)

/-- R65, R67, R68: how an amount is divided in proportion to weights, with the remainder 1 kW at a time in ascending
order: no more than the weight, no more than 1 above the floor, the whole of what there is to give, and the lower number
first. -/
def Obligations.DivisionInProportion : Prop :=
  ∀ (n : Nat) (members : List (Fin n)) (weight : Fin n → Nat) (amount : Nat),
    members.Pairwise (· < ·) →
    let total := sumOver members weight
    let part := share members weight amount
    (∀ i, i ∉ members → part i = 0) ∧ (total ≤ amount → ∀ i ∈ members, part i = weight i) ∧
    sumOver members part = min total amount ∧
    (amount < total → ∀ i ∈ members,
      part i ≤ weight i ∧ weight i * amount / total ≤ part i ∧ part i ≤ weight i * amount / total + 1) ∧
    (amount < total → ∀ i ∈ members, ∀ j ∈ members, i < j → 0 < weight i →
      part j = weight j * amount / total + 1 → part i = weight i * amount / total + 1)

/-- R64, R68, R70: in the record of every allocation each grade's Ag is what the tiers take, what is flared and what
is retained; the flare is what the band after the evaluation gives, within Fg, and 0 without a RUNNING flare channel; each
tier takes what its consumers are allotted, within its pool, which is what the tiers before it have left in the grades
whose band reaches it. R71, R72, R75: the tags of the step record, the recovered share over the HEAT consumers, the two
pairs that carry it, and the sufficiency flag, judged on the pool of the power tier. -/
def Obligations.AllocationsBalance : Prop :=
  (∀ (s : State) (o : TickOrder), s.sck.running = true → s.sck.endCount ≤ s.sck.ticks + 1 →
     CompletesWith (.stepBoundary o) s fun t => ∃ r, t.gbu.stepRecord = some r ∧
       (∀ g : Fin 3,
         let x := r.grades[g]
         x.takes[(0 : Fin 4)] + x.takes[(1 : Fin 4)] + x.takes[(2 : Fin 4)] + x.takes[(3 : Fin 4)] + x.flare +
           x.retained = x.ag ∧
         x.flare ≤ s.gbu.grades[g].flareCapacity ∧ (s.gbu.grades[g].used = false → x.ag = 0 ∧ x.flare = 0)) ∧
       (∀ g : Fin 3,
         let x := r.grades[g]
         let e := s.gbu.grades[g]
         let left := x.flare + x.retained
         let runs := e.used = true ∧ ∃ ch ∈ e.flareChannel, channelState s.dcu.channels ch = .running
         x.band = t.gbu.grades[g].band ∧ (¬ runs → x.flare = 0) ∧
         (runs → x.flare = match x.band with
           | .high => min e.flareCapacity (left - e.retain)
           | .highhigh => min left e.flareCapacity
           | .lowlow => 0 | .low => 0 | .normal => 0)) ∧
       ∀ k : Fin 4,
         let x := r.tiers[k]
         x.pool = ((List.finRange 3).map fun g =>
           if reaches t.gbu.grades[g] (k.1 + 1) then
             r.grades[g].ag - (((List.finRange 4).filter (· < k)).map fun j => r.grades[g].takes[j]).sum
           else 0).sum ∧
         x.total = r.grades[(0 : Fin 3)].takes[k] + r.grades[(1 : Fin 3)].takes[k] + r.grades[(2 : Fin 3)].takes[k] ∧
         x.total = sumOver (tierMembers s.gbu.consumers k) (fun n => r.consumers[n].ac) ∧ x.total ≤ x.pool ∧
         x.total ≤ x.demand ∧ (x.skipped = true ↔ x.demand = 0)) ∧
  (∀ (s : State) (o : TickOrder), s.sck.running = true → s.sck.endCount ≤ s.sck.ticks + 1 →
     CompletesWith (.stepBoundary o) s fun t => ∃ r, t.gbu.stepRecord = some r ∧
       r.ended = s.sck.pos ∧ r.es = s.sck.endCount ∧ r.begins = nextTag s.sck ∧ t.sck.pos = r.begins ∧
       t.gbu.rhoPrev = some s.gbu.rhoNow ∧ t.gbu.rhoNow = { tag := some r.begins, value := r.rho } ∧
       (let heat := (List.finRange 12).filter fun n => decide (s.gbu.consumers[n].kind = .heat)
        let recovered := (heat.map fun n => r.consumers[n].ac).sum
        let fired := (heat.map fun n => r.consumers[n].ac + r.consumers[n].sc).sum
        (fired = 0 → r.rho = s.gbu.rhoNow.value ∧ r.rhoHeld = true) ∧
        (fired ≠ 0 → r.rho = 1000 * recovered / fired ∧ r.rhoHeld = false ∧ r.rho ≤ 1000)) ∧
       (s.sck.pos.step + 1 < stepsPerSlot s.sck →
         r.neff = s.exs.record.neff ∧ r.gNominal = s.exs.record.gasNominal) ∧
       (let power := fun n : Fin 12 => s.gbu.consumers[n].isPower = true
        ((∀ n, ¬ power n) → r.sufficient = false) ∧
        ∀ (n : Fin 12) (k : Fin 4), power n → (∀ m < n, ¬ power m) → s.gbu.consumers[n].tier = k.1 + 1 →
          (r.sufficient = true ↔ r.gNominal ≤ r.tiers[k].pool)))

/-- R66, R67, R69, R74: every consumer of an allocation fires nothing, or at least its Mc, and never more than its
target; a released one fires nothing; supplementary firing stays within Smax and is HEAT's alone; Pc becomes the
firing. CONSUMER-RELEASED is raised once for each released consumer and POOL-SHORT once where any fell short, in tier
order, with the tag of the ended step; that the lowest consumer of a tier gives CONSUMER-RELEASED its source is the model's
choice (log entry 13). R70: FLARING follows the flares of the record. -/
def Obligations.FiringsLegal : Prop :=
  ∀ (s : State) (o : TickOrder) (n : Fin 12), s.sck.running = true → s.sck.endCount ≤ s.sck.ticks + 1 →
    CompletesWith (.stepBoundary o) s fun t => ∃ r, t.gbu.stepRecord = some r ∧
      let c := s.gbu.consumers[n]
      let x := r.consumers[n]
      (x.ac + x.sc = 0 ∨ c.mc ≤ x.ac + x.sc) ∧ x.ac + x.sc ≤ x.target ∧
      (x.released = true → x.ac = 0 ∧ x.sc = 0 ∧ 0 < c.mc) ∧
      (0 < x.sc → c.kind = .heat ∧ x.sc ≤ c.smax.getD 0 ∧
        ∃ ch ∈ c.supp, channelState s.dcu.channels ch = .running) ∧
      t.gbu.consumers[n] = { c with state := x.state, pc := x.ac + x.sc } ∧
      (let old := s.cnu.records
       let new := t.cnu.records
       let tier := fun k : Fin 12 => s.gbu.consumers[k].tier
       let first := fun (p : Fin 12 → Prop) => p n ∧ ∀ k, p k → tier n < tier k ∨ tier n = tier k ∧ n ≤ k
       let freed := fun k : Fin 12 => r.consumers[k].released = true
       let short := fun k : Fin 12 => r.consumers[k].ac + r.consumers[k].sc < r.consumers[k].target
       let raised := fun (c : CondRecord) (times : Nat) => { c with
         active := true, count := min (c.count + times) 255, source := if c.active then c.source else n.1,
         time := if c.active then c.time else s.sck.pos }
       (∀ k : Fin 12, 1 ≤ tier k ∧ tier k ≤ 4) →
         ((∀ k, ¬ freed k) → new[condConsumerReleased] = old[condConsumerReleased]) ∧
         (first freed → new[condConsumerReleased] =
           raised old[condConsumerReleased] ((List.finRange 12).countP fun k => r.consumers[k].released)) ∧
         ((∀ k, ¬ short k) → new[condPoolShort] = old[condPoolShort]) ∧
         (first short → new[condPoolShort] = raised old[condPoolShort] 1)) ∧
      (let old := s.cnu.records[condFlaring]
       ((∀ g : Fin 3, r.grades[g].flare = 0) → t.cnu.records[condFlaring] = { old with active := false }) ∧
       ∀ g : Fin 3, 0 < r.grades[g].flare → (∀ k < g, r.grades[k].flare = 0) →
         t.cnu.records[condFlaring] = if old.active then old else
           { old with active := true, count := min (old.count + 1) 255, source := g.1, time := s.sck.pos })

/-- R73, R76, R82: an allocation hands a consumer's position to its main channel, and a HEAT consumer's, defined or not, to
the supplementary channel that it names, as its staged setpoint, where that channel's source names it; so with the flare
channel of a USED grade. A channel of its own with source MANUAL is left as it was. -/
def Obligations.PositionsHanded : Prop :=
  ∀ (s : State) (o : TickOrder) (ch : Fin 16), s.sck.running = true → s.sck.endCount ≤ s.sck.ticks + 1 →
    CompletesWith (.stepBoundary o) s fun t => ∃ r, t.gbu.stepRecord = some r ∧
      ((∀ k : Fin 16, k.1 % 2 = 1 → s.dcu.channels[k].mode ≠ .raise) →
        channelSource s.dcu.channels ch = some .manual → t.dcu.channels[ch] = s.dcu.channels[ch]) ∧
      (∀ n : Fin 12, s.gbu.consumers[n].main = some ch → channelSource s.dcu.channels ch = some (.consumerMain n) →
        t.dcu.channels[ch].staged = r.consumers[n].ac * 10000 / s.gbu.consumers[n].xc) ∧
      (∀ n : Fin 12, s.gbu.consumers[n].kind = .heat →
        s.gbu.consumers[n].supp = some ch → channelSource s.dcu.channels ch = some (.consumerSupp n) →
        t.dcu.channels[ch].staged = r.consumers[n].sc * 10000 / s.gbu.consumers[n].smax.getD 0) ∧
      (∀ g : Fin 3, s.gbu.grades[g].used = true → s.gbu.grades[g].flareChannel = some ch →
        channelSource s.dcu.channels ch = some (.flare g) →
        t.dcu.channels[ch].staged = r.grades[g].flare * 10000 / s.gbu.grades[g].flareCapacity)

/-! ## Chapter 5: drive channels -/

/-- R80, R81: an accepted DRIVE-SET writes the fields, puts the pins at the idle level and the waveform at its start,
keeps setpoints and estimate, and takes or frees the odd partner; in RUN a bound channel keeps its source: RANGE with item
9; and a bound channel becomes no odd partner: RANGE with item 2, which the model judges after item 9 (log entry 17). -/
def Obligations.DriveSetConfigures : Prop :=
  ∀ (s : State) (p : List Byte) (f : DriveSetFields) (ch : Fin 16) (mode : DriveMode) (idle : Level)
    (source : DriveSource),
    let v := s.dcu.channels
    let partner := mode = .cascade ∨ mode = .raise
    Heard s → parseDriveSet p = some f → f.channel = ch.1 → isMember v ch = false → v[ch].state = .stopped →
    (partner → ch.1 % 2 = 0 ∧ channelState v (ch + 1) = .stopped) → f.mode = mode.code → f.baseTick ∈ [1, 10, 100] →
    (∀ k ∈ f.period, 8 ≤ k ∧ (mode ≠ .cascade → k ≤ 4095)) → (∀ w ∈ f.wmin, w ≤ f.period.getD 0 / 2) →
    f.idle = idle.code → (∀ l ∈ f.line, l < 8) → (∀ x ∈ f.polarity, x < 2) → f.source = driveSourceCode source →
    (∀ x ∈ f.pair, 10 ≤ x.ttr ∧ x.deadband ≤ 500 ∧ 1 ≤ x.reversal ∧ x.minMove ≤ x.ttr) →
    (s.lkp.mode = .run → isBound s.gbu ch = true → source ≠ v[ch].source →
      Declines (.driveSet p) s 0x9D .range [9]) ∧
    (s.lkp.mode = .run → (isBound s.gbu ch = true → source = v[ch].source) → partner → isBound s.gbu (ch + 1) = true →
      Declines (.driveSet p) s 0x9D .range [2]) ∧
    ((s.lkp.mode = .run → (isBound s.gbu ch = true → source = v[ch].source) ∧
        (partner → isBound s.gbu (ch + 1) = false)) →
      ∃ w : Vector DriveChannel 16,
        Answers (.driveSet p) s 0x9D .ok [] { s with dcu := { s.dcu with channels := w } } ∧
        w[ch] = { v[ch] with
          mode := mode, baseTick := f.baseTick, period := f.period, wmin := f.wmin, idle := idle, source := source,
          permissive := w[ch].permissive, count := 0, tick := 0, divider := 0, pin := idle, sub := .atRest,
          ttr := w[ch].ttr, deadband := w[ch].deadband, reversal := w[ch].reversal, minMove := w[ch].minMove,
          seatRun := w[ch].seatRun } ∧
        w[ch].permissive.map (·.1.1) = f.line ∧
        w[ch].permissive.map (fun x => if x.2 = .high then 0 else 1) = f.polarity ∧
        (∀ x ∈ f.pair, w[ch].ttr = x.ttr ∧ w[ch].deadband = x.deadband ∧ w[ch].reversal = x.reversal ∧
          w[ch].minMove = x.minMove ∧ w[ch].seatRun = x.seatRun) ∧
        (mode ≠ .raise → w[ch].ttr = v[ch].ttr ∧ w[ch].deadband = v[ch].deadband ∧
          w[ch].reversal = v[ch].reversal ∧ w[ch].minMove = v[ch].minMove ∧ w[ch].seatRun = v[ch].seatRun) ∧
        (partner → w[ch + 1] = { v[ch + 1] with pin := idle }) ∧
        (¬ partner → ch.1 % 2 = 0 → (v[ch].mode = .cascade ∨ v[ch].mode = .raise) →
          w[ch + 1] = { v[ch + 1] with state := .stopped, pin := v[ch + 1].idle }) ∧
        ∀ c : Fin 16, c ≠ ch → ¬ (ch.1 % 2 = 0 ∧ c = ch + 1 ∧
          (partner ∨ v[ch].mode = .cascade ∨ v[ch].mode = .raise)) → w[c] = v[c])

/-- R83, R84: DRIVE-SETPOINT clamps the value and stages it; it becomes active at once in a STOPPED channel, and waits
in a BLOCKED one and in a RUNNING one that works in periods. A member, or another source than MANUAL, is refused. R84,
R94, R96, R97: what a setpoint does to a RUNNING raise and lower pair, from each sub-state, to its lines and to its
move. -/
def Obligations.SetpointsStaged : Prop :=
  (∀ (s : State) (p : List Byte) (ch : Fin 16) (x : Nat), Heard s → parse816 p = some (ch.1, x) →
     let v := s.dcu.channels
     let q := min x 10000
     let code := if x ≤ 10000 then ResultCode.ok else .clamped
     (isMember v ch = true ∨ v[ch].source ≠ .manual → Declines (.driveSetpoint p) s 0x9E .state []) ∧
     (isMember v ch = false → v[ch].source = .manual →
       (v[ch].state = .stopped → Answers (.driveSetpoint p) s 0x9E code (be 2 q ++ be 2 q)
         { s with dcu := { s.dcu with channels := put v ch { v[ch] with staged := q, active := q } } }) ∧
       (v[ch].state = .blocked ∨ v[ch].state = .running ∧ v[ch].mode ≠ .raise →
         Answers (.driveSetpoint p) s 0x9E code (be 2 q ++ be 2 v[ch].active)
           { s with dcu := { s.dcu with channels := put v ch { v[ch] with staged := q } } }))) ∧
  (∀ (s : State) (p : List Byte) (ch : Fin 16) (x : Nat), Heard s → parse816 p = some (ch.1, x) →
     let v := s.dcu.channels
     let c := v[ch]
     let q := min x 10000
     let gap := if c.est ≤ q then q - c.est else c.est - q
     let run := fun sub : PairState => { c with
       staged := q, active := q, sub := sub, est0 := c.est, moved := 0, divider := 0,
       length := max c.minMove ((gap * c.ttr + 9999) / 10000) }
     let rest := { c with staged := q, active := q, sub := .atRest, est0 := 0, moved := 0, length := 0 }
     let pause := { rest with sub := .reversalPause, remaining := c.reversal, divider := 0 }
     isMember v ch = false → c.source = .manual → c.state = .running → c.mode = .raise →
     ∃ (y : DriveChannel) (w : Vector DriveChannel 16),
       Answers (.driveSetpoint p) s 0x9E (if x ≤ 10000 then .ok else .clamped) (be 2 y.staged ++ be 2 y.active)
         { s with dcu := { s.dcu with channels := w } } ∧
       w = put (put v ch { y with pin := if y.sub = .raising then activeLevel c else c.idle }) (ch + 1)
         { v[ch + 1] with pin := if y.sub = .lowering ∨ y.sub = .seating then activeLevel c else c.idle } ∧
       (c.sub = .reversalPause ∨ c.sub = .seating ∨ q = c.active → y = { c with staged := q }) ∧
       (c.sub ≠ .reversalPause → c.sub ≠ .seating → q ≠ c.active →
         (c.sub = .atRest → gap ≤ c.deadband → y = { c with staged := q, active := q }) ∧
         (c.sub ≠ .atRest → gap ≤ c.deadband → y = rest) ∧
         (c.deadband < gap → c.est < q → y = if c.sub = .lowering then pause else run .raising) ∧
         (c.deadband < gap → q < c.est → y = if c.sub = .raising then pause else run .lowering)))

/-- R85: DRIVE-START makes a STOPPED channel RUNNING where its permissive is met, with a fresh period or a judged pair,
and BLOCKED where it is not; it is refused in SETUP, for a member, and for a channel that is not STOPPED. R86: DRIVE-STOP
ends the period or the move, keeps the estimate and makes the staged setpoint active. -/
def Obligations.DrivesStartAndStop : Prop :=
  ∀ (s : State) (p : List Byte) (ch : Fin 16), Heard s → parse8 p = some ch.1 →
    let v := s.dcu.channels
    let c := v[ch]
    let met := ∀ x ∈ c.permissive, s.fiu.lines[x.1].debounced = x.2
    (s.lkp.mode = .setup ∨ isMember v ch = true ∨ c.state ≠ .stopped → Declines (.driveStart p) s 0x9F .state []) ∧
    (s.lkp.mode = .run → isMember v ch = false → c.state = .stopped → ∃ w : Vector DriveChannel 16,
      Answers (.driveStart p) s 0x9F .ok (be 1 w[ch].state.code) { s with dcu := { s.dcu with channels := w } } ∧
      (met → w[ch].state = .running ∧ w[ch].active = c.staged ∧ w[ch].staged = c.staged ∧ w[ch].est = c.est ∧
        (c.mode ≠ .raise → w[ch].count = 0 ∧ w[ch].tick = 0 ∧
          w[ch].pin = if 0 < activeTime w[ch] then activeLevel c else c.idle) ∧
        (c.mode = .raise →
          (w[ch].sub = .raising ↔ c.est + c.deadband < c.staged) ∧
          (w[ch].sub = .lowering ↔ c.staged + c.deadband < c.est) ∧ w[ch].sub ≠ .reversalPause ∧
          w[ch].sub ≠ .seating)) ∧
      (¬ met → w[ch].state = .blocked ∧ w[ch].pin = c.idle ∧ w[ch].staged = c.staged ∧ w[ch].active = c.active) ∧
      ∀ k : Fin 16, k ≠ ch → ¬ ((c.mode = .cascade ∨ c.mode = .raise) ∧ k = ch + 1) → w[k] = v[k]) ∧
    (isMember v ch = true → Declines (.driveStop p) s 0xA0 .state []) ∧
    (isMember v ch = false → c.state = .stopped → Declines (.driveStop p) s 0xA0 .ok []) ∧
    (isMember v ch = false → c.state ≠ .stopped → ∃ w : Vector DriveChannel 16,
      Answers (.driveStop p) s 0xA0 .ok [] { s with dcu := { s.dcu with channels := w } } ∧
      w[ch] = { c with
        state := .stopped, active := c.staged, count := 0, tick := 0, divider := 0, pin := c.idle, sub := .atRest,
        est0 := 0, moved := 0, length := 0, remaining := 0 } ∧
      ((c.mode = .cascade ∨ c.mode = .raise) → w[ch + 1] = { v[ch + 1] with pin := c.idle }) ∧
      ∀ k : Fin 16, k ≠ ch → ¬ ((c.mode = .cascade ∨ c.mode = .raise) ∧ k = ch + 1) → w[k] = v[k])

/-- R98: DRIVE-POSITION writes the estimate of a pair at rest, which a RUNNING pair judges at once; it is refused for a
channel that is no pair and for a pair that moves, pauses or seats. -/
def Obligations.PositionsAligned : Prop :=
  ∀ (s : State) (p : List Byte) (ch : Fin 16) (e : Nat), Heard s → parse816 p = some (ch.1, e) →
    let v := s.dcu.channels
    let c := v[ch]
    (ch.1 % 2 = 1 ∨ c.mode ≠ .raise → Declines (.drivePosition p) s 0xA1 .state []) ∧
    (ch.1 % 2 = 0 → c.mode = .raise →
      (10000 < e → Declines (.drivePosition p) s 0xA1 .range [2]) ∧
      (e ≤ 10000 → c.sub ≠ .atRest → Declines (.drivePosition p) s 0xA1 .state []) ∧
      (e ≤ 10000 → c.sub = .atRest → c.state ≠ .running →
        Answers (.drivePosition p) s 0xA1 .ok []
          { s with dcu := { s.dcu with channels := put v ch { c with est := e } } }) ∧
      (e ≤ 10000 → c.sub = .atRest → c.state = .running → ∃ w : Vector DriveChannel 16,
        Answers (.drivePosition p) s 0xA1 .ok [] { s with dcu := { s.dcu with channels := w } } ∧
        w[ch].est = e ∧ w[ch].active = c.active ∧ w[ch].staged = c.staged ∧ w[ch].state = .running ∧
        (w[ch].sub = .raising ↔ e + c.deadband < c.active) ∧ (w[ch].sub = .lowering ↔ c.active + c.deadband < e) ∧
        (w[ch].sub = .atRest ∨ w[ch].est0 = e ∧ w[ch].moved = 0) ∧
        ∀ k : Fin 16, k ≠ ch → k ≠ ch + 1 → w[k] = v[k]))

/-- R90: the end of a period of a RUNNING channel starts the next: the staged setpoint becomes active and the period
count goes on; at the tick that equals the active time the pin goes idle. The model's choices: PERIOD_START comes whatever
the tick in period and ACTIVE_TIME_END moves the tick there (log entry 5), and on a channel that does not work in periods,
or does not run, neither is an event (log entry 8). -/
def Obligations.PeriodsRun : Prop :=
  ∀ (s : State) (ch : Fin 16),
    let v := s.dcu.channels
    let c := v[ch]
    let works := isMember v ch = false ∧ c.mode ≠ .raise ∧ c.state = .running
    (works → ∃ y : DriveChannel,
      exec (.periodStart ch) s = .next { s with dcu := { s.dcu with channels := put v ch y } } ∧
      y = { c with active := c.staged, count := (c.count + 1) % 65536, tick := 0, divider := 0, pin := y.pin } ∧
      y.pin = if 0 < activeTime y then activeLevel c else c.idle) ∧
    (¬ works → exec (.periodStart ch) s = .next s) ∧
    (works → c.tick < activeTime c → activeTime c < c.period.getD 0 →
      exec (.activeTimeEnd ch) s = .next { s with dcu := { s.dcu with
        channels := put v ch { c with tick := activeTime c, divider := 0, pin := c.idle } } }) ∧
    (¬ (works ∧ c.tick < activeTime c ∧ activeTime c < c.period.getD 0) → exec (.activeTimeEnd ch) s = .next s)

/-- R91: over an even and an odd period of one setpoint a DUTY or CASCADE channel is active for the half-ticks of that
setpoint, rounded half up. R92: a PULSE channel gives no pulse and no gap shorter than Wmin. -/
def Obligations.WaveformsKeepTime : Prop :=
  ∀ (c : DriveChannel) (n : Nat), c.period = some n → c.active ≤ 10000 →
    (c.mode = .duty ∨ c.mode = .cascade →
      activeTime { c with count := 0 } + activeTime { c with count := 1 } = (c.active * (2 * n) + 5000) / 10000 ∧
      activeTime { c with count := 0 } = (c.active * (2 * n) + 5000) / 10000 / 2 ∧
      activeTime c = activeTime { c with count := c.count % 2 } ∧ activeTime c ≤ n) ∧
    (∀ w : Nat, c.mode = .pulse → c.wmin = some w → w ≤ n / 2 →
      let raw := (c.active * n + 5000) / 10000
      (activeTime c = 0 ∨ w ≤ activeTime c) ∧ (activeTime c = n ∨ activeTime c + w ≤ n) ∧
      (raw < w → activeTime c = 0) ∧ (w ≤ raw → raw + w ≤ n → activeTime c = raw) ∧
      (n < raw + w → w ≤ raw → activeTime c = n))

/-- R95, R97: one base tick of a RUNNING pair, from each sub-state; MOVE_END and PAUSE_END are the same tick where it
ends the move, the pause or the seating run, and no event where it does not (log entry 5). -/
def Obligations.PairsTick : Prop :=
  ∀ (s : State) (ch : Fin 16),
    let v := s.dcu.channels
    let c := v[ch]
    let pair := ch.1 % 2 = 0 ∧ c.mode = .raise ∧ c.state = .running
    let travel := (c.moved + 1) * 10000 / c.ttr
    let e := if c.sub = .raising then min 10000 (c.est0 + travel) else c.est0 - travel
    let moves := c.sub = .raising ∨ c.sub = .lowering
    let waits := c.sub = .reversalPause ∨ c.sub = .seating
    (¬ pair → exec (.pairTick ch) s = .next s) ∧
    (pair → ∃ (y : DriveChannel) (w : Vector DriveChannel 16),
      exec (.pairTick ch) s = .next { s with dcu := { s.dcu with channels := w } } ∧
      w = put (put v ch { y with pin := if y.sub = .raising then activeLevel c else c.idle }) (ch + 1)
        { v[ch + 1] with pin := if y.sub = .lowering ∨ y.sub = .seating then activeLevel c else c.idle } ∧
      (c.sub = .atRest → y = c) ∧
      (moves → c.moved + 1 < c.length → y = { c with moved := c.moved + 1, est := e, divider := 0 }) ∧
      (moves → c.length ≤ c.moved + 1 → y.est0 = 0 ∧ y.moved = 0 ∧ y.length = 0 ∧
        (c.sub = .lowering ∧ c.active = 0 ∧ 0 < c.seatRun →
          y.sub = .seating ∧ y.remaining = c.seatRun ∧ y.est = 0) ∧
        (¬ (c.sub = .lowering ∧ c.active = 0 ∧ 0 < c.seatRun) → y.sub = .atRest ∧ y.est = e)) ∧
      (waits → 1 < c.remaining → y = { c with remaining := c.remaining - 1, divider := 0 }) ∧
      (waits → c.remaining ≤ 1 → y.active = c.staged ∧ y.est = c.est ∧
        (c.sub = .seating → c.est + c.deadband < c.staged → y.sub = .reversalPause ∧ y.remaining = c.reversal) ∧
        (¬ (c.sub = .seating ∧ c.est + c.deadband < c.staged) → y.remaining = 0 ∧
          (y.sub = .raising ↔ c.est + c.deadband < c.staged) ∧ (y.sub = .lowering ↔ c.staged + c.deadband < c.est) ∧
          (y.sub = .raising ∨ y.sub = .lowering ∨ y.sub = .atRest))) ∧
      exec (.moveEnd ch) s = (if moves ∧ c.length ≤ c.moved + 1 then exec (.pairTick ch) s else .next s) ∧
      exec (.pauseEnd ch) s = (if waits ∧ c.remaining ≤ 1 then exec (.pairTick ch) s else .next s)) ∧
    (¬ pair → exec (.moveEnd ch) s = .next s ∧ exec (.pauseEnd ch) s = .next s)

/-! ## Chapter 6: power export -/

/-- R113, R114: what a forming of the demand record computes: N_eff, G and G_nominal, rounded up, and the requests of
the POWER consumers, which in ACTIVE sum to G, each its floored share and the remainder 1 kW at a time in ascending
number. -/
def Obligations.DemandFormed : Prop :=
  ∀ s : State,
    let e := s.exs
    let r := formedRecord s
    let v := s.gbu.consumers
    let capped := match e.curtail with
      | none => min r.nSlot e.config.capacity
      | some c => min (min r.nSlot c.cap) e.config.capacity
    let weights := ((powerConsumers v).map fun n => v[n].weight.getD 0).sum
    let asked := fun n : Fin 12 => (r.requests[n]).getD 0
    r.slot = e.slotInHand ∧ r.state = e.phase ∧ r.plan = e.plan ∧ r.cap = e.curtail.map (·.cap) ∧
    (r.hold = true ↔ ∃ l ∈ e.config.gridHold, s.fiu.lines[l].debounced = .high) ∧
    (e.plan = .valid → r.nSlot = e.current[e.slotInHand]) ∧ (e.plan = .grace → r.nSlot = e.held) ∧
    (e.plan = .void → r.nSlot = 0) ∧
    r.neff = (if e.phase = .active ∧ r.hold = false then capped else 0) ∧
    (0 < e.config.eta →
      r.neff * 1000 ≤ r.gas * e.config.eta ∧ r.gas * e.config.eta < r.neff * 1000 + e.config.eta ∧
      capped * 1000 ≤ r.gasNominal * e.config.eta ∧
      r.gasNominal * e.config.eta < capped * 1000 + e.config.eta) ∧
    (∀ n : Fin 12, r.requests[n] = none ↔ ¬ (v[n].main ≠ none ∧ v[n].kind = .power)) ∧
    (∀ n : Fin 12, v[n].isPower = true →
      (e.phase = .idle ∨ e.phase = .halted → asked n = 0) ∧
      (e.phase = .armed ∨ e.phase = .passive → asked n = v[n].mc) ∧
      (e.phase = .active →
        asked n = r.gas * v[n].weight.getD 0 / weights ∨ asked n = r.gas * v[n].weight.getD 0 / weights + 1)) ∧
    (e.phase = .active → 0 < weights →
      ((powerConsumers v).map asked).sum = r.gas ∧
      ∀ m n : Fin 12, m < n → v[m].isPower = true → v[n].isPower = true →
        asked n = r.gas * v[n].weight.getD 0 / weights + 1 → asked m = r.gas * v[m].weight.getD 0 / weights + 1)

/-- R101, R107, R108, R115: the requests that change the export configuration, the curtailment and the export state;
each forms the demand record afresh. R110: a change of state reaches the captures and the conditions alone. -/
def Obligations.ExportDirected : Prop :=
  ∀ (s : State) (p : List Byte), Heard s →
    let moved := fun (c : Instr) (kind : Byte) (phase : ExportState) (deviations recoveries : Nat) =>
      ∃ t : State, Answers c s kind .ok [] t ∧
        t.exs = { s.exs with
          phase := phase, deviations := deviations, recoveries := recoveries, record := formedRecord t } ∧
        t = { s with exs := t.exs, cnu := t.cnu, sck := { s.sck with units := t.sck.units, log := t.sck.log } }
    (∀ f : ExportSetFields, parseExportSet p = some f →
      (s.lkp.mode = .run → s.exs.phase ≠ .idle → Declines (.exportSet p) s 0xA3 .state []) ∧
      (s.lkp.mode = .setup ∨ s.exs.phase = .idle → 100 ≤ f.eta → f.eta ≤ 900 → f.capacity ≤ 500000 →
        1 ≤ f.tolerance → f.tolerance ≤ 500 → 1 ≤ f.floorWh → 1 ≤ f.devLimit → f.devLimit ≤ 15 →
        f.recoveryPairs ≤ 31 → f.haltOnDev < 2 → f.graceSlots ≤ 8 → (∀ l ∈ f.gridHold, l < 8) →
        ∃ t : State, Answers (.exportSet p) s 0xA3 .ok [] t ∧
          t = { s with exs := { s.exs with config := t.exs.config, record := formedRecord t } } ∧
          t.exs.config.gridHold.map Fin.val = f.gridHold ∧
          t.exs.config = { eta := f.eta, capacity := f.capacity, tolerance := f.tolerance, floorWh := f.floorWh,
                           devLimit := f.devLimit, recoveryPairs := f.recoveryPairs,
                           haltOnDev := decide (f.haltOnDev = 0), graceSlots := f.graceSlots,
                           gridHold := t.exs.config.gridHold })) ∧
    (∀ cap slots : Nat, parseCurtail p = some (cap, slots) →
      (500000 < cap → Declines (.curtail p) s 0xAA .range [1]) ∧
      (cap ≤ 500000 → 96 < slots → Declines (.curtail p) s 0xAA .range [2]) ∧
      (cap ≤ 500000 → slots ≤ 96 → ∃ t : State, Answers (.curtail p) s 0xAA .ok [] t ∧
        t = { s with exs := { s.exs with
          curtail := if slots = 0 then none else some { cap := cap, remaining := slots }
          record := formedRecord t } })) ∧
    (p = [] →
      (s.lkp.mode = .setup ∨ s.exs.phase ∈ [.armed, .active, .halted] →
        Declines (.exportArm p) s 0xA7 .state []) ∧
      (s.lkp.mode = .run → s.exs.phase = .idle → moved (.exportArm p) 0xA7 .armed s.exs.deviations s.exs.recoveries) ∧
      (s.lkp.mode = .run → s.exs.phase = .passive → moved (.exportArm p) 0xA7 .armed s.exs.deviations 0) ∧
      (s.exs.phase = .idle ∨ s.exs.phase = .halted → Declines (.exportHalt p) s 0xA8 .state []) ∧
      (s.exs.phase ∈ [.armed, .active, .passive] → moved (.exportHalt p) 0xA8 .halted s.exs.deviations 0) ∧
      (s.exs.phase ≠ .halted → Declines (.exportRelease p) s 0xA9 .state []) ∧
      (s.exs.phase = .halted → moved (.exportRelease p) 0xA9 .idle 0 s.exs.recoveries))

/-- R102, R103: NOMINATE writes its entries into NEXT and its slots into the written set, NOMINATE-AMEND into the slots
of CURRENT above the current one, each entry clamped to Cx; a clamp replies CLAMPED and raises NOMINATION-CLAMPED once
with the first clamped slot; NOMINATE-CANCEL empties NEXT. -/
def Obligations.NominationsWritten : Prop :=
  ∀ (s : State) (p : List Byte), Heard s →
    (∀ f : NominateFields, parseNominate p = some f → f.first ≤ 95 → 1 ≤ f.count → f.count ≤ 48 →
      f.first + f.count ≤ 96 →
      let cx := s.exs.config.capacity
      let covered := fun i : Fin 96 => f.first ≤ i.1 ∧ i.1 < f.first + f.count
      let fits := ∀ x ∈ f.entries, x ≤ cx
      let told := fun (code : ResultCode) (d : Cnu) =>
        (fits → code = .ok ∧ d = s.cnu) ∧
        ∀ k : Nat, (∀ j < k, f.entries.getD j 0 ≤ cx) → k < f.count → cx < f.entries.getD k 0 →
          code = .clamped ∧ RaisedOnce condNominationClamped (f.first + k) s.sck.pos s.cnu d
      (∃ (next : Vector Nat 96) (written : Vector Bool 96) (code : ResultCode) (d : Cnu),
        Answers (.nominate p) s 0xA4 code
          (be 1 (if ∀ i : Fin 96, written[i] = true then 2 else if ∃ i : Fin 96, written[i] = true then 1 else 0))
          { s with exs := { s.exs with nextTab := next, written := written }, cnu := d } ∧
        (∀ i : Fin 96, next[i] = if covered i then min (f.entries.getD (i.1 - f.first) 0) cx else s.exs.nextTab[i]) ∧
        (∀ i : Fin 96, written[i] = true ↔ s.exs.written[i] = true ∨ covered i) ∧ told code d) ∧
      (s.exs.plan ≠ .valid → Declines (.nominateAmend p) s 0xA6 .state []) ∧
      (s.exs.plan = .valid → f.first ≤ (currentSlot s).1 → Declines (.nominateAmend p) s 0xA6 .range [1]) ∧
      (s.exs.plan = .valid → (currentSlot s).1 < f.first →
        ∃ (current : Vector Nat 96) (code : ResultCode) (d : Cnu),
          Answers (.nominateAmend p) s 0xA6 code []
            { s with exs := { s.exs with current := current }, cnu := d } ∧
          (∀ i : Fin 96,
            current[i] = if covered i then min (f.entries.getD (i.1 - f.first) 0) cx else s.exs.current[i]) ∧
          told code d)) ∧
    (p = [] → Answers (.nominateCancel p) s 0xA5 .ok []
      { s with exs := { s.exs with
          nextTab := Vector.replicate 96 0, written := Vector.replicate 96 false } })

/-- R117 to R119, R121, R122: the slot record that a slot end appends: its energies from the step items, the es of every
step and the export count, the verdict on them, the sufficiency, and the recovery count, which an odd slot moves by the
pair that it ends; against a full log the oldest record goes and the gap is marked. -/
def Obligations.SlotsJudged : Prop :=
  ∀ (s : State) (o : TickOrder), s.sck.running = true → s.sck.endCount ≤ s.sck.ticks + 1 →
    stepsPerSlot s.sck ≤ s.sck.pos.step + 1 →
    let e := s.exs
    let item := itemsOf s.sck.pos e
    let v := s.fiu.pulses
    CompletesWith (.stepBoundary o) s fun t => ∃ r : SlotRecord,
      t.exs.log = (if e.log.length < 16 then e.log else e.log.tail) ++ [r] ∧
      r.frame = s.sck.pos.frame ∧ r.slot = s.sck.pos.slot ∧ r.stateStart = e.startState ∧ r.stateEnd = e.phase ∧
      r.planEnd = e.plan ∧ r.steps = e.acc.steps + 1 ∧ r.neff = item.1 ∧ (r.gap = true ↔ 16 ≤ e.log.length) ∧
      r.nominated = (e.acc.energy + item.1 * s.sck.endCount) * 10 / 36 ∧
      (holderOf v .exportEnergy = none → r.measured = 0 ∧ r.verdict ≠ .unmeasured ∧ t.exs.base = e.base) ∧
      (∀ ch : Fin 24, holderOf v .exportEnergy = some ch →
        r.measured = deltaOf v ch e.base * v[ch].scale ∧ t.exs.base = countOf v ch ∧
        (r.verdict = .unmeasured ↔ v[ch].limit * stepsPerSlot s.sck < deltaOf v ch e.base)) ∧
      (r.verdict = .deviant ∨ r.verdict = .compliant → e.startState = .active ∧ e.phase = .active) ∧
      (r.verdict ≠ .unmeasured → e.startState = .active → e.phase = .active →
        (r.verdict = .deviant ↔ e.config.tolerance * max r.nominated e.config.floorWh <
          ((r.measured : Int) - r.nominated).natAbs * 1000) ∧
        (r.verdict = .compliant ↔ ((r.measured : Int) - r.nominated).natAbs * 1000 ≤
          e.config.tolerance * max r.nominated e.config.floorWh)) ∧
      r.deviations = (match r.verdict with
        | .compliant => 0 | .deviant => e.deviations + 1 | .notExporting => e.deviations
        | .unmeasured => e.deviations) ∧
      (r.sufficiency = .sufficient ↔ e.startState = .passive ∧ e.phase = .passive ∧ e.startPlan = .valid ∧
        e.plan = .valid ∧ e.acc.allSufficient = true ∧ item.2 = true) ∧
      (r.sufficiency = .insufficient ↔ e.startState = .passive ∧ e.phase = .passive ∧ e.startPlan = .valid ∧
        e.plan = .valid ∧ ¬ (e.acc.allSufficient = true ∧ item.2 = true)) ∧
      (let limit := r.verdict = .deviant ∧ e.config.devLimit ≤ e.deviations + 1
       (s.sck.pos.slot.1 % 2 = 0 →
         r.recoveries = if limit ∧ e.config.haltOnDev = false then 0 else e.recoveries) ∧
       (s.sck.pos.slot.1 % 2 = 1 → e.firstHalf = .sufficient → r.sufficiency = .sufficient →
         r.recoveries = if e.recoveries < e.config.recoveryPairs then e.recoveries + 1 else e.recoveries) ∧
       (s.sck.pos.slot.1 % 2 = 1 → ¬ (e.firstHalf = .sufficient ∧ r.sufficiency = .sufficient) →
         r.recoveries = 0))

/-- R104 to R106, R109, R112, R115, R117, R120, R121: the plan, the export state, the slot in hand, the first half of the
slot pair and the two counts after a slot end; a judgement that enters or leaves PASSIVE makes the recovery count 0. -/
def Obligations.SlotEndsSettle : Prop :=
  ∀ (s : State) (o : TickOrder), s.sck.running = true → s.sck.endCount ≤ s.sck.ticks + 1 →
    stepsPerSlot s.sck ≤ s.sck.pos.step + 1 →
    let e := s.exs
    let complete := ∀ i : Fin 96, e.written[i] = true
    let rollover := s.sck.pos.slot.1 = 95
    let swaps := complete ∧ (rollover ∨ e.plan ≠ .valid)
    CompletesWith (.stepBoundary o) s fun t => ∃ r : SlotRecord, t.exs.log.getLast? = some r ∧
      let limit := r.verdict = .deviant ∧ e.config.devLimit ≤ e.deviations + 1
      t.exs.slotInHand = e.slotInHand + 1 ∧ t.exs.acc = SlotAccumulators.zero ∧ t.exs.startState = t.exs.phase ∧
      t.exs.startPlan = t.exs.plan ∧ t.exs.record = formedRecord t ∧ t.exs.config = e.config ∧
      (swaps → t.exs.plan = .valid ∧ t.exs.current = e.nextTab ∧ t.exs.nextTab = Vector.replicate 96 0 ∧
        t.exs.written = Vector.replicate 96 false) ∧
      (¬ swaps → t.exs.current = e.current ∧ t.exs.nextTab = e.nextTab ∧ t.exs.written = e.written ∧
        (e.plan = .valid → ¬ rollover → t.exs.plan = .valid) ∧
        (e.plan = .valid → rollover → e.config.graceSlots = 0 → t.exs.plan = .void) ∧
        (e.plan = .valid → rollover → 0 < e.config.graceSlots → t.exs.plan = .grace ∧
          t.exs.held = e.current[(95 : Fin 96)] ∧ t.exs.grace = e.config.graceSlots) ∧
        (e.plan = .grace → t.exs.grace = e.grace - 1 ∧ t.exs.held = e.held ∧
          t.exs.plan = if e.grace ≤ 1 then .void else .grace) ∧
        (e.plan = .void → t.exs.plan = .void)) ∧
      (t.exs.curtail = match e.curtail with
        | none => none
        | some c => if c.remaining ≤ 1 then none else some { c with remaining := c.remaining - 1 }) ∧
      (limit → t.exs.phase = if e.config.haltOnDev then .halted else .passive) ∧
      (¬ limit →
        (e.phase = .idle → t.exs.phase = .idle) ∧ (e.phase = .halted → t.exs.phase = .halted) ∧
        (e.phase = .armed → t.exs.phase = if t.exs.plan = .valid then .active else .armed) ∧
        (e.phase = .active → t.exs.phase = if t.exs.plan = .void then .passive else .active) ∧
        (e.phase = .passive → (t.exs.phase = .active ↔ 1 ≤ e.config.recoveryPairs ∧
          r.recoveries = e.config.recoveryPairs ∧ t.exs.plan = .valid) ∧
          (t.exs.phase = .active ∨ t.exs.phase = .passive))) ∧
      (t.exs.phase = .active → e.phase ≠ .active → t.exs.deviations = 0) ∧
      (¬ (t.exs.phase = .active ∧ e.phase ≠ .active) → t.exs.deviations = r.deviations) ∧
      (let judged := if r.verdict = .deviant ∧ e.config.devLimit ≤ e.deviations + 1 then
         (if e.config.haltOnDev then ExportState.halted else .passive) else e.phase
       t.exs.recoveries = if judged ≠ t.exs.phase ∧ (judged = .passive ∨ t.exs.phase = .passive) then 0
         else r.recoveries) ∧
      t.exs.firstHalf = if s.sck.pos.slot.1 % 2 = 0 then r.sufficiency else e.firstHalf

/-! ## Chapter 7: heat readings and the retire queue -/

/-- R127: an accepted METER-SET writes its four fields and makes a fresh start from the channel that holds the flow role,
if any. R128, R129: METER-KEY and METER-CONFIRM write the key and CONFIRM_S alone. -/
def Obligations.MetersSet : Prop :=
  ∀ (s : State) (p : List Byte) (m : Fin 16), Heard s →
    let v := s.fiu.pulses
    let x := s.hmu.meters[m]
    (∀ f : MeterSetFields, s.lkp.mode = .setup → parseMeterSet p = some f → f.meter = m.1 → f.use < 2 → 1 ≤ f.k →
      1 ≤ f.limit → ∃ base litres : Nat,
        Answers (.meterSet p) s 0xAE .ok []
          { s with hmu := { s.hmu with meters := put s.hmu.meters m { x with
              used := decide (f.use = 0), k := f.k, limit := f.limit, key := f.key, base := base, litres := litres,
              carry := 0, pendingSteps := 0, lagged := false } } } ∧
        (∀ ch : Fin 24, holderOf v (.heatFlow m) = some ch → base = countOf v ch ∧ litres = v[ch].scale) ∧
        (holderOf v (.heatFlow m) = none → base = x.base ∧ litres = x.litres)) ∧
    (∀ key : Nat, parse824 p = some (m.1, key) →
      Answers (.meterKey p) s 0xAF .ok []
        { s with hmu := { s.hmu with meters := put s.hmu.meters m { x with key := key } } }) ∧
    (∀ k : Nat, parse8 p = some k →
      (k = 0 ∨ 60 < k → Declines (.meterConfirm p) s 0xB0 .range [1]) ∧
      (1 ≤ k → k ≤ 60 →
        Answers (.meterConfirm p) s 0xB0 .ok [] { s with hmu := { s.hmu with confirmS := k } }))

/-- R133, R134: a USED meter at a boundary: with no pulses one more step is pending; with pulses, where the queue is not
full at the meter's turn, a reading with the litres of exactly those pulses, the tag of the ended step and the rho fixed
for it stands WAITING in the queue and the baseline has moved; where it is full, the reading is deferred and the baseline
stands. The queue at a meter's turn holds what it held when the HMU took the boundary, and a reading for each USED meter of
lower number with pulses. -/
def Obligations.ReadingsFormed : Prop :=
  ∀ (s : State) (o : TickOrder) (m : Fin 16) (ch : Fin 24) (rho : Nat),
    let x := s.hmu.meters[m]
    let v := s.fiu.pulses
    let delta := deltaOf v ch x.base
    let pending := min (x.pendingSteps + 1) 65535
    s.sck.running = true → s.sck.endCount ≤ s.sck.ticks + 1 → holderOf v (.heatFlow m) = some ch →
    s.gbu.rhoNow = { tag := some s.sck.pos, value := rho } →
    CompletesWith (.stepBoundary o) s fun t =>
      let y := t.hmu.meters[m]
      let reading : Reading :=
        { meter := m, key := x.key, tag := s.sck.pos, steps := pending, pulses := delta, litres := delta * x.litres,
          rho := rho, remaining := s.hmu.confirmS, supplyFresh := false, returnFresh := false, expired := false,
          suspect := decide (x.limit * pending < delta), finished := none }
      let formed := .reading reading ∈ t.hmu.queue ∧
        y = { x with base := countOf v ch, pendingSteps := 0, lagged := false, carry := y.carry }
      let deferred := y = { x with pendingSteps := pending, lagged := true, carry := y.carry } ∧
        t.cnu.records[condRetireLag].active = true
      (x.used = false → y = { x with carry := y.carry }) ∧
      (x.used = true → delta = 0 → y = { x with pendingSteps := pending, carry := y.carry }) ∧
      let held := if o.hmuFirst then (countDownQueue s.hmu.queue.length s).hmu.queue.length else s.hmu.queue.length
      let before := (List.finRange 16).countP fun k => decide (k < m ∧ s.hmu.meters[k].used = true ∧
        ∃ c ∈ holderOf v (.heatFlow k), 0 < deltaOf v c s.hmu.meters[k].base)
      (x.used = true → 0 < delta → held + before < 64 → formed) ∧
      (x.used = true → 0 < delta → 64 ≤ held + before → deferred) ∧
      (x.used = true → 0 < delta → s.hmu.queue.length + 16 ≤ 64 → formed)

/-- R136 to R139: a lone WAITING reading that the next tick expires is finished at it, and one whose other mark stands is
finished at the notice that a GOOD record gives for its supply or return point; each with the values that its points
then hold, the floored heat and split, the carry, and DELTA-T-REVERSE where the drop is negative; it retires at once and is
booked. READING_EXPIRY is no event where no reading expires (log entry 2); SENSOR_RECORD brings its start byte (log entry
8). -/
def Obligations.ReadingsFinish : Prop :=
  ∀ (s : State) (r : Reading) (sup ret : Fin 32),
    s.hmu.queue = [.reading r] →
    pointOf s.fiu.points (.supplyTemp r.meter) = some sup → pointOf s.fiu.points (.returnTemp r.meter) = some ret →
    let finishes := fun (t : State) (v : Vector SamplePoint 32) (last : Reading) => ∃ (f : Finished) (carry : Nat),
      let ts := v[sup]
      let tr := v[ret]
      let x := s.hmu.meters[r.meter]
      let reverse := s.cnu.records[condDeltaTReverse]
      t.hmu.queue = [] ∧ t.hmu.meters = put s.hmu.meters r.meter { x with carry := carry } ∧
      f.ts = ts.value ∧ f.tr = tr.value ∧
      f.estimated = !(last.supplyFresh && last.returnFresh) ∧
      (ts.quality = .empty ∨ tr.quality = .empty → f.deltaT = 0 ∧ f.reverse = false) ∧
      (ts.quality ≠ .empty → tr.quality ≠ .empty →
        (f.deltaT : Int) = max 0 (ts.value - tr.value) ∧ (f.reverse = true ↔ ts.value < tr.value)) ∧
      f.kJ * 100000 + carry = r.litres * f.deltaT * x.k + x.carry ∧ carry < 100000 ∧
      f.recovered = f.kJ * r.rho / 1000 ∧ f.supplementary = f.kJ - f.recovered ∧
      (f.reverse = false → t.cnu.records[condDeltaTReverse] = reverse) ∧
      (f.reverse = true → t.cnu.records[condDeltaTReverse] = { reverse with
        active := true, count := min (reverse.count + 1) 255
        source := if reverse.active then reverse.source else r.meter.1
        time := if reverse.active then reverse.time else s.sck.pos }) ∧
      t.abu = (bookReading { last with finished := some f } f s).abu
    (∀ o : TickOrder,
      (r.finished ≠ none ∨ r.expired = true ∨ 1 < r.remaining → exec (.readingExpiry 0 o) s = .next s) ∧
      (r.finished = none → r.expired = false → r.remaining ≤ 1 →
        ¬ (s.sck.running = true ∧ s.sck.endCount ≤ s.sck.ticks + 1) →
        CompletesWith (.readingExpiry 0 o) s fun t =>
          finishes t s.fiu.points { r with remaining := r.remaining - 1, expired := true })) ∧
    ∀ (a hi lo crc : Byte) (sp : Fin 32), a.toNat = sp.1 → crc8 [a, hi, lo, 0x00] = crc → s.fiu.sensor = .hunting →
      r.finished = none → s.hmu.meters[r.meter].used = true →
      (sp = sup → r.returnFresh = true → CompletesWith (.sensorRecord [a, hi, lo, 0x00, crc]) s fun t =>
        t.fiu.points[sup].quality = .good ∧ finishes t t.fiu.points { r with supplyFresh := true }) ∧
      (sp = ret → r.supplyFresh = true → CompletesWith (.sensorRecord [a, hi, lo, 0x00, crc]) s fun t =>
        t.fiu.points[ret].quality = .good ∧ finishes t t.fiu.points { r with returnFresh := true })

/-! ## Chapter 8: accounts, tariffs and billing periods -/

/-- R145: in a directory that keeps R144's terms, a lookup finds exactly the valid entry that holds the key. R146 to
R148: ACCOUNT-ADD takes the lowest free entry of the primary group, else of the secondary; removal, suspension,
resumption and tariff change that one entry. -/
def Obligations.AccountsKept : Prop :=
  ∀ (s : State) (p : List Byte), Heard s →
    let d := s.abu.directory
    let inGroup := fun (i : Fin 256) (g : Nat) => i.1 / 4 = g
    let written := fun (i : Fin 256) (e : DirEntry) =>
      { s with abu := { s.abu with directory := put d i e } }
    (DirectorySound d → ∀ (key : Nat) (i : Fin 256), lookup d key = some i ↔ d[i].valid = true ∧ d[i].key = key) ∧
    (∀ (key : Nat) (tariff : Fin 8), parse248 p = some (key, tariff.1) →
      (key = 0 → Declines (.accountAdd p) s 0xB3 .range [1] ∧ Declines (.accountTariff p) s 0xB7 .range [1]) ∧
      (key ≠ 0 → lookup d key ≠ none → Declines (.accountAdd p) s 0xB3 .duplicate []) ∧
      (key ≠ 0 → lookup d key = none →
        (∀ (i : Fin 256) (h : Bool), d[i].valid = false →
          (∀ j : Fin 256, j < i → i.1 / 4 = j.1 / 4 → d[j].valid = true) →
          (if h then inGroup i (63 - primaryGroup key) ∧
              ∀ j : Fin 256, inGroup j (primaryGroup key) → d[j].valid = true
            else inGroup i (primaryGroup key)) →
          Answers (.accountAdd p) s 0xB3 .ok (be 1 i.1 ++ be 1 (if h then 1 else 0))
            (written i { valid := true, key := key, secondary := h, tariff := tariff, suspended := false,
                         banks := Vector.replicate 2 Bank.zero })) ∧
        ((∀ j : Fin 256, inGroup j (primaryGroup key) ∨ inGroup j (63 - primaryGroup key) → d[j].valid = true) →
          Declines (.accountAdd p) s 0xB3 .full []) ∧
        Declines (.accountTariff p) s 0xB7 .absent []) ∧
      (∀ i : Fin 256, key ≠ 0 → lookup d key = some i →
        Answers (.accountTariff p) s 0xB7 .ok [] (written i { d[i] with tariff := tariff }))) ∧
    ∀ key : Nat, parse24 p = some key → key ≠ 0 →
      (lookup d key = none → Declines (.accountRemove p) s 0xB4 .absent [] ∧
        Declines (.accountSuspend p) s 0xB5 .absent [] ∧ Declines (.accountResume p) s 0xB6 .absent []) ∧
      ∀ i : Fin 256, lookup d key = some i →
        ((d[i].banks[(0 : Fin 2)].readings ≠ 0 ∨ d[i].banks[(1 : Fin 2)].readings ≠ 0) →
          Declines (.accountRemove p) s 0xB4 .state []) ∧
        (d[i].banks[(0 : Fin 2)].readings = 0 → d[i].banks[(1 : Fin 2)].readings = 0 →
          Answers (.accountRemove p) s 0xB4 .ok [] (written i { d[i] with valid := false })) ∧
        Answers (.accountSuspend p) s 0xB5 .ok [] (written i { d[i] with suspended := true }) ∧
        Answers (.accountResume p) s 0xB6 .ok [] (written i { d[i] with suspended := false })

/-- R152 to R154: TARIFF-SET writes the eight prices of its tariff, BANDMAP-SET the bands of its slots, LOOKASIDE-PURGE
takes one key or all out of the lookaside and keeps the order of the rest. -/
def Obligations.TariffsWritten : Prop :=
  ∀ (s : State) (p : List Byte), Heard s →
    (∀ (f : TariffSetFields) (k : Fin 8), parseTariffSet p = some f → f.tariff = k.1 →
      ∃ prices : Vector Nat 8,
        Answers (.tariffSet p) s 0xBC .ok []
          { s with abu := { s.abu with tariffs := put s.abu.tariffs k prices } } ∧
        prices.toList = f.prices) ∧
    (∀ f : BandmapSetFields, parseBandmapSet p = some f → f.first ≤ 95 → 1 ≤ f.count → f.first + f.count ≤ 96 →
      ((∃ b ∈ f.bands, 3 < b) → Declines (.bandmapSet p) s 0xBD .range [3]) ∧
      ((∀ b ∈ f.bands, b ≤ 3) → ∃ w : Vector (Fin 4) 96,
        Answers (.bandmapSet p) s 0xBD .ok [] { s with abu := { s.abu with bandMap := w } } ∧
        ∀ i : Fin 96,
          (f.first ≤ i.1 ∧ i.1 < f.first + f.count → f.bands[i.1 - f.first]? = some w[i].1) ∧
          (¬ (f.first ≤ i.1 ∧ i.1 < f.first + f.count) → w[i] = s.abu.bandMap[i]))) ∧
    ∀ key : Nat, parse32 p = some key →
      (key = 16777216 → Answers (.lookasidePurge p) s 0xBA .ok []
        { s with abu := { s.abu with lookaside := [] } }) ∧
      (key = 0 ∨ 16777216 < key → Declines (.lookasidePurge p) s 0xBA .range [1]) ∧
      (1 ≤ key → key ≤ 16777215 → ∃ l : List LookEntry,
        Answers (.lookasidePurge p) s 0xBA .ok [] { s with abu := { s.abu with lookaside := l } } ∧
        l.Sublist s.abu.lookaside ∧ ∀ e : LookEntry, e ∈ l ↔ e ∈ s.abu.lookaside ∧ e.key ≠ key)

/-- R151: a booking resolves its key through the lookaside, whose tariff it uses after a passed tag check, else through
the directory; a miss that finds the key makes an entry at the most recently used place, of eight entries the last one
gone, and one that does not find it leaves the lookaside but for a failed entry. R155 to R157: to an account that is not suspended the
energies go at its tariff and band, with nothing of the charge lost but to saturation; every other reading goes to the
suspense of its meter and raises UNASSIGNED-KEY. -/
def Obligations.BookingsBalance : Prop :=
  ∀ (s : State) (r : Reading) (f : Finished),
    let a := s.abu
    let t := bookReading r f s
    let found := (resolveKey r.key a).1
    let top := 281474976710655
    (∀ e ∈ a.lookaside, (∀ e' ∈ a.lookaside, e'.key = e.key → e' = e) → e.key = r.key →
      a.directory[e.location].valid = true → a.directory[e.location].key = r.key →
      found = some { location := e.location, tariff := e.tariff } ∧
      (resolveKey r.key a).2.lookaside = e :: a.lookaside.filter fun e' => decide (e'.key ≠ r.key)) ∧
    ((∀ e ∈ a.lookaside, e.key = r.key →
        ¬ (a.directory[e.location].valid = true ∧ a.directory[e.location].key = r.key)) →
      found = (lookup a.directory r.key).map (fun i => { location := i, tariff := a.directory[i].tariff }) ∧
      (let others := a.lookaside.filter fun e => decide (e.key ≠ r.key)
       (resolveKey r.key a).2.lookaside = match lookup a.directory r.key with
         | none => others
         | some i => ⟨r.key, i, a.directory[i].tariff⟩ :: others.take 7)) ∧
    (∀ x : Resolution, r.key ≠ 0 → found = some x → a.directory[x.location].suspended = false →
      ∃ b : Bank,
        let old := a.directory[x.location].banks[a.active]
        let prices := a.tariffs[x.tariff]
        let band := a.bandMap[r.tag.slot]
        let cost := f.recovered * priceOf prices band false + f.supplementary * priceOf prices band true
        t = { s with abu := { a with
          lookaside := (resolveKey r.key a).2.lookaside
          directory := put a.directory x.location { a.directory[x.location] with
            banks := put a.directory[x.location].banks a.active b } } } ∧
        b.rem < 3600000 ∧ b.readings = min (old.readings + 1) 65535 ∧
        b.estimated = (if f.estimated then min (old.estimated + 1) 65535 else old.estimated) ∧
        b.recKJ = min (old.recKJ + f.recovered) top ∧ b.supKJ = min (old.supKJ + f.supplementary) top ∧
        (b.charge * 3600000 + b.rem = old.charge * 3600000 + old.rem + cost ∨
          b.charge = top ∧ top * 3600000 + b.rem < old.charge * 3600000 + old.rem + cost)) ∧
    ((r.key = 0 ∨ found = none ∨ ∃ x : Resolution, found = some x ∧ a.directory[x.location].suspended = true) →
      let old := a.suspense[r.meter][a.active]
      t.abu = { a with
        lookaside := if r.key = 0 then a.lookaside else (resolveKey r.key a).2.lookaside
        suspense := put a.suspense r.meter (put a.suspense[r.meter] a.active
          { recKJ := min (old.recKJ + f.recovered) top
            supKJ := min (old.supKJ + f.supplementary) top
            readings := min (old.readings + 1) 65535
            estimated := if f.estimated then min (old.estimated + 1) 65535 else old.estimated }) } ∧
      t = { s with abu := t.abu, cnu := t.cnu } ∧
      RaisedOnce condUnassignedKey r.meter.1 r.tag s.cnu t.cnu)

/-- R158: PERIOD-CLOSE is refused while a close is on or the queue is full; behind a WAITING reading its marker waits.
R159: a marker that stands alone retires at once: the period number goes on, the banks flip, every valid entry carries
its rem over, and emission begins at place 0. -/
def Obligations.PeriodsClose : Prop :=
  ∀ (s : State), Heard s →
    let a := s.abu
    (a.close ≠ .idle → Declines (.periodClose []) s 0xC0 .busy []) ∧
    (a.close = .idle → 64 ≤ s.hmu.queue.length → Declines (.periodClose []) s 0xC0 .full []) ∧
    (∀ (r : Reading) (q : List RetireEntry), a.close = .idle → s.hmu.queue = .reading r :: q → r.finished = none →
      q.length < 63 →
      Answers (.periodClose []) s 0xC0 .ok (be 2 a.period)
        { s with
          hmu := { s.hmu with queue := .reading r :: q ++ [.marker a.period] }
          abu := { a with close := .marked } }) ∧
    (a.close = .idle → s.hmu.queue = [] → ∃ d : Vector DirEntry 256,
      Answers (.periodClose []) s 0xC0 .ok (be 2 a.period)
        { s with abu := { a with
            period := (a.period + 1) % 65536, active := a.active + 1, close := .emitting,
            closing := some a.period, cursor := 0, emitted := 0, directory := d } } ∧
      ∀ i : Fin 256,
        (a.directory[i].valid = false → d[i] = a.directory[i]) ∧
        (a.directory[i].valid = true →
          d[i] = { a.directory[i] with banks := d[i].banks } ∧
          d[i].banks[a.active] = { a.directory[i].banks[a.active] with rem := 0 } ∧
          d[i].banks[a.active + 1] =
            { a.directory[i].banks[a.active + 1] with rem := a.directory[i].banks[a.active].rem }))

/-- R160, R162: what emission does with the place at the cursor: it passes a place whose closing bank holds no readings,
pauses where the statement queue is full, and else turns the bank into a statement and clears it; after the last place
the close ends and CLOSE-DONE is raised. In the other close states there is no emission. -/
def Obligations.EmissionJudges : Prop :=
  ∀ s : State,
    let a := s.abu
    let closing := a.active + 1
    let last := a.cursor = 271
    let account := fun i : Fin 256 => a.cursor = i.1 ∧ a.directory[i].valid = true ∧
      0 < a.directory[i].banks[closing].readings
    let suspense := fun m : Fin 16 => a.cursor = 256 + m.1 ∧ 0 < a.suspense[m][closing].readings
    let passed := fun (b : Abu) => if last then { b with cursor := 272, close := .idle, closing := none }
      else { b with cursor := a.cursor + 1 }
    let told := fun (n : Option (Fin 32)) (period : Nat) (d : Cnu) => ∃ c : Cnu,
      (match n with | none => c = s.cnu | some n => OthersStand [n] s.cnu c ∧ c.records[n].active = true) ∧
      (last → RaisedOnce condCloseDone period s.sck.pos c d) ∧ (¬ last → d = c)
    (a.close ≠ .emitting → exec .emissionStep s = .next s) ∧
    ∀ period : Nat, a.close = .emitting → a.closing = some period → a.cursor < 272 →
      ((∀ i, ¬ account i) → (∀ m, ¬ suspense m) → CompletesWith .emissionStep s fun t =>
        t = { s with abu := passed a, cnu := t.cnu } ∧ told none period t.cnu) ∧
      ((∃ i, account i) ∨ (∃ m, suspense m) → 32 ≤ a.statements.length →
        exec .emissionStep s = .next { s with abu := { a with close := .paused } }) ∧
      (∀ i, account i → a.statements.length < 32 → CompletesWith .emissionStep s fun t =>
        let e := a.directory[i]
        let b := e.banks[closing]
        t = { s with
          abu := passed { a with
            emitted := a.emitted + 1
            directory := put a.directory i { e with banks := put e.banks closing Bank.zero }
            statements := a.statements ++ [⟨.account e.key e.tariff, period, b.recKJ, b.supKJ, b.charge, b.readings,
              b.estimated⟩] }
          cnu := t.cnu } ∧ told (some condStatementReady) period t.cnu) ∧
      (∀ m, suspense m → a.statements.length < 32 → CompletesWith .emissionStep s fun t =>
        let b := a.suspense[m][closing]
        t = { s with
          abu := passed { a with
            emitted := a.emitted + 1
            suspense := put a.suspense m (put a.suspense[m] closing SuspenseBank.zero)
            statements := a.statements ++ [⟨.suspense m, period, b.recKJ, b.supKJ, 0, b.readings, b.estimated⟩] }
          cnu := t.cnu } ∧ told (some condStatementReady) period t.cnu)

/-! ## Chapter 10: conditions and outputs -/

/-- R179 to R182: CONDITION-CLEAR clears the records its mask selects, a LEVEL one but for its flag; CONDITION-RAISE
takes one setting event of HOST-A or HOST-B, and of no other condition; CONDITION-ROUTE writes the route, and the alarm
class of HOST-A and HOST-B alone (the readings of R165's bytes are those of log entry 9); the outputs follow at once.
CONDITION-READ returns the selected records in ascending number. -/
def Obligations.ConditionsDirected : Prop :=
  ∀ (s : State) (p : List Byte), Heard s →
    let old := s.cnu.records
    (∀ mask : BitVec 32, parseMask p = some mask →
      (∃ d : Cnu, Answers (.conditionClear p) s 0xC4 .ok [] { s with cnu := d } ∧ OutputsFollow d ∧
        ∀ n : Fin 32, d.records[n] =
          if mask.getLsbD n.1 = true then
            { old[n] with
              active := isLevelCondition n && old[n].active, count := 0, source := 0, time := Tag.zero }
          else old[n]) ∧
      ∃ chosen : List (Fin 32), chosen.Pairwise (· < ·) ∧ (∀ n, n ∈ chosen ↔ mask.getLsbD n.1 = true) ∧
        Answers (.conditionRead p) s 0xC3 .ok
          (be 1 chosen.length ++ chosen.flatMap fun n =>
            be 1 n.1 ++ [if isLevelCondition n then 1 else 0] ++ [if old[n].active then 0 else 1] ++
              be 1 old[n].count ++ be 2 old[n].source ++ encTag old[n].time ++ encCode old[n].route.code ++
              [if old[n].alarm then 0 else 1]) s) ∧
    (∀ n source : Nat, parse816 p = some (n, source) →
      (∀ k : Fin 32, n = k.1 → 30 ≤ n → ∃ d : Cnu,
        Answers (.conditionRaise p) s 0xC5 .ok [] { s with cnu := d } ∧ OutputsFollow d ∧
        RaisedOnce k source s.sck.pos s.cnu d) ∧
      (n < 30 ∨ 31 < n → Declines (.conditionRaise p) s 0xC5 .range [1])) ∧
    ∀ n route alarm : Nat, parse888 p = some (n, route, alarm) →
      (31 < n → Declines (.conditionRoute p) s 0xC6 .range [1]) ∧
      ∀ k : Fin 32, n = k.1 →
        let fits := alarm ≤ 1 ∧ (n < 30 → (alarm = 0 ↔ fixedAlarm k = true))
        (2 < route → Declines (.conditionRoute p) s 0xC6 .range [2]) ∧
        (route ≤ 2 → ¬ fits → Declines (.conditionRoute p) s 0xC6 .range [3]) ∧
        (route ≤ 2 → fits → ∃ d : Cnu,
          Answers (.conditionRoute p) s 0xC6 .ok [] { s with cnu := d } ∧ OutputsFollow d ∧
          d.records[k] = { old[k] with route := d.records[k].route, alarm := decide (alarm = 0) } ∧
          d.records[k].route.code = route ∧ OthersStand [k] s.cnu d)

/-! ## What every step keeps -/

/-- The state right after reset has every property of this section (R174). -/
def Obligations.ResetSound : Prop :=
  ConditionsSound State.reset ∧ LevelsFollow State.reset ∧ ClockSound State.reset ∧ DrivesSound State.reset ∧
  RegistersSound State.reset ∧ QueuesSound State.reset ∧ DirectorySound State.reset.abu.directory ∧
  BanksSound State.reset.abu

/-- R177, R178, R181: the outputs follow the records, the alarm classes of Table 10-1 stand, no count passes 255, and
every LEVEL condition but FLARING is active exactly while its cause holds. -/
def Obligations.ConditionsStaySound : Prop :=
  ∀ s t : State, step s = .next t →
    (ConditionsSound s → ConditionsSound t) ∧ (LevelsFollow s → LevelsFollow t)

/-- R1 to R5, R8, R10: the clock runs exactly in RUN, its settings are permitted, the position lies in the schedule, the
step in progress lies within its end count, and that within 5 s of STEP_S. -/
def Obligations.ClockStaysSound : Prop :=
  ∀ s t : State, step s = .next t → ClockSound s → ClockSound t

/-- R79, R85, R87, R88: every drive pin stands as the state and the mode of its channel drive it, and a channel that is
not STOPPED runs exactly while its permissive is met. -/
def Obligations.DrivesStaySound : Prop :=
  ∀ s t : State, step s = .next t → DrivesSound s → DrivesSound t

/-- R18, R24, R30, R37, R56, R78, R93, R100, R102, R104, R115, R120, R121, R126, R129, R153: every item to which these rules
give a range stays in it: pulse channels, event lines, the times and ages of points with the values that readers use,
grade and consumer entries, drive channels with their pair items, the export configuration, the nomination tables, the
held nomination, the grace remaining, a curtailment, the deviation and the recovery count, meter channels, CONFIRM_S and
prices. SETUP stays quiet with them (R57, R172). The clock, conditions, queues, directory and banks have statements of
their own. -/
def Obligations.RegistersStaySound : Prop :=
  ∀ s t : State, step s = .next t → RegistersSound s → RegistersSound t

/-- R16, R122, R131, R137, R139, R143, R150, R160: the queues keep their sizes, at most one marker or emission is there,
no finished reading and no marker waits at the head of the retire queue, no ready reading waits but behind one of its
meter, and the lookaside holds no key twice. -/
def Obligations.QueuesStaySound : Prop :=
  ∀ s t : State, step s = .next t → QueuesSound s → QueuesSound t

/-- R144, R146: no two valid entries hold one key, and each lies in the group that its H mark names. -/
def Obligations.DirectoryStaysSound : Prop :=
  ∀ s t : State, step s = .next t → DirectorySound s.abu.directory → DirectorySound t.abu.directory

/-- R143, R156, R159, R160: outside an emission the banks that are not active are empty, within one the places passed
are; a bank without readings holds nothing but a carried rem, and no rem reaches one MWh. -/
def Obligations.BanksStaySound : Prop :=
  ∀ s t : State, step s = .next t → BanksSound s.abu → BanksSound t.abu
end

