-- ==== Sys2Proof/Laws/Codec.lean ====
section
/-!
SUPPORT. Reading and writing of one field at a time (R165): what is read is what would be written, and what is
written is read.
-/
namespace Sys2Proof.Machine

@[simp] theorem be_length (w n : Nat) : (be w n).length = w := by
  induction w generalizing n with
  | zero => rfl
  | succ w ih => simp [be, ih]

theorem ofNat_toNat_byte (b : Byte) : BitVec.ofNat 8 b.toNat = b := by simp

theorem toNat_byte_lt (b : Byte) : b.toNat < 256 := b.isLt

theorem u8_eq_some {l q : List Byte} {n : Nat} : u8 l = some (n, q) ↔ n < 256 ∧ l = be 1 n ++ q := by
  constructor
  · intro h
    cases l with
    | nil => simp [u8] at h
    | cons a l =>
      simp only [u8, Option.some.injEq, Prod.mk.injEq] at h
      obtain ⟨rfl, rfl⟩ := h
      exact ⟨a.isLt, by simp [be]⟩
  · rintro ⟨h, rfl⟩
    simp [u8, be]; omega

theorem u16_eq_some {l q : List Byte} {n : Nat} : u16 l = some (n, q) ↔ n < 65536 ∧ l = be 2 n ++ q := by
  constructor
  · intro h
    match l, h with
    | a :: b :: l, h =>
      simp only [u16, Option.some.injEq, Prod.mk.injEq] at h
      obtain ⟨rfl, rfl⟩ := h
      have ha := a.isLt; have hb := b.isLt
      refine ⟨by omega, ?_⟩
      simp only [be, List.nil_append, List.cons_append, List.cons.injEq, and_true]
      constructor <;> apply BitVec.eq_of_toNat_eq <;> simp <;> omega
  · rintro ⟨h, rfl⟩
    simp [u16, be]; omega

theorem u24_eq_some {l q : List Byte} {n : Nat} : u24 l = some (n, q) ↔ n < 16777216 ∧ l = be 3 n ++ q := by
  constructor
  · intro h
    match l, h with
    | a :: b :: c :: l, h =>
      simp only [u24, Option.some.injEq, Prod.mk.injEq] at h
      obtain ⟨rfl, rfl⟩ := h
      have ha := a.isLt; have hb := b.isLt; have hc := c.isLt
      refine ⟨by omega, ?_⟩
      simp only [be, List.nil_append, List.cons_append, List.cons.injEq, and_true]
      refine ⟨?_, ?_, ?_⟩ <;> apply BitVec.eq_of_toNat_eq <;> simp <;> omega
  · rintro ⟨h, rfl⟩
    simp [u24, be]; omega

theorem u32_eq_some {l q : List Byte} {n : Nat} : u32 l = some (n, q) ↔ n < 4294967296 ∧ l = be 4 n ++ q := by
  constructor
  · intro h
    match l, h with
    | a :: b :: c :: d :: l, h =>
      simp only [u32, Option.some.injEq, Prod.mk.injEq] at h
      obtain ⟨rfl, rfl⟩ := h
      have ha := a.isLt; have hb := b.isLt; have hc := c.isLt; have hd := d.isLt
      refine ⟨by omega, ?_⟩
      simp only [be, List.nil_append, List.cons_append, List.cons.injEq, and_true]
      refine ⟨?_, ?_, ?_, ?_⟩ <;> apply BitVec.eq_of_toNat_eq <;> simp <;> omega
  · rintro ⟨h, rfl⟩
    simp [u32, be]; omega

theorem i8_eq_some {l q : List Byte} {z : Int} :
    i8 l = some (z, q) ↔ (-128 ≤ z ∧ z ≤ 127) ∧ l = beInt 1 z ++ q := by
  constructor
  · intro h
    cases l with
    | nil => simp [i8] at h
    | cons a l =>
      simp only [i8, Option.some.injEq, Prod.mk.injEq] at h
      obtain ⟨rfl, rfl⟩ := h
      have h1 := BitVec.toInt_lt (x := a); have h2 := BitVec.le_toInt (x := a)
      refine ⟨by omega, ?_⟩
      simp only [beInt, be, List.nil_append, List.cons_append, List.cons.injEq, and_true]
      apply BitVec.eq_of_toNat_eq
      have := a.isLt
      rw [BitVec.toInt_eq_toNat_cond]
      split <;> simp <;> omega
  · rintro ⟨⟨h1, h2⟩, rfl⟩
    simp only [i8, beInt, be, List.nil_append, List.cons_append, Option.some.injEq, Prod.mk.injEq, and_true]
    rw [BitVec.toInt_eq_toNat_cond]
    split <;> simp_all <;> omega

/-- An optional field, from what its own reading does (R165). -/
theorem optional_eq_some {α : Type} {f : List Byte → Option (α × List Byte)} {enc : α → List Byte} {ok : α → Prop}
    (hf : ∀ l q x, f l = some (x, q) ↔ ok x ∧ l = enc x ++ q) {l q : List Byte} {x : Option α} :
    optional f l = some (x, q) ↔ (∀ y ∈ x, ok y) ∧ l = encOpt enc x ++ q := by
  cases l with
  | nil => cases x <;> simp [optional, encOpt]
  | cons b l =>
    simp only [optional]
    split
    · cases x <;> simp_all [encOpt]
    · split
      · cases x with
        | none => simp_all [encOpt]
        | some x => simp_all [encOpt]
      · cases x <;> simp_all [encOpt]

/-- A dependent field, from what its own reading does (R165). -/
theorem dependent_eq_some {α : Type} {f : List Byte → Option (α × List Byte)} {enc : α → List Byte} {ok : α → Prop}
    (hf : ∀ l q x, f l = some (x, q) ↔ ok x ∧ l = enc x ++ q) {c : Bool} {l q : List Byte} {x : Option α} :
    dependent c f l = some (x, q) ↔ x.isSome = c ∧ (∀ y ∈ x, ok y) ∧ l = encDep enc x ++ q := by
  unfold dependent
  cases c <;> cases x <;> simp_all [encDep, eq_comm]

/-- Fields of one kind, from what the reading of one does. -/
theorem many_eq_some {α : Type} {f : List Byte → Option (α × List Byte)} {enc : α → List Byte} {ok : α → Prop}
    (hf : ∀ l q x, f l = some (x, q) ↔ ok x ∧ l = enc x ++ q) {n : Nat} {l q : List Byte} {xs : List α} :
    many f n l = some (xs, q) ↔ (∀ y ∈ xs, ok y) ∧ xs.length = n ∧ l = xs.flatMap enc ++ q := by
  induction n generalizing l xs with
  | zero =>
    simp only [many, Option.some.injEq, Prod.mk.injEq]
    constructor
    · rintro ⟨rfl, rfl⟩; simp
    · rintro ⟨-, h, rfl⟩
      rw [List.length_eq_zero_iff] at h; subst h; simp
  | succ n ih =>
    simp only [many, Option.bind_eq_bind, Option.bind_eq_some_iff, Prod.exists, Option.some.injEq, Prod.mk.injEq]
    constructor
    · rintro ⟨x, l', hx, ys, l'', hy, rfl, rfl⟩
      obtain ⟨hx, rfl⟩ := (hf ..).1 hx
      obtain ⟨hy, rfl, rfl⟩ := ih.1 hy
      exact ⟨by simp_all, by simp, by simp⟩
    · rintro ⟨hok, hlen, rfl⟩
      cases xs with
      | nil => simp at hlen
      | cons x ys =>
        simp only [List.mem_cons, forall_eq_or_imp] at hok
        exact ⟨x, ys.flatMap enc ++ q, (hf ..).2 ⟨hok.1, by simp⟩, ys, q,
          ih.2 ⟨hok.2, by simpa using hlen, rfl⟩, rfl, rfl⟩

theorem ending_eq_some {α : Type} {x y : α} {l : List Byte} : ending x l = some y ↔ x = y ∧ l = [] := by
  cases l <;> simp [ending]

end Sys2Proof.Machine
end

