-- ==== Sys2Proof/Laws/State.lean ====
section
/-!
SUPPORT. One lemma per field of the state and named update of it, so that no proof unfolds a record update.
-/
namespace Sys2Proof.Machine

variable (s : State)

/-! ### State.raise -/

@[simp] theorem State.raise_pending (n : Fin 32) (k : Nat) (t : Tag) : (State.raise n k t s).pending = s.pending := rfl
@[simp] theorem State.raise_lkp (n : Fin 32) (k : Nat) (t : Tag) : (State.raise n k t s).lkp = s.lkp := rfl
@[simp] theorem State.raise_sck (n : Fin 32) (k : Nat) (t : Tag) : (State.raise n k t s).sck = s.sck := rfl
@[simp] theorem State.raise_fiu (n : Fin 32) (k : Nat) (t : Tag) : (State.raise n k t s).fiu = s.fiu := rfl
@[simp] theorem State.raise_gbu (n : Fin 32) (k : Nat) (t : Tag) : (State.raise n k t s).gbu = s.gbu := rfl
@[simp] theorem State.raise_dcu (n : Fin 32) (k : Nat) (t : Tag) : (State.raise n k t s).dcu = s.dcu := rfl
@[simp] theorem State.raise_exs (n : Fin 32) (k : Nat) (t : Tag) : (State.raise n k t s).exs = s.exs := rfl
@[simp] theorem State.raise_hmu (n : Fin 32) (k : Nat) (t : Tag) : (State.raise n k t s).hmu = s.hmu := rfl
@[simp] theorem State.raise_abu (n : Fin 32) (k : Nat) (t : Tag) : (State.raise n k t s).abu = s.abu := rfl
@[simp] theorem State.raise_cnu (n : Fin 32) (k : Nat) (t : Tag) :
    (State.raise n k t s).cnu = raiseCond n k t s.cnu := rfl

/-! ### State.raiseHere -/

@[simp] theorem State.raiseHere_pending (n : Fin 32) (k : Nat) : (State.raiseHere n k s).pending = s.pending := rfl
@[simp] theorem State.raiseHere_lkp (n : Fin 32) (k : Nat) : (State.raiseHere n k s).lkp = s.lkp := rfl
@[simp] theorem State.raiseHere_sck (n : Fin 32) (k : Nat) : (State.raiseHere n k s).sck = s.sck := rfl
@[simp] theorem State.raiseHere_fiu (n : Fin 32) (k : Nat) : (State.raiseHere n k s).fiu = s.fiu := rfl
@[simp] theorem State.raiseHere_gbu (n : Fin 32) (k : Nat) : (State.raiseHere n k s).gbu = s.gbu := rfl
@[simp] theorem State.raiseHere_dcu (n : Fin 32) (k : Nat) : (State.raiseHere n k s).dcu = s.dcu := rfl
@[simp] theorem State.raiseHere_exs (n : Fin 32) (k : Nat) : (State.raiseHere n k s).exs = s.exs := rfl
@[simp] theorem State.raiseHere_hmu (n : Fin 32) (k : Nat) : (State.raiseHere n k s).hmu = s.hmu := rfl
@[simp] theorem State.raiseHere_abu (n : Fin 32) (k : Nat) : (State.raiseHere n k s).abu = s.abu := rfl
@[simp] theorem State.raiseHere_cnu (n : Fin 32) (k : Nat) :
    (State.raiseHere n k s).cnu = raiseCond n k s.sck.pos s.cnu := rfl

/-! ### State.follow -/

@[simp] theorem State.follow_pending (n : Fin 32) (b : Bool) (k : Nat) (t : Tag) : (State.follow n b k t s).pending = s.pending := rfl
@[simp] theorem State.follow_lkp (n : Fin 32) (b : Bool) (k : Nat) (t : Tag) : (State.follow n b k t s).lkp = s.lkp := rfl
@[simp] theorem State.follow_sck (n : Fin 32) (b : Bool) (k : Nat) (t : Tag) : (State.follow n b k t s).sck = s.sck := rfl
@[simp] theorem State.follow_fiu (n : Fin 32) (b : Bool) (k : Nat) (t : Tag) : (State.follow n b k t s).fiu = s.fiu := rfl
@[simp] theorem State.follow_gbu (n : Fin 32) (b : Bool) (k : Nat) (t : Tag) : (State.follow n b k t s).gbu = s.gbu := rfl
@[simp] theorem State.follow_dcu (n : Fin 32) (b : Bool) (k : Nat) (t : Tag) : (State.follow n b k t s).dcu = s.dcu := rfl
@[simp] theorem State.follow_exs (n : Fin 32) (b : Bool) (k : Nat) (t : Tag) : (State.follow n b k t s).exs = s.exs := rfl
@[simp] theorem State.follow_hmu (n : Fin 32) (b : Bool) (k : Nat) (t : Tag) : (State.follow n b k t s).hmu = s.hmu := rfl
@[simp] theorem State.follow_abu (n : Fin 32) (b : Bool) (k : Nat) (t : Tag) : (State.follow n b k t s).abu = s.abu := rfl
@[simp] theorem State.follow_cnu (n : Fin 32) (b : Bool) (k : Nat) (t : Tag) :
    (State.follow n b k t s).cnu = followCond n b k t s.cnu := rfl

/-! ### State.answer -/

@[simp] theorem State.answer_pending (k : Byte) (c : ResultCode) (p : List Byte) : (State.answer k c p s).pending = s.pending := rfl
@[simp] theorem State.answer_lkp (k : Byte) (c : ResultCode) (p : List Byte) :
    (State.answer k c p s).lkp = { s.lkp with rx := .hunting, overrun := false, answer := true, reply := some {
      kind := replyKind k, code := c, payload := p } } := rfl
@[simp] theorem State.answer_sck (k : Byte) (c : ResultCode) (p : List Byte) : (State.answer k c p s).sck = s.sck := rfl
@[simp] theorem State.answer_fiu (k : Byte) (c : ResultCode) (p : List Byte) : (State.answer k c p s).fiu = s.fiu := rfl
@[simp] theorem State.answer_gbu (k : Byte) (c : ResultCode) (p : List Byte) : (State.answer k c p s).gbu = s.gbu := rfl
@[simp] theorem State.answer_dcu (k : Byte) (c : ResultCode) (p : List Byte) : (State.answer k c p s).dcu = s.dcu := rfl
@[simp] theorem State.answer_exs (k : Byte) (c : ResultCode) (p : List Byte) : (State.answer k c p s).exs = s.exs := rfl
@[simp] theorem State.answer_hmu (k : Byte) (c : ResultCode) (p : List Byte) : (State.answer k c p s).hmu = s.hmu := rfl
@[simp] theorem State.answer_abu (k : Byte) (c : ResultCode) (p : List Byte) : (State.answer k c p s).abu = s.abu := rfl
@[simp] theorem State.answer_cnu (k : Byte) (c : ResultCode) (p : List Byte) : (State.answer k c p s).cnu = s.cnu := rfl

/-! ### closeFrame -/

@[simp] theorem closeFrame_pending : (closeFrame s).pending = s.pending := rfl
@[simp] theorem closeFrame_lkp : (closeFrame s).lkp = { s.lkp with rx := .hunting, overrun := false } := rfl
@[simp] theorem closeFrame_sck : (closeFrame s).sck = s.sck := rfl
@[simp] theorem closeFrame_fiu : (closeFrame s).fiu = s.fiu := rfl
@[simp] theorem closeFrame_gbu : (closeFrame s).gbu = s.gbu := rfl
@[simp] theorem closeFrame_dcu : (closeFrame s).dcu = s.dcu := rfl
@[simp] theorem closeFrame_exs : (closeFrame s).exs = s.exs := rfl
@[simp] theorem closeFrame_hmu : (closeFrame s).hmu = s.hmu := rfl
@[simp] theorem closeFrame_abu : (closeFrame s).abu = s.abu := rfl
@[simp] theorem closeFrame_cnu : (closeFrame s).cnu = s.cnu := rfl

/-! ### breakFrame -/

@[simp] theorem breakFrame_pending (k : Nat) : (breakFrame k s).pending = s.pending := rfl
@[simp] theorem breakFrame_lkp (k : Nat) :
    (breakFrame k s).lkp = { s.lkp with rx := .hunting, overrun := false } := rfl
@[simp] theorem breakFrame_sck (k : Nat) : (breakFrame k s).sck = s.sck := rfl
@[simp] theorem breakFrame_fiu (k : Nat) : (breakFrame k s).fiu = s.fiu := rfl
@[simp] theorem breakFrame_gbu (k : Nat) : (breakFrame k s).gbu = s.gbu := rfl
@[simp] theorem breakFrame_dcu (k : Nat) : (breakFrame k s).dcu = s.dcu := rfl
@[simp] theorem breakFrame_exs (k : Nat) : (breakFrame k s).exs = s.exs := rfl
@[simp] theorem breakFrame_hmu (k : Nat) : (breakFrame k s).hmu = s.hmu := rfl
@[simp] theorem breakFrame_abu (k : Nat) : (breakFrame k s).abu = s.abu := rfl
@[simp] theorem breakFrame_cnu (k : Nat) : (breakFrame k s).cnu = raiseCond condLinkFrame k s.sck.pos s.cnu := rfl

/-! ### overrunFrame -/

@[simp] theorem overrunFrame_pending (k : Byte) : (overrunFrame k s).pending = s.pending := rfl
@[simp] theorem overrunFrame_lkp (k : Byte) :
    (overrunFrame k s).lkp = { s.lkp with rx := .hunting, overrun := false } := rfl
@[simp] theorem overrunFrame_sck (k : Byte) : (overrunFrame k s).sck = s.sck := rfl
@[simp] theorem overrunFrame_fiu (k : Byte) : (overrunFrame k s).fiu = s.fiu := rfl
@[simp] theorem overrunFrame_gbu (k : Byte) : (overrunFrame k s).gbu = s.gbu := rfl
@[simp] theorem overrunFrame_dcu (k : Byte) : (overrunFrame k s).dcu = s.dcu := rfl
@[simp] theorem overrunFrame_exs (k : Byte) : (overrunFrame k s).exs = s.exs := rfl
@[simp] theorem overrunFrame_hmu (k : Byte) : (overrunFrame k s).hmu = s.hmu := rfl
@[simp] theorem overrunFrame_abu (k : Byte) : (overrunFrame k s).abu = s.abu := rfl
@[simp] theorem overrunFrame_cnu (k : Byte) :
    (overrunFrame k s).cnu = raiseCond condLinkOverrun k.toNat s.sck.pos s.cnu := rfl

/-! ### replyEnded -/

@[simp] theorem replyEnded_pending : (replyEnded s).pending = s.pending := rfl
@[simp] theorem replyEnded_lkp : (replyEnded s).lkp = { s.lkp with answer := false, reply := none } := rfl
@[simp] theorem replyEnded_sck : (replyEnded s).sck = s.sck := rfl
@[simp] theorem replyEnded_fiu : (replyEnded s).fiu = s.fiu := rfl
@[simp] theorem replyEnded_gbu : (replyEnded s).gbu = s.gbu := rfl
@[simp] theorem replyEnded_dcu : (replyEnded s).dcu = s.dcu := rfl
@[simp] theorem replyEnded_exs : (replyEnded s).exs = s.exs := rfl
@[simp] theorem replyEnded_hmu : (replyEnded s).hmu = s.hmu := rfl
@[simp] theorem replyEnded_abu : (replyEnded s).abu = s.abu := rfl
@[simp] theorem replyEnded_cnu : (replyEnded s).cnu = s.cnu := rfl

/-! ### setMode -/

@[simp] theorem setMode_pending (m : Mode) : (setMode m s).pending = s.pending := rfl
@[simp] theorem setMode_lkp (m : Mode) : (setMode m s).lkp = { s.lkp with mode := m } := rfl
@[simp] theorem setMode_sck (m : Mode) : (setMode m s).sck = s.sck := rfl
@[simp] theorem setMode_fiu (m : Mode) : (setMode m s).fiu = s.fiu := rfl
@[simp] theorem setMode_gbu (m : Mode) : (setMode m s).gbu = s.gbu := rfl
@[simp] theorem setMode_dcu (m : Mode) : (setMode m s).dcu = s.dcu := rfl
@[simp] theorem setMode_exs (m : Mode) : (setMode m s).exs = s.exs := rfl
@[simp] theorem setMode_hmu (m : Mode) : (setMode m s).hmu = s.hmu := rfl
@[simp] theorem setMode_abu (m : Mode) : (setMode m s).abu = s.abu := rfl
@[simp] theorem setMode_cnu (m : Mode) : (setMode m s).cnu = s.cnu := rfl

/-! ### setSensor -/

@[simp] theorem setSensor_pending (r : Receiver) : (setSensor r s).pending = s.pending := rfl
@[simp] theorem setSensor_lkp (r : Receiver) : (setSensor r s).lkp = s.lkp := rfl
@[simp] theorem setSensor_sck (r : Receiver) : (setSensor r s).sck = s.sck := rfl
@[simp] theorem setSensor_fiu (r : Receiver) : (setSensor r s).fiu = { s.fiu with sensor := r } := rfl
@[simp] theorem setSensor_gbu (r : Receiver) : (setSensor r s).gbu = s.gbu := rfl
@[simp] theorem setSensor_dcu (r : Receiver) : (setSensor r s).dcu = s.dcu := rfl
@[simp] theorem setSensor_exs (r : Receiver) : (setSensor r s).exs = s.exs := rfl
@[simp] theorem setSensor_hmu (r : Receiver) : (setSensor r s).hmu = s.hmu := rfl
@[simp] theorem setSensor_abu (r : Receiver) : (setSensor r s).abu = s.abu := rfl
@[simp] theorem setSensor_cnu (r : Receiver) : (setSensor r s).cnu = s.cnu := rfl

/-! ### setPoint -/

@[simp] theorem setPoint_pending (i : Fin 32) (p : SamplePoint) : (setPoint i p s).pending = s.pending := rfl
@[simp] theorem setPoint_lkp (i : Fin 32) (p : SamplePoint) : (setPoint i p s).lkp = s.lkp := rfl
@[simp] theorem setPoint_sck (i : Fin 32) (p : SamplePoint) : (setPoint i p s).sck = s.sck := rfl
@[simp] theorem setPoint_fiu (i : Fin 32) (p : SamplePoint) :
    (setPoint i p s).fiu = { s.fiu with points := put s.fiu.points i p } := rfl
@[simp] theorem setPoint_gbu (i : Fin 32) (p : SamplePoint) : (setPoint i p s).gbu = s.gbu := rfl
@[simp] theorem setPoint_dcu (i : Fin 32) (p : SamplePoint) : (setPoint i p s).dcu = s.dcu := rfl
@[simp] theorem setPoint_exs (i : Fin 32) (p : SamplePoint) : (setPoint i p s).exs = s.exs := rfl
@[simp] theorem setPoint_hmu (i : Fin 32) (p : SamplePoint) : (setPoint i p s).hmu = s.hmu := rfl
@[simp] theorem setPoint_abu (i : Fin 32) (p : SamplePoint) : (setPoint i p s).abu = s.abu := rfl
@[simp] theorem setPoint_cnu (i : Fin 32) (p : SamplePoint) : (setPoint i p s).cnu = s.cnu := rfl

/-! ### setGrade -/

@[simp] theorem setGrade_pending (g : Fin 3) (e : GradeEntry) : (setGrade g e s).pending = s.pending := rfl
@[simp] theorem setGrade_lkp (g : Fin 3) (e : GradeEntry) : (setGrade g e s).lkp = s.lkp := rfl
@[simp] theorem setGrade_sck (g : Fin 3) (e : GradeEntry) : (setGrade g e s).sck = s.sck := rfl
@[simp] theorem setGrade_fiu (g : Fin 3) (e : GradeEntry) : (setGrade g e s).fiu = s.fiu := rfl
@[simp] theorem setGrade_gbu (g : Fin 3) (e : GradeEntry) :
    (setGrade g e s).gbu = { s.gbu with grades := put s.gbu.grades g e } := rfl
@[simp] theorem setGrade_dcu (g : Fin 3) (e : GradeEntry) : (setGrade g e s).dcu = s.dcu := rfl
@[simp] theorem setGrade_exs (g : Fin 3) (e : GradeEntry) : (setGrade g e s).exs = s.exs := rfl
@[simp] theorem setGrade_hmu (g : Fin 3) (e : GradeEntry) : (setGrade g e s).hmu = s.hmu := rfl
@[simp] theorem setGrade_abu (g : Fin 3) (e : GradeEntry) : (setGrade g e s).abu = s.abu := rfl
@[simp] theorem setGrade_cnu (g : Fin 3) (e : GradeEntry) : (setGrade g e s).cnu = s.cnu := rfl

/-! ### setConsumers -/

@[simp] theorem setConsumers_pending (v : Vector Consumer 12) : (setConsumers v s).pending = s.pending := rfl
@[simp] theorem setConsumers_lkp (v : Vector Consumer 12) : (setConsumers v s).lkp = s.lkp := rfl
@[simp] theorem setConsumers_sck (v : Vector Consumer 12) : (setConsumers v s).sck = s.sck := rfl
@[simp] theorem setConsumers_fiu (v : Vector Consumer 12) : (setConsumers v s).fiu = s.fiu := rfl
@[simp] theorem setConsumers_gbu (v : Vector Consumer 12) :
    (setConsumers v s).gbu = { s.gbu with consumers := v } := rfl
@[simp] theorem setConsumers_dcu (v : Vector Consumer 12) : (setConsumers v s).dcu = s.dcu := rfl
@[simp] theorem setConsumers_exs (v : Vector Consumer 12) : (setConsumers v s).exs = s.exs := rfl
@[simp] theorem setConsumers_hmu (v : Vector Consumer 12) : (setConsumers v s).hmu = s.hmu := rfl
@[simp] theorem setConsumers_abu (v : Vector Consumer 12) : (setConsumers v s).abu = s.abu := rfl
@[simp] theorem setConsumers_cnu (v : Vector Consumer 12) : (setConsumers v s).cnu = s.cnu := rfl

/-! ### balanceModeStart -/

@[simp] theorem balanceModeStart_pending : (balanceModeStart s).pending = s.pending := rfl
@[simp] theorem balanceModeStart_lkp : (balanceModeStart s).lkp = s.lkp := rfl
@[simp] theorem balanceModeStart_sck : (balanceModeStart s).sck = s.sck := rfl
@[simp] theorem balanceModeStart_fiu : (balanceModeStart s).fiu = s.fiu := rfl
@[simp] theorem balanceModeStart_dcu : (balanceModeStart s).dcu = s.dcu := rfl
@[simp] theorem balanceModeStart_exs : (balanceModeStart s).exs = s.exs := rfl
@[simp] theorem balanceModeStart_hmu : (balanceModeStart s).hmu = s.hmu := rfl
@[simp] theorem balanceModeStart_abu : (balanceModeStart s).abu = s.abu := rfl
@[simp] theorem balanceModeStart_cnu : (balanceModeStart s).cnu = s.cnu := rfl

/-! ### formRecord -/

@[simp] theorem formRecord_pending : (formRecord s).pending = s.pending := rfl
@[simp] theorem formRecord_lkp : (formRecord s).lkp = s.lkp := rfl
@[simp] theorem formRecord_sck : (formRecord s).sck = s.sck := rfl
@[simp] theorem formRecord_fiu : (formRecord s).fiu = s.fiu := rfl
@[simp] theorem formRecord_gbu : (formRecord s).gbu = s.gbu := rfl
@[simp] theorem formRecord_dcu : (formRecord s).dcu = s.dcu := rfl
@[simp] theorem formRecord_exs : (formRecord s).exs = { s.exs with record := formedRecord s } := rfl
@[simp] theorem formRecord_hmu : (formRecord s).hmu = s.hmu := rfl
@[simp] theorem formRecord_abu : (formRecord s).abu = s.abu := rfl
@[simp] theorem formRecord_cnu : (formRecord s).cnu = s.cnu := rfl

/-! ### setMeter -/

@[simp] theorem setMeter_pending (m : Fin 16) (x : Meter) : (setMeter m x s).pending = s.pending := rfl
@[simp] theorem setMeter_lkp (m : Fin 16) (x : Meter) : (setMeter m x s).lkp = s.lkp := rfl
@[simp] theorem setMeter_sck (m : Fin 16) (x : Meter) : (setMeter m x s).sck = s.sck := rfl
@[simp] theorem setMeter_fiu (m : Fin 16) (x : Meter) : (setMeter m x s).fiu = s.fiu := rfl
@[simp] theorem setMeter_gbu (m : Fin 16) (x : Meter) : (setMeter m x s).gbu = s.gbu := rfl
@[simp] theorem setMeter_dcu (m : Fin 16) (x : Meter) : (setMeter m x s).dcu = s.dcu := rfl
@[simp] theorem setMeter_exs (m : Fin 16) (x : Meter) : (setMeter m x s).exs = s.exs := rfl
@[simp] theorem setMeter_hmu (m : Fin 16) (x : Meter) :
    (setMeter m x s).hmu = { s.hmu with meters := put s.hmu.meters m x } := rfl
@[simp] theorem setMeter_abu (m : Fin 16) (x : Meter) : (setMeter m x s).abu = s.abu := rfl
@[simp] theorem setMeter_cnu (m : Fin 16) (x : Meter) : (setMeter m x s).cnu = s.cnu := rfl

/-! ### setQueue -/

@[simp] theorem setQueue_pending (q : List RetireEntry) : (setQueue q s).pending = s.pending := rfl
@[simp] theorem setQueue_lkp (q : List RetireEntry) : (setQueue q s).lkp = s.lkp := rfl
@[simp] theorem setQueue_sck (q : List RetireEntry) : (setQueue q s).sck = s.sck := rfl
@[simp] theorem setQueue_fiu (q : List RetireEntry) : (setQueue q s).fiu = s.fiu := rfl
@[simp] theorem setQueue_gbu (q : List RetireEntry) : (setQueue q s).gbu = s.gbu := rfl
@[simp] theorem setQueue_dcu (q : List RetireEntry) : (setQueue q s).dcu = s.dcu := rfl
@[simp] theorem setQueue_exs (q : List RetireEntry) : (setQueue q s).exs = s.exs := rfl
@[simp] theorem setQueue_hmu (q : List RetireEntry) : (setQueue q s).hmu = { s.hmu with queue := q } := rfl
@[simp] theorem setQueue_abu (q : List RetireEntry) : (setQueue q s).abu = s.abu := rfl
@[simp] theorem setQueue_cnu (q : List RetireEntry) : (setQueue q s).cnu = s.cnu := rfl

/-! ### setEntry -/

@[simp] theorem setEntry_pending (i : Fin 256) (e : DirEntry) : (setEntry i e s).pending = s.pending := rfl
@[simp] theorem setEntry_lkp (i : Fin 256) (e : DirEntry) : (setEntry i e s).lkp = s.lkp := rfl
@[simp] theorem setEntry_sck (i : Fin 256) (e : DirEntry) : (setEntry i e s).sck = s.sck := rfl
@[simp] theorem setEntry_fiu (i : Fin 256) (e : DirEntry) : (setEntry i e s).fiu = s.fiu := rfl
@[simp] theorem setEntry_gbu (i : Fin 256) (e : DirEntry) : (setEntry i e s).gbu = s.gbu := rfl
@[simp] theorem setEntry_dcu (i : Fin 256) (e : DirEntry) : (setEntry i e s).dcu = s.dcu := rfl
@[simp] theorem setEntry_exs (i : Fin 256) (e : DirEntry) : (setEntry i e s).exs = s.exs := rfl
@[simp] theorem setEntry_hmu (i : Fin 256) (e : DirEntry) : (setEntry i e s).hmu = s.hmu := rfl
@[simp] theorem setEntry_abu (i : Fin 256) (e : DirEntry) :
    (setEntry i e s).abu = { s.abu with directory := put s.abu.directory i e } := rfl
@[simp] theorem setEntry_cnu (i : Fin 256) (e : DirEntry) : (setEntry i e s).cnu = s.cnu := rfl

/-! ### startClose -/

@[simp] theorem startClose_pending (p : Nat) : (startClose p s).pending = s.pending := rfl
@[simp] theorem startClose_lkp (p : Nat) : (startClose p s).lkp = s.lkp := rfl
@[simp] theorem startClose_sck (p : Nat) : (startClose p s).sck = s.sck := rfl
@[simp] theorem startClose_fiu (p : Nat) : (startClose p s).fiu = s.fiu := rfl
@[simp] theorem startClose_gbu (p : Nat) : (startClose p s).gbu = s.gbu := rfl
@[simp] theorem startClose_dcu (p : Nat) : (startClose p s).dcu = s.dcu := rfl
@[simp] theorem startClose_exs (p : Nat) : (startClose p s).exs = s.exs := rfl
@[simp] theorem startClose_hmu (p : Nat) : (startClose p s).hmu = s.hmu := rfl
@[simp] theorem startClose_cnu (p : Nat) : (startClose p s).cnu = s.cnu := rfl

/-! ### idleMs -/

@[simp] theorem idleMs_pending : (idleMs s).pending = s.pending := rfl
@[simp] theorem idleMs_lkp : (idleMs s).lkp = s.lkp := rfl
@[simp] theorem idleMs_sck : (idleMs s).sck = { s.sck with phaseMs := min (s.sck.phaseMs + 1) 999 } := rfl
@[simp] theorem idleMs_fiu : (idleMs s).fiu = s.fiu := rfl
@[simp] theorem idleMs_gbu : (idleMs s).gbu = s.gbu := rfl
@[simp] theorem idleMs_dcu :
    (idleMs s).dcu = { s.dcu with channels := each s.dcu.channels fun _ c => dividerTick c } := rfl
@[simp] theorem idleMs_exs : (idleMs s).exs = s.exs := rfl
@[simp] theorem idleMs_hmu : (idleMs s).hmu = s.hmu := rfl
@[simp] theorem idleMs_abu : (idleMs s).abu = s.abu := rfl
@[simp] theorem idleMs_cnu : (idleMs s).cnu = s.cnu := rfl

end Sys2Proof.Machine
end

