-- ==== Sys2Proof/Laws/Conditions.lean ====
section
/-!
SUPPORT. What the condition unit's operations do to the records and to the outputs (R177 to R181).
-/
namespace Sys2Proof.Machine

/-- The outputs judged follow the records (R181). -/
theorem judgeOutputs_follow (c : Cnu) : OutputsFollow (judgeOutputs c) := by
  have h : ∀ p : CondRecord → Bool, (c.records.toList.any p = true ↔ ∃ n : Fin 32, p c.records[n] = true) := by
    intro p
    simp only [List.any_eq_true, Vector.mem_toList_iff]
    constructor
    · rintro ⟨r, hr, hp⟩
      obtain ⟨i, hi, rfl⟩ := Vector.mem_iff_getElem.1 hr
      exact ⟨⟨i, hi⟩, hp⟩
    · rintro ⟨n, hp⟩
      exact ⟨_, Vector.getElem_mem n.2, hp⟩
  refine ⟨?_, ?_, ?_⟩ <;> simp only [judgeOutputs, h, Bool.and_eq_true, decide_eq_true_eq]

@[simp] theorem judgeOutputs_records (c : Cnu) : (judgeOutputs c).records = c.records := rfl
@[simp] theorem setRecord_records (n r) (c : Cnu) : (setRecord n r c).records = put c.records n r := rfl
@[simp] theorem raiseCond_records (n k t) (c : Cnu) :
    (raiseCond n k t c).records = put c.records n (raiseRecord k t c.records[n]) := rfl
@[simp] theorem followCond_records (n b k t) (c : Cnu) :
    (followCond n b k t c).records = put c.records n (followRecord b k t c.records[n]) := rfl
@[simp] theorem clearConds_records (m) (c : Cnu) :
    (clearConds m c).records = each c.records fun n r => if m.getLsbD n.1 then clearRecord n r else r := rfl

theorem setRecord_follow (n r) (c : Cnu) : OutputsFollow (setRecord n r c) := judgeOutputs_follow _
theorem raiseCond_follow (n k t) (c : Cnu) : OutputsFollow (raiseCond n k t c) := judgeOutputs_follow _
theorem followCond_follow (n b k t) (c : Cnu) : OutputsFollow (followCond n b k t c) := judgeOutputs_follow _
theorem clearConds_follow (m) (c : Cnu) : OutputsFollow (clearConds m c) := judgeOutputs_follow _

/-- Only record `n` changes in a raising, a following or a replacing of record `n`. -/
theorem setRecord_others (n r) (c : Cnu) : OthersStand [n] c (setRecord n r c) := by
  intro m hm
  rw [setRecord_records, put_getElem_ne _ _ (fun e => hm (by simp [e]))]
theorem raiseCond_others (n k t) (c : Cnu) : OthersStand [n] c (raiseCond n k t c) := setRecord_others _ _ _
theorem followCond_others (n b k t) (c : Cnu) : OthersStand [n] c (followCond n b k t c) := setRecord_others _ _ _

/-- Records that stand in one change and in the next stand in both. -/
theorem others_trans {ms ns : List (Fin 32)} {a b c : Cnu} (h : OthersStand ms a b) (k : OthersStand ns b c) :
    OthersStand (ms ++ ns) a c := by
  intro n hn
  rw [List.mem_append, not_or] at hn
  rw [k n hn.2, h n hn.1]

@[simp] theorem followCond_active (n b k t) (c : Cnu) : (followCond n b k t c).records[n].active = b := by
  rw [followCond_records, put_getElem_self]
  unfold followRecord enterRecord
  repeat' split
  all_goals simp_all

@[simp] theorem followRecord_route (b k t) (r : CondRecord) : (followRecord b k t r).route = r.route := by
  unfold followRecord enterRecord; repeat' split
  all_goals rfl
@[simp] theorem followRecord_alarm (b k t) (r : CondRecord) : (followRecord b k t r).alarm = r.alarm := by
  unfold followRecord enterRecord; repeat' split
  all_goals rfl
@[simp] theorem raiseRecord_active (k t) (r : CondRecord) : (raiseRecord k t r).active = true := by
  unfold raiseRecord enterRecord; split <;> simp_all
@[simp] theorem raiseRecord_count (k t) (r : CondRecord) : (raiseRecord k t r).count = min (r.count + 1) 255 := by
  unfold raiseRecord; split <;> rfl
@[simp] theorem raiseRecord_route (k t) (r : CondRecord) : (raiseRecord k t r).route = r.route := by
  unfold raiseRecord; split <;> rfl
@[simp] theorem raiseRecord_alarm (k t) (r : CondRecord) : (raiseRecord k t r).alarm = r.alarm := by
  unfold raiseRecord; split <;> rfl
@[simp] theorem clearRecord_route (n) (r : CondRecord) : (clearRecord n r).route = r.route := rfl
@[simp] theorem clearRecord_alarm (n) (r : CondRecord) : (clearRecord n r).alarm = r.alarm := rfl

/-- A raising is one setting event (R177). -/
theorem raisedOnce_raiseCond (n k t) (c : Cnu) : RaisedOnce n k t c (raiseCond n k t c) := by
  refine ⟨?_, ?_, ?_, ?_, ?_, ?_, raiseCond_others _ _ _ _⟩ <;>
    simp only [raiseCond_records, put_getElem_self, raiseRecord_active, raiseRecord_count, raiseRecord_route,
      raiseRecord_alarm]
  · intro h; unfold raiseRecord; rw [if_neg (by rw [h]; decide)]; exact ⟨rfl, rfl⟩
  · intro h; unfold raiseRecord; rw [if_pos h]; exact ⟨rfl, rfl⟩

/-- A count stays within a byte through every operation on records (R177). -/
theorem countUp_le (k : Nat) : countUp k ≤ 255 := Nat.min_le_right ..
theorem raiseRecord_count_le (k t) (r : CondRecord) : (raiseRecord k t r).count ≤ 255 := by
  rw [raiseRecord_count]; exact Nat.min_le_right ..
theorem followRecord_count_le (b k t) {r : CondRecord} (h : r.count ≤ 255) : (followRecord b k t r).count ≤ 255 := by
  unfold followRecord enterRecord; repeat' split
  · exact h
  · exact countUp_le _
  · exact h

end Sys2Proof.Machine
end

