-- ==== Sys2Proof/Laws/Frames.lean ====
section
/-!
SUPPORT. What each shared operation can change: one relation per kind of effect, and one lemma per operation that says
that it changes nothing beyond it. A proof takes the new values with `obtain` and forgets the operation.
-/
namespace Sys2Proof.Machine

/-- A relation that holds of nothing done and of two things done one after the other holds of a fold. -/
theorem foldl_related {α β : Type} {R : β → β → Prop} (refl : ∀ s, R s s) (trans : ∀ {a b c}, R a b → R b c → R a c)
    {f : β → α → β} (h : ∀ s x, R s (f s x)) (l : List α) (s : β) : R s (l.foldl f s) := by
  induction l generalizing s with
  | nil => exact refl s
  | cons x l ih => exact trans (h s x) (ih (f s x))

/-! ## Conditions alone -/

/-- Only conditions and outputs change. -/
def Signals (s t : State) : Prop := ∃ d, t = { s with cnu := d }

theorem Signals.refl (s : State) : Signals s s := ⟨_, rfl⟩
theorem Signals.trans {a b c : State} : Signals a b → Signals b c → Signals a c := by
  rintro ⟨_, rfl⟩ ⟨_, rfl⟩; exact ⟨_, rfl⟩
theorem signals_raise (n k t s) : Signals s (State.raise n k t s) := ⟨_, rfl⟩
theorem signals_follow (n b k t s) : Signals s (State.follow n b k t s) := ⟨_, rfl⟩
theorem signals_followBlocked (t s) : Signals s (followBlocked t s) := ⟨_, rfl⟩
theorem signals_followHolders (t s) : Signals s (followHolders t s) := ⟨_, rfl⟩
theorem signals_followFlaring (f t s) : Signals s (followFlaring f t s) := ⟨_, rfl⟩
theorem signals_followSamples (s) : Signals s (followSamples s) := ⟨_, rfl⟩
theorem signals_followStarved (t s) : Signals s (followStarved t s) := ⟨_, rfl⟩
theorem signals_reportClamp (c t s) : Signals s (reportClamp c t s) := by
  unfold reportClamp; repeat' split
  all_goals first | exact signals_raise .. | exact .refl s
theorem signals_raiseShort (x w t s) : Signals s (raiseShort x w t s) := by
  unfold raiseShort; split
  · exact signals_raise ..
  · exact .refl s
theorem signals_raiseReleased (x w t s) : Signals s (raiseReleased x w t s) :=
  foldl_related .refl .trans (fun s n => by
    split
    · exact signals_raise ..
    · exact .refl s) ..

/-! ## Captures -/

/-- Only capture units, the capture log, conditions and outputs change. -/
def Captures (s t : State) : Prop := ∃ u l d, t = { s with sck := { s.sck with units := u, log := l }, cnu := d }

theorem Captures.refl (s : State) : Captures s s := ⟨_, _, _, rfl⟩
theorem Captures.trans {a b c : State} : Captures a b → Captures b c → Captures a c := by
  rintro ⟨_, _, _, rfl⟩ ⟨_, _, _, rfl⟩; exact ⟨_, _, _, rfl⟩
theorem Signals.captures {s t : State} : Signals s t → Captures s t := by rintro ⟨_, rfl⟩; exact ⟨_, _, _, rfl⟩
theorem captures_appendCapture (r s) : Captures s (appendCapture r s) := by
  unfold appendCapture; split <;> exact ⟨_, _, _, rfl⟩
theorem captures_triggerUnit (u c s) : Captures s (triggerUnit u c s) := by
  unfold triggerUnit; split
  · obtain ⟨a, l, d, h⟩ := captures_appendCapture (captureRecord u c s) s
    dsimp only; rw [h]; exact ⟨_, _, _, rfl⟩
  · exact .refl s
theorem captures_triggerUnits (p c s) : Captures s (triggerUnits p c s) :=
  foldl_related .refl .trans (fun s u => by
    split
    · exact captures_triggerUnit ..
    · exact .refl s) ..

/-! ## Slot timers -/

/-- Only slot timers, capture units, the capture log, conditions and outputs change. -/
def Expires (s t : State) : Prop :=
  ∃ x u l d, t = { s with sck := { s.sck with timers := x, units := u, log := l }, cnu := d }

theorem Expires.refl (s : State) : Expires s s := ⟨_, _, _, _, rfl⟩
theorem Expires.trans {a b c : State} : Expires a b → Expires b c → Expires a c := by
  rintro ⟨_, _, _, _, rfl⟩ ⟨_, _, _, _, rfl⟩; exact ⟨_, _, _, _, rfl⟩
theorem Captures.expires {s t : State} : Captures s t → Expires s t := by
  rintro ⟨_, _, _, rfl⟩; exact ⟨_, _, _, _, rfl⟩
theorem expires_expireTimer (n s) : Expires s (expireTimer n s) := by
  cases hu : s.sck.timers[n].unit with
  | none => simp only [expireTimer, hu]; exact ⟨_, _, _, _, rfl⟩
  | some u =>
    obtain ⟨a, l, d, h⟩ := captures_triggerUnit u (.timer n) (s.raise (condTimer n) n.1 s.sck.pos)
    simp only [expireTimer, hu]
    split
    · rw [h]; exact ⟨_, _, _, _, rfl⟩
    · exact ⟨_, _, _, _, rfl⟩
theorem expires_stepStart (s) : Expires s (stepStart s) :=
  foldl_related .refl .trans (fun s n => by
    split
    · exact expires_expireTimer ..
    · exact .refl s) ..

/-! ## Export -/

/-- Only the EXS, capture units, the capture log, conditions and outputs change. -/
def Exports (s t : State) : Prop :=
  ∃ e u l d, t = { s with exs := e, sck := { s.sck with units := u, log := l }, cnu := d }

theorem Exports.refl (s : State) : Exports s s := ⟨_, _, _, _, rfl⟩
theorem Exports.trans {a b c : State} : Exports a b → Exports b c → Exports a c := by
  rintro ⟨_, _, _, _, rfl⟩ ⟨_, _, _, _, rfl⟩; exact ⟨_, _, _, _, rfl⟩
theorem Captures.exports {s t : State} : Captures s t → Exports s t := by
  rintro ⟨_, _, _, rfl⟩; exact ⟨_, _, _, _, rfl⟩
theorem exports_exs (e s) : Exports s { s with exs := e } := ⟨_, _, _, _, rfl⟩
theorem exports_formRecord (s) : Exports s (formRecord s) := ⟨_, _, _, _, rfl⟩
theorem exports_changeExport (st k t s) : Exports s (changeExport st k t s) := by
  unfold changeExport; split
  · exact .refl s
  · dsimp only
    exact .trans ⟨_, _, _, _, rfl⟩ (captures_triggerUnits ..).exports
theorem exports_changePlan (p t s) : Exports s (changePlan p t s) := ⟨_, _, _, _, rfl⟩
theorem exports_swapTables (t s) : Exports s (swapTables t s) := ⟨_, _, _, _, rfl⟩
theorem exports_countDeviation (b v s) : Exports s (countDeviation b v s) := by
  unfold countDeviation; split
  · exact exports_exs ..
  · dsimp only; split
    · exact .trans ⟨_, _, _, _, rfl⟩ (exports_changeExport ..)
    · exact ⟨_, _, _, _, rfl⟩
  · exact .refl s
  · exact .refl s
theorem exports_appendSlotRecord (r s) : Exports s (appendSlotRecord r s) := ⟨_, _, _, _, rfl⟩
theorem exports_updatePlan (t s) : Exports s (updatePlan t s) := by
  unfold updatePlan; repeat' split
  all_goals first | exact .refl s | exact exports_swapTables .. | skip
  dsimp only; split
  · exact .trans (exports_exs _ s) (exports_changePlan ..)
  · exact exports_exs ..
theorem exports_rolloverPlan (t s) : Exports s (rolloverPlan t s) := by
  unfold rolloverPlan; repeat' split
  all_goals first | exact .refl s | exact exports_swapTables .. | exact exports_updatePlan .. | skip
  · exact exports_changePlan ..
  · exact .trans (exports_exs _ s) (exports_changePlan ..)
theorem exports_enterActive (t s) : Exports s (enterActive t s) := .trans (exports_exs _ s) (exports_changeExport ..)
theorem exports_judgeExportState (t s) : Exports s (judgeExportState t s) := by
  unfold judgeExportState; repeat' split
  all_goals first | exact .refl s | exact exports_enterActive .. | exact exports_changeExport ..
theorem exports_closeSlot (b s) : Exports s (closeSlot b s) := by
  unfold closeSlot; dsimp only
  refine .trans ?_ (exports_appendSlotRecord ..)
  refine .trans ?_ (exports_exs ..)
  refine .trans ?_ (exports_countDeviation ..)
  split <;> exact ⟨_, _, _, _, rfl⟩
theorem exports_prepareSlot (b s) : Exports s (prepareSlot b s) := by
  unfold prepareSlot; dsimp only
  refine .trans ?_ (exports_formRecord _)
  refine .trans ?_ (exports_exs ..)
  refine .trans ?_ (exports_judgeExportState ..)
  refine .trans ?_ (exports_exs ..)
  split
  · exact exports_rolloverPlan ..
  · exact exports_updatePlan ..
theorem exports_exportBoundary (b s) : Exports s (exportBoundary b s) := by
  unfold exportBoundary; dsimp only; split
  · exact .trans (exports_exs _ s) (.trans (exports_closeSlot ..) (exports_prepareSlot ..))
  · exact exports_exs ..
theorem exports_exportModeStart (s) : Exports s (exportModeStart s) := by
  unfold exportModeStart; dsimp only
  refine .trans ?_ (exports_formRecord _)
  refine .trans ?_ (exports_exs ..)
  split
  · exact .trans (exports_exs _ s) (exports_swapTables ..)
  · exact exports_exs ..
theorem exports_exportModeStop (s) : Exports s (exportModeStop s) := by
  unfold exportModeStop; dsimp only
  exact .trans (exports_changeExport ..) (.trans (exports_exs ..) (exports_formRecord _))

/-! ## The gas balance -/

/-- Only grades and their baselines, conditions and outputs change. -/
def Evaluates (s t : State) : Prop :=
  ∃ g v w d, t = { s with gbu := { s.gbu with grades := g, supplyBase := v, worksBase := w }, cnu := d }

theorem Evaluates.refl (s : State) : Evaluates s s := ⟨_, _, _, _, rfl⟩
theorem Evaluates.trans {a b c : State} : Evaluates a b → Evaluates b c → Evaluates a c := by
  rintro ⟨_, _, _, _, rfl⟩ ⟨_, _, _, _, rfl⟩; exact ⟨_, _, _, _, rfl⟩
theorem Signals.evaluates {s t : State} : Signals s t → Evaluates s t := by rintro ⟨_, rfl⟩; exact ⟨_, _, _, _, rfl⟩
theorem evaluates_setGrade (g e s) : Evaluates s (setGrade g e s) := ⟨_, _, _, _, rfl⟩
theorem evaluates_gradeSetTo (f u c g s) : Evaluates s (gradeSetTo f u c g s) := ⟨_, _, _, _, rfl⟩
theorem evaluates_evaluateGrade (b s g) : Evaluates s (evaluateGrade b s g) := by
  unfold evaluateGrade; dsimp only; split
  · exact evaluates_setGrade ..
  · refine .trans ?_ (signals_reportClamp ..).evaluates
    refine .trans ?_ (signals_reportClamp ..).evaluates
    exact ⟨_, _, _, _, rfl⟩
theorem evaluates_evaluateGrades (b s) : Evaluates s (evaluateGrades b s) :=
  .trans (foldl_related .refl .trans (evaluates_evaluateGrade b) _ s) (signals_followHolders ..).evaluates

/-- Only the GBU, the drive channels, the step items kept by the EXS, conditions and outputs change. -/
def Balances (s t : State) : Prop :=
  ∃ g v i d, t = { s with gbu := g, dcu := { channels := v }, exs := { s.exs with stepItems := i }, cnu := d }

theorem Balances.refl (s : State) : Balances s s := ⟨_, _, _, _, rfl⟩
theorem Balances.trans {a b c : State} : Balances a b → Balances b c → Balances a c := by
  rintro ⟨_, _, _, _, rfl⟩ ⟨_, _, _, _, rfl⟩; exact ⟨_, _, _, _, rfl⟩
theorem Signals.balances {s t : State} : Signals s t → Balances s t := by rintro ⟨_, rfl⟩; exact ⟨_, _, _, _, rfl⟩
theorem Evaluates.balances {s t : State} : Evaluates s t → Balances s t := by
  rintro ⟨_, _, _, _, rfl⟩; exact ⟨_, _, _, _, rfl⟩
theorem balances_setConsumers (v s) : Balances s (setConsumers v s) := ⟨_, _, _, _, rfl⟩
theorem balances_writeAllocation (b x w f r s) : Balances s (writeAllocation b x w f r s) := ⟨_, _, _, _, rfl⟩
theorem balances_allocate (b s) : Balances s (allocate b s) := by
  unfold allocate; dsimp only
  refine .trans ?_ (signals_followFlaring ..).balances
  refine .trans ?_ (balances_writeAllocation ..)
  refine .trans ?_ (signals_raiseShort ..).balances
  refine .trans ?_ (signals_raiseReleased ..).balances
  exact .trans (balances_setConsumers ..) (signals_followBlocked ..).balances
theorem balances_balanceBoundary (b s) : Balances s (balanceBoundary b s) :=
  .trans (evaluates_evaluateGrades b s).balances (balances_allocate ..)

/-! ## Booking, retirement and the retire queue -/

/-- Only the directory, the lookaside and the suspense of the ABU change. -/
def Books (a b : Abu) : Prop := ∃ d l u, b = { a with directory := d, lookaside := l, suspense := u }

theorem Books.refl (a : Abu) : Books a a := ⟨_, _, _, rfl⟩
theorem Books.trans {a b c : Abu} : Books a b → Books b c → Books a c := by
  rintro ⟨_, _, _, rfl⟩ ⟨_, _, _, rfl⟩; exact ⟨_, _, _, rfl⟩

/-- A resolution changes the lookaside alone. -/
theorem resolveKey_eq (key a) : (resolveKey key a).2 = { a with lookaside := (resolveKey key a).2.lookaside } := by
  have h : ∀ a, (resolveMiss key a).2 = { a with lookaside := (resolveMiss key a).2.lookaside } := by
    intro a; unfold resolveMiss; split <;> rfl
  unfold resolveKey; split
  · exact h a
  · split
    · rfl
    · rw [h]

/-- A booking changes directory, lookaside, suspense, conditions and outputs alone. -/
theorem books_bookReading (r f s) : ∃ a d, Books s.abu a ∧ bookReading r f s = { s with abu := a, cnu := d } := by
  have h := resolveKey_eq r.key s.abu
  unfold bookReading; split
  · exact ⟨_, _, ⟨_, _, _, rfl⟩, rfl⟩
  · dsimp only
    generalize resolveKey r.key s.abu = x at h ⊢
    obtain ⟨_ | loc, a⟩ := x <;> dsimp only at h ⊢
    · rw [h]; exact ⟨_, _, ⟨_, _, _, rfl⟩, rfl⟩
    · split <;> (rw [h]; exact ⟨_, _, ⟨_, _, _, rfl⟩, rfl⟩)

/-- Only meters, the retire queue, the ABU, conditions and outputs change. -/
def Retires (s t : State) : Prop :=
  ∃ m q a d, t = { s with hmu := { s.hmu with meters := m, queue := q }, abu := a, cnu := d }

theorem Retires.refl (s : State) : Retires s s := ⟨_, _, _, _, rfl⟩
theorem Retires.trans {a b c : State} : Retires a b → Retires b c → Retires a c := by
  rintro ⟨_, _, _, _, rfl⟩ ⟨_, _, _, _, rfl⟩; exact ⟨_, _, _, _, rfl⟩
theorem Signals.retires {s t : State} : Signals s t → Retires s t := by rintro ⟨_, rfl⟩; exact ⟨_, _, _, _, rfl⟩
theorem retires_setMeter (m x s) : Retires s (setMeter m x s) := ⟨_, _, _, _, rfl⟩
theorem retires_setQueue (q s) : Retires s (setQueue q s) := ⟨_, _, _, _, rfl⟩
theorem retires_startClose (p s) : Retires s (startClose p s) := ⟨_, _, _, _, rfl⟩
theorem retires_bookReading (r f s) : Retires s (bookReading r f s) := by
  obtain ⟨a, d, -, h⟩ := books_bookReading r f s
  exact ⟨_, _, a, d, h⟩
theorem retires_finishReading (r s) : Retires s (finishReading r s).2 := by
  unfold finishReading; dsimp only; split <;> exact ⟨_, _, _, _, rfl⟩
theorem retires_finishPass (force q w s) : Retires s (finishPass force q w s).2 := by
  induction q generalizing w s with
  | nil => exact .refl s
  | cons e q ih =>
    cases e with
    | marker p => exact ih ..
    | reading r =>
      unfold finishPass; repeat' split
      · exact ih ..
      · exact .trans (retires_finishReading r s) (ih ..)
      · exact ih ..
theorem retires_retireRun (q s) : Retires s (retireRun q s) := by
  induction q generalizing s with
  | nil => exact retires_setQueue ..
  | cons e q ih =>
    cases e with
    | marker p => exact .trans (retires_startClose p s) (ih _)
    | reading r =>
      unfold retireRun; split
      · exact .trans (retires_bookReading ..) (ih _)
      · exact retires_setQueue ..
theorem retires_settleQueue (s) : Retires s (settleQueue s) := .trans (retires_finishPass ..) (retires_retireRun ..)
theorem retires_flushQueue (s) : Retires s (flushQueue s) := .trans (retires_finishPass ..) (retires_retireRun ..)
theorem retires_countDownQueue (n s) : Retires s (countDownQueue n s) :=
  .trans (retires_setQueue ..) (retires_settleQueue _)
theorem retires_freshNotice (r s) : Retires s (freshNotice r s) := by
  unfold freshNotice; split
  · exact .trans (retires_setQueue ..) (retires_settleQueue _)
  · exact .refl s
theorem retires_meterBoundary (t s m) : Retires s (meterBoundary t s m) := by
  unfold meterBoundary; dsimp only; repeat' split
  all_goals exact ⟨_, _, _, _, rfl⟩
theorem retires_meterBoundaries (b s) : Retires s (meterBoundaries b s) :=
  foldl_related .refl .trans (retires_meterBoundary b.ended) _ s

/-! ## Field inputs -/

/-- Only sample points, conditions and outputs change. -/
def Ages (s t : State) : Prop := ∃ p d, t = { s with fiu := { s.fiu with points := p }, cnu := d }

theorem ages_agePoints (s) : Ages s (agePoints s) := by
  unfold agePoints
  obtain ⟨d, h⟩ := signals_followSamples
    { s with fiu := { s.fiu with points := each s.fiu.points fun _ p => agePoint p } }
  exact ⟨_, d, h⟩
theorem ages_takeBad (sp s) : Ages s (takeBad sp s) := by
  unfold takeBad
  obtain ⟨d, h⟩ := signals_followSamples (setPoint sp { s.fiu.points[sp] with quality := .failed } s)
  exact ⟨_, d, h⟩

/-- Only event lines, drive channels, the demand record, capture units, the capture log, conditions and outputs
change. -/
def Reports (s t : State) : Prop :=
  ∃ n v r u l d, t = { s with
    fiu := { s.fiu with lines := n }
    dcu := { channels := v }
    exs := { s.exs with record := r }
    sck := { s.sck with units := u, log := l }
    cnu := d }

theorem Reports.refl (s : State) : Reports s s := ⟨_, _, _, _, _, _, rfl⟩
theorem Reports.trans {a b c : State} : Reports a b → Reports b c → Reports a c := by
  rintro ⟨_, _, _, _, _, _, rfl⟩ ⟨_, _, _, _, _, _, rfl⟩; exact ⟨_, _, _, _, _, _, rfl⟩
theorem Captures.reports {s t : State} : Captures s t → Reports s t := by
  rintro ⟨_, _, _, rfl⟩; exact ⟨_, _, _, _, _, _, rfl⟩
theorem reports_reportChange (l v s) : Reports s (reportChange l v s) := by
  unfold reportChange; dsimp only
  obtain ⟨u, g, d, h⟩ := captures_triggerUnits (watchesChange l v) (.event l (decide (v = .high))) s
  rw [h]
  unfold gridHoldChange; split <;> exact ⟨_, _, _, _, _, _, rfl⟩
theorem reports_sampleStep (levels s l) : Reports s (sampleStep levels s l) := by
  unfold sampleStep; dsimp only; split
  · exact .trans ⟨_, _, _, _, _, _, rfl⟩ (reports_reportChange ..)
  · exact ⟨_, _, _, _, _, _, rfl⟩
theorem reports_sampleLines (levels s) : Reports s (sampleLines levels s) :=
  foldl_related .refl .trans (reports_sampleStep levels) _ s

/-- Only the sensor port, sample points, meters, the retire queue, the ABU, conditions and outputs change. -/
def Receives (s t : State) : Prop :=
  ∃ r p m q a d, t = { s with
    fiu := { s.fiu with sensor := r, points := p }
    hmu := { s.hmu with meters := m, queue := q }
    abu := a
    cnu := d }

theorem Receives.refl (s : State) : Receives s s := ⟨_, _, _, _, _, _, rfl⟩
theorem Receives.trans {a b c : State} : Receives a b → Receives b c → Receives a c := by
  rintro ⟨_, _, _, _, _, _, rfl⟩ ⟨_, _, _, _, _, _, rfl⟩; exact ⟨_, _, _, _, _, _, rfl⟩
theorem Signals.receives {s t : State} : Signals s t → Receives s t := by
  rintro ⟨_, rfl⟩; exact ⟨_, _, _, _, _, _, rfl⟩
theorem Ages.receives {s t : State} : Ages s t → Receives s t := by
  rintro ⟨_, _, rfl⟩; exact ⟨_, _, _, _, _, _, rfl⟩
theorem Retires.receives {s t : State} : Retires s t → Receives s t := by
  rintro ⟨_, _, _, _, rfl⟩; exact ⟨_, _, _, _, _, _, rfl⟩
theorem receives_setSensor (r s) : Receives s (setSensor r s) := ⟨_, _, _, _, _, _, rfl⟩
theorem receives_takeGood (sp v s) : Receives s (takeGood sp v s) := by
  unfold takeGood
  exact .trans ⟨_, _, _, _, _, _, rfl⟩ (retires_freshNotice ..).receives
theorem receives_judgeRecord (r s) : Receives s (judgeRecord r s) := by
  unfold judgeRecord; dsimp only; repeat' split
  all_goals first
    | exact .refl s
    | exact receives_takeGood ..
    | exact (ages_takeBad ..).receives
    | exact (signals_raise ..).receives
theorem receives_sensorByte (s b) : Receives s (sensorByte s b) := by
  unfold sensorByte; repeat' split
  · exact receives_setSensor ..
  · exact .refl s
  · exact receives_setSensor ..
  · exact .trans (receives_setSensor ..) (receives_judgeRecord ..)
theorem receives_breakRecord (s) : Receives s (breakRecord s) := by
  unfold breakRecord; split
  · exact .refl s
  · exact .trans (receives_setSensor ..) (signals_raise ..).receives

/-! ## Ticks -/

/-- The link, the queue of commands, pulse channels, event lines and the sensor port stand. -/
def Ticks (s t : State) : Prop :=
  t.pending = s.pending ∧ t.lkp = s.lkp ∧ t.fiu = { s.fiu with points := t.fiu.points }

theorem Ticks.trans {a b c : State} : Ticks a b → Ticks b c → Ticks a c := by
  rintro ⟨h1, h2, h3⟩ ⟨k1, k2, k3⟩
  exact ⟨k1.trans h1, k2.trans h2, by rw [k3, h3]⟩
theorem Ages.ticks {s t : State} : Ages s t → Ticks s t := by rintro ⟨_, _, rfl⟩; exact ⟨rfl, rfl, rfl⟩
theorem Retires.ticks {s t : State} : Retires s t → Ticks s t := by
  rintro ⟨_, _, _, _, rfl⟩; exact ⟨rfl, rfl, rfl⟩
theorem Expires.ticks {s t : State} : Expires s t → Ticks s t := by
  rintro ⟨_, _, _, _, rfl⟩; exact ⟨rfl, rfl, rfl⟩
theorem Exports.ticks {s t : State} : Exports s t → Ticks s t := by
  rintro ⟨_, _, _, _, rfl⟩; exact ⟨rfl, rfl, rfl⟩
theorem Balances.ticks {s t : State} : Balances s t → Ticks s t := by
  rintro ⟨_, _, _, _, rfl⟩; exact ⟨rfl, rfl, rfl⟩
theorem ticks_balanceAndExport (o b s) : Ticks s (balanceAndExport o b s) := by
  unfold balanceAndExport; split
  · exact .trans (exports_exportBoundary b s).ticks (balances_balanceBoundary ..).ticks
  · exact .trans (balances_balanceBoundary b s).ticks (exports_exportBoundary ..).ticks
theorem ticks_takeBoundary (o s) : Ticks s (takeBoundary o s) := by
  unfold takeBoundary; dsimp only
  refine .trans ?_ (retires_meterBoundaries ..).ticks
  refine .trans (b := { s with sck := advanceClock s.sck }) ⟨rfl, rfl, rfl⟩ ?_
  unfold timersAndBlocks; split
  · exact .trans (expires_stepStart _).ticks (ticks_balanceAndExport ..)
  · exact .trans (ticks_balanceAndExport ..) (expires_stepStart _).ticks
theorem ticks_tick (o s) : Ticks s (tick o s) := by
  unfold tick; split
  · unfold boundaryTick; dsimp only
    refine .trans (b := if o.fiuFirst then agePoints s else s) ?_ ?_
    · split
      · exact (ages_agePoints s).ticks
      · exact ⟨rfl, rfl, rfl⟩
    generalize (if o.fiuFirst then agePoints s else s) = s1
    have hb : Ticks s1 (if o.hmuFirst then takeBoundary o (if o.hmuFirst then countDownQueue s1.hmu.queue.length s1
        else s1) else countDownQueue (if o.hmuFirst then countDownQueue s1.hmu.queue.length s1 else s1).hmu.queue.length
          (takeBoundary o (if o.hmuFirst then countDownQueue s1.hmu.queue.length s1 else s1))) := by
      split
      · exact .trans (retires_countDownQueue ..).ticks (ticks_takeBoundary ..)
      · exact .trans (ticks_takeBoundary ..) (retires_countDownQueue ..).ticks
    split
    · exact hb
    · exact hb.trans (ages_agePoints _).ticks
  · unfold plainTick; dsimp only
    exact .trans (.trans ⟨rfl, rfl, rfl⟩ (ages_agePoints _).ticks) (retires_countDownQueue ..).ticks

end Sys2Proof.Machine
end

