-- ==== Sys2Proof/Laws/Link.lean ====
section
/-!
SUPPORT. What a byte of a frame can do, once: it breaks the frame, completes it or is collected; and a frame taken for
dispatch is the command that it spells (R166 to R168).
-/
namespace Sys2Proof.Machine

variable {b : Byte} {l f : List Byte} {s : State}

theorem requestMeanings_eq : requestMeanings = requestTable.map fun c p => exec (c p) := rfl

/-- A frame taken for dispatch runs the command that its KIND and its payload spell (R168). -/
theorem dispatchFrame_eq_exec (kind : Byte) (p : List Byte) (s : State) :
    dispatchFrame kind p s = exec (requestOf kind p) s := by
  unfold dispatchFrame requestOf
  cases kind.toNat with
  | zero => rfl
  | succ k =>
    simp only [requestMeanings_eq, List.getElem?_map]
    cases requestTable[k]? <;> rfl

/-- A complete frame with the overrun mark is discarded (R167). -/
theorem completeFrame_overrun (h : linkOverrun s.lkp = true) :
    completeFrame f s = .next (overrunFrame (kindOf f) s) := by simp [completeFrame, discardFrame, h]

/-- A complete frame without that mark but with a wrong CRC is discarded (R167). -/
theorem completeFrame_badCrc (h : linkOverrun s.lkp = false) (hc : crcRight f = false) :
    completeFrame f s = .next (breakFrame 1 s) := by simp [completeFrame, discardFrame, h, hc]

/-- Every other complete frame is dispatched (R167). -/
theorem completeFrame_sound (h : linkOverrun s.lkp = false) (hc : crcRight f = true) :
    completeFrame f s = exec (requestOf (kindOf f) (payloadOf f)) s := by
  simp [completeFrame, h, hc, dispatchFrame_eq_exec]

/-- The second byte of a LEN that is not permitted breaks the frame (R166). -/
theorem collectByte_badLen {len : Nat} (h : lenOf (l ++ [b]) = some len) (hl : lenPermitted len = false) :
    collectByte b l s = .next (breakFrame 2 s) := by simp [collectByte, h, hl]

/-- The byte that completes a frame has it judged (R166); a complete frame has a permitted LEN. -/
theorem collectByte_complete (hl : ∀ len, lenOf (l ++ [b]) = some len → lenPermitted len = true)
    (h : isComplete (l ++ [b]) = true) : collectByte b l s = completeFrame (l ++ [b]) s := by
  cases hb : lenOf (l ++ [b]) with
  | none => simp [collectByte, hb, h]
  | some len => simp [collectByte, hb, h, hl len hb]

/-- Every other byte is collected (R166). -/
theorem collectByte_collects (hl : ∀ len, lenOf (l ++ [b]) = some len → lenPermitted len = true)
    (h : isComplete (l ++ [b]) = false) :
    collectByte b l s = .next { s with lkp := { s.lkp with rx := .collecting (l ++ [b]) } } := by
  cases hb : lenOf (l ++ [b]) with
  | none => simp [collectByte, hb, h]
  | some len => simp [collectByte, hb, h, hl len hb]

end Sys2Proof.Machine
end

