-- ==== Sys2Proof/Laws/Requests.lean ====
section
/-!
SUPPORT. How a request frame is taken, by the three cases of R167 and R168, and what the shared judgements answer.
-/
namespace Sys2Proof.Machine

variable {α : Type} {kind : Byte} {parse : List Byte → Option α} {judge : α → State → Answer} {p : List Byte}
  {s : State}

/-- A frame with the overrun mark is discarded (R167). -/
theorem request_overrun (h : linkOverrun s.lkp = true) :
    request kind parse judge p s = .next (overrunFrame kind s) := by simp [request, h]

/-- A payload of a wrong size is answered LENGTH (R168). -/
theorem request_length (h : Heard s) (hp : parse p = none) :
    request kind parse judge p s = .next (s.answer kind .length []) := by simp [request, h, hp]

/-- Else the owning rule judges the fields (R168). -/
theorem request_judged {f : α} (h : Heard s) (hp : parse p = some f) :
    request kind parse judge p s = .next (reply kind (judge f s) s) := by simp [request, h, hp]

@[simp] theorem reply_done (c q t) : reply kind (.done c q t) s = t.answer kind c q := rfl
@[simp] theorem reply_refuse (c q) : reply kind (.refuse c q) s = s.answer kind c q := rfl
@[simp] theorem reply_okWith (q t) : reply kind (okWith q t) s = t.answer kind .ok q := rfl
@[simp] theorem reply_refused (c) : reply kind (refused c) s = s.answer kind c [] := rfl
@[simp] theorem reply_rangeItem (k) : reply kind (rangeItem k) s = s.answer kind .range [BitVec.ofNat 8 k] := rfl

theorem unlessRun_run {a : Answer} (h : s.lkp.mode = .run) : unlessRun s a = refused .locked := by simp [unlessRun, h]
theorem unlessRun_setup {a : Answer} (h : s.lkp.mode = .setup) : unlessRun s a = a := by simp [unlessRun, h]

/-- A read by first number and count that lies in its range is answered. -/
theorem checkRange_pass {n m first count : Nat} {a : Answer} (h1 : first < n) (h2 : 1 ≤ count) (h3 : count ≤ m)
    (h4 : first + count ≤ n) : checkRange n m first count a = a := by
  unfold checkRange
  rw [if_neg (by omega), if_neg (by omega)]

theorem asFin_val {n : Nat} (i : Fin n) : asFin n i.1 = some i := by simp [asFin]
theorem asFin_none {n k : Nat} (h : n ≤ k) : asFin n k = none := by simp [asFin]; omega
theorem asFin_eq_some {n k : Nat} {i : Fin n} : asFin n k = some i ↔ k = i.1 := by
  unfold asFin
  split
  · simp [Fin.ext_iff]
  · constructor
    · intro h; cases h
    · intro h; omega

/-- The kind number of a reply to a known kind (R168). -/
theorem replyKind_known (h : kind.toNat < 128) : replyKind kind = kind + 0x80 := by
  have : kind.msb = false := by rw [BitVec.msb_eq_decide]; simp; omega
  simp [replyKind, this]

end Sys2Proof.Machine
end

