-- ==== Sys2Proof/Laws/Operations.lean ====
section
/-!
SUPPORT. What the shared operations of the blocks give: bindings by role, tables of channels, changes of the export
state and of the plan, and the run of a queue.
-/
namespace Sys2Proof.Machine

/-! ## Tables -/

/-- The first index of a table at which `p` holds. -/
theorem find_finRange {n : Nat} {p : Fin n → Bool} {i : Fin n} :
    (List.finRange n).find? p = some i ↔ p i = true ∧ ∀ j < i, p j = false := by
  rw [List.find?_eq_some_iff_getElem]
  constructor
  · rintro ⟨hp, k, hk, h, hlt⟩
    simp only [List.getElem_finRange] at h hlt
    subst h
    refine ⟨hp, fun j hj => ?_⟩
    have := hlt j.1 (by simpa [Fin.lt_def] using hj)
    simpa using this
  · rintro ⟨hp, hlt⟩
    refine ⟨hp, i.1, by simp, by simp, fun j hj => ?_⟩
    have := hlt ⟨j, by omega⟩ (by simpa [Fin.lt_def] using hj)
    simpa using this

theorem find_finRange_none {n : Nat} {p : Fin n → Bool} :
    (List.finRange n).find? p = none ↔ ∀ i, p i = false := by simp [List.find?_eq_none]

theorem find_finRange_isSome {n : Nat} {p : Fin n → Bool} :
    ((List.finRange n).find? p).isSome = true ↔ ∃ i, p i = true := by simp [List.find?_isSome]

/-- The holder of a role is its lowest-numbered channel that is no odd partner (R23). -/
theorem holderOf_eq_some {v : Vector PulseChannel 24} {role : PulseRole} {ch : Fin 24} :
    holderOf v role = some ch ↔
      (v[ch].role = role ∧ isPulsePartner v ch = false) ∧
      ∀ c < ch, ¬ (v[c].role = role ∧ isPulsePartner v c = false) := by
  unfold holderOf
  rw [find_finRange]
  simp

/-- The point that holds a role is the lowest-numbered one (R30). -/
theorem pointOf_eq_some {v : Vector SamplePoint 32} {role : PointRole} {sp : Fin 32} :
    pointOf v role = some sp ↔ v[sp].role = role ∧ ∀ c < sp, v[c].role ≠ role := by
  unfold pointOf
  rw [find_finRange]
  simp

/-! ## Drive channels -/

@[simp] theorem putIdle_self (v : Vector DriveChannel 16) (ch) (c : DriveChannel) :
    (putIdle v ch c)[ch] = { c with pin := c.idle } := by
  have h : ch + 1 ≠ ch := by intro h; simp at h
  unfold putIdle; dsimp only; split
  · rw [put_getElem_ne _ _ h, put_getElem_self]
  · exact put_getElem_self ..

theorem putIdle_ne (v : Vector DriveChannel 16) {ch k : Fin 16} (c : DriveChannel) (h1 : k ≠ ch) (h2 : k ≠ ch + 1) :
    (putIdle v ch c)[k] = v[k] := by
  unfold putIdle; dsimp only; split
  · rw [put_getElem_ne _ _ h2.symm, put_getElem_ne _ _ h1.symm]
  · exact put_getElem_ne _ _ h1.symm

@[simp] theorem putPair_self (v : Vector DriveChannel 16) (ch) (c : DriveChannel) :
    (putPair v ch c)[ch] = { c with pin := levelWhen (raiseDriven c) c } := by
  have h : ch + 1 ≠ ch := by intro h; simp at h
  unfold putPair
  rw [put_getElem_ne _ _ h, put_getElem_self]

theorem putPair_ne (v : Vector DriveChannel 16) {ch k : Fin 16} (c : DriveChannel) (h1 : k ≠ ch) (h2 : k ≠ ch + 1) :
    (putPair v ch c)[k] = v[k] := by
  unfold putPair
  rw [put_getElem_ne _ _ h2.symm, put_getElem_ne _ _ h1.symm]

/-- A stopped channel at its own number (R86). -/
theorem stopChannel_self (v : Vector DriveChannel 16) (ch) (h : v[ch].state ≠ .stopped) :
    (stopChannel v ch)[ch] =
      { abandonPair v[ch] with
        state := .stopped, count := 0, tick := 0, divider := 0, active := v[ch].staged, pin := v[ch].idle } := by
  unfold stopChannel; rw [if_neg h, putIdle_self]; rfl

/-- Setpoints and positions reach channel `ch` and, of a pair, its lower line alone (R84). -/
theorem applySetpoint_ne (v : Vector DriveChannel 16) {ch k : Fin 16} (p : Nat) (h1 : k ≠ ch) (h2 : k ≠ ch + 1) :
    (applySetpoint v ch p)[k] = v[k] := by
  unfold applySetpoint
  repeat' split
  · exact put_getElem_ne _ _ h1.symm
  · exact put_getElem_ne _ _ h1.symm
  · exact putPair_ne _ _ h1 h2
  · exact put_getElem_ne _ _ h1.symm

/-! ## The export state and the plan -/

/-- What a change of the export state makes of the EXS (R110, R121). -/
theorem changeExport_exs (st k t s) : (changeExport st k t s).exs =
    if s.exs.phase = st then s.exs
    else { s.exs with phase := st, recoveries := if touchesPassive s.exs.phase st then 0 else s.exs.recoveries } := by
  unfold changeExport; split
  · rfl
  · dsimp only
    obtain ⟨u, l, d, h⟩ := captures_triggerUnits (fun t => decide (t = Trigger.exportChange)) (.exportChange st)
      (followStarved t (State.follow condExportHalted (decide (st = .halted)) k t
        (State.follow condExportPassive (decide (st = .passive)) s.exs.slotInHand.1 t { s with exs := { s.exs with
          phase := st, recoveries := if touchesPassive s.exs.phase st then 0 else s.exs.recoveries } })))
    rw [h]; rfl

@[simp] theorem changePlan_exs (p t s) : (changePlan p t s).exs = { s.exs with plan := p } := rfl

/-- A swap (R104). -/
@[simp] theorem swapTables_exs (t s) : (swapTables t s).exs =
    { s.exs with
      current := s.exs.nextTab, nextTab := Vector.replicate 96 0, written := Vector.replicate 96 false, grace := 0
      plan := .valid } := rfl

/-- NEXT is COMPLETE where every slot is written (R102). -/
theorem nextComplete_iff (e : Exs) : nextComplete e = true ↔ ∀ i : Fin 96, e.written[i] = true := by
  unfold nextComplete
  simp only [List.all_eq_true, Vector.mem_toList_iff, id]
  constructor
  · intro h i; exact h _ (Vector.getElem_mem i.2)
  · intro h x hx
    obtain ⟨i, hi, rfl⟩ := Vector.mem_iff_getElem.1 hx
    exact h ⟨i, hi⟩

/-! ## The retire queue -/

/-- What a finishing makes of a reading, and of its meter: the carry (R138). -/
@[simp] theorem finishReading_fst (r s) :
    let x := finishedFields r s.hmu.meters[r.meter] (pointValue s.fiu.points (.supplyTemp r.meter))
      (pointValue s.fiu.points (.returnTemp r.meter))
    (finishReading r s).1 = { r with finished := some x.1 } := rfl

@[simp] theorem finishReading_abu (r s) : (finishReading r s).2.abu = s.abu := by
  unfold finishReading; dsimp only; split <;> rfl
@[simp] theorem finishReading_queue (r s) : (finishReading r s).2.hmu.queue = s.hmu.queue := by
  unfold finishReading; dsimp only; split <;> rfl
@[simp] theorem finishReading_meters (r s) :
    let x := finishedFields r s.hmu.meters[r.meter] (pointValue s.fiu.points (.supplyTemp r.meter))
      (pointValue s.fiu.points (.returnTemp r.meter))
    (finishReading r s).2.hmu.meters = put s.hmu.meters r.meter { s.hmu.meters[r.meter] with carry := x.2 } := by
  unfold finishReading; dsimp only; split <;> rfl

@[simp] theorem finishPass_abu (force q w s) : (finishPass force q w s).2.abu = s.abu := by
  induction q generalizing w s with
  | nil => rfl
  | cons e q ih =>
    cases e with
    | marker p => exact ih ..
    | reading r =>
      unfold finishPass; repeat' split
      · exact ih ..
      · exact (ih ..).trans (finishReading_abu ..)
      · exact ih ..

/-- A pass changes no entry but by finishing it, so that the queue keeps its length. -/
@[simp] theorem finishPass_length (force q w s) : (finishPass force q w s).1.length = q.length := by
  induction q generalizing w s with
  | nil => rfl
  | cons e q ih =>
    cases e with
    | marker p => simp [finishPass, ih]
    | reading r => unfold finishPass; repeat' split <;> simp [ih]

/-- What stays in the queue is a tail of it, and begins, if at all, with a WAITING reading (R139). -/
theorem retireRun_queue (q s) : (retireRun q s).hmu.queue <:+ q ∧
    ∀ e ∈ (retireRun q s).hmu.queue.head?, isWaiting e = true := by
  induction q generalizing s with
  | nil => simp [retireRun]
  | cons e q ih =>
    cases e with
    | marker p => exact ⟨(ih _).1.trans (List.suffix_cons ..), (ih _).2⟩
    | reading r =>
      unfold retireRun; split
      · exact ⟨(ih _).1.trans (List.suffix_cons ..), (ih _).2⟩
      · rename_i h
        exact ⟨by simp, by simp [isWaiting, h]⟩

/-! ## The codes of a byte -/

/-- Named values are numbered without a double, so that a code determines its name (R165). -/
theorem bandCode_inj {a b : Band} : a.code = b.code → a = b := by cases a <;> cases b <;> decide
theorem pulseRoleOf_code (r : PulseRole) : pulseRoleOf (pulseRoleCode r) = some r := by
  cases r with
  | unassigned => rfl
  | exportEnergy => rfl
  | gasSupply g => revert g; decide
  | gasWorks g => revert g; decide
  | heatFlow m => revert m; decide
theorem pointRoleOf_code (r : PointRole) : pointRoleOf (pointRoleCode r) = some r := by
  cases r with
  | unassigned => rfl
  | holderLevel g => revert g; decide
  | calorific g => revert g; decide
  | supplyTemp m => revert m; decide
  | returnTemp m => revert m; decide
theorem driveSourceOf_code (r : DriveSource) : driveSourceOf (driveSourceCode r) = some r := by
  cases r with
  | manual => rfl
  | consumerMain n => revert n; decide
  | consumerSupp n => revert n; decide
  | flare g => revert g; decide

end Sys2Proof.Machine
end

