-- ==== Sys2Proof/Tests/Slice0.lean ====
section
/-!
SUPPORT. Tests: ill-formed commands are refused by well-formedness, payloads and frames read as the manual writes them,
one step each of the manual's worked examples (the expected values are the manual's), and for every statement of
Obligations.lean that has hypotheses a state and operands that meet them, at boundary values.
-/
namespace Sys2Proof.Tests
open Sys2Proof Sys2Proof.Machine

set_option Elab.async false

/-! ## Small states -/

/-- The next state, or the state itself where there is none. -/
def after (c : Instr) (s : State) : State := match exec c s with | .next t => t | .fault _ => s | .refused _ => s

/-- The result code and the payload of the reply being sent. -/
def answered (s : State) : Option (ResultCode × List Byte) := s.lkp.reply.map fun r => (r.code, r.payload)

/-- Operations in which every block comes after the boundary. -/
def late : TickOrder := ⟨false, false, false, false⟩

/-- Operations in which every block comes before the boundary, and the timers first. -/
def early : TickOrder := ⟨true, true, true, true⟩

/-- In RUN, at some whole second and millisecond of a step of 10 s. -/
def running (ticks ms : Nat) : State :=
  { State.reset with
    lkp := { State.reset.lkp with mode := .run }
    sck := { State.reset.sck with running := true, ticks := ticks, phaseMs := ms } }

/-- In RUN, in the last second of a step at this position. -/
def due (pos : Tag) : State := { running 9 0 with sck := { (running 9 0).sck with pos := pos } }

/-- The state with one pulse channel replaced. -/
def withPulse (ch : Fin 24) (c : PulseChannel) (s : State) : State :=
  { s with fiu := { s.fiu with pulses := put s.fiu.pulses ch c } }

/-- The state with one sample point replaced. -/
def withPoint (sp : Fin 32) (p : SamplePoint) (s : State) : State :=
  { s with fiu := { s.fiu with points := put s.fiu.points sp p } }

/-- The state with one event line replaced. -/
def withLine (l : Fin 8) (x : EventLine) (s : State) : State :=
  { s with fiu := { s.fiu with lines := put s.fiu.lines l x } }

/-- The state with one drive channel replaced. -/
def withDrive (ch : Fin 16) (c : DriveChannel) (s : State) : State :=
  { s with dcu := { s.dcu with channels := put s.dcu.channels ch c } }

/-- The state with one consumer replaced. -/
def withConsumer (n : Fin 12) (c : Consumer) (s : State) : State :=
  { s with gbu := { s.gbu with consumers := put s.gbu.consumers n c } }

/-- The state with one grade replaced. -/
def withGrade (g : Fin 3) (e : GradeEntry) (s : State) : State :=
  { s with gbu := { s.gbu with grades := put s.gbu.grades g e } }

/-- The state with one meter replaced. -/
def withMeter (m : Fin 16) (x : Meter) (s : State) : State :=
  { s with hmu := { s.hmu with meters := put s.hmu.meters m x } }

/-- The state with one directory entry replaced. -/
def withEntry (i : Fin 256) (e : DirEntry) (s : State) : State :=
  { s with abu := { s.abu with directory := put s.abu.directory i e } }

/-- A pulse channel with a role, a scale and a counter. -/
def pulse (role : PulseRole) (scale counter : Nat) : PulseChannel :=
  { PulseChannel.cold with role := role, scale := scale, counter := counter }

/-- A GOOD sample point with a role and a value. -/
def point (role : PointRole) (value : Int) : SamplePoint :=
  { SamplePoint.cold with role := role, value := value, quality := .good }

/-- A valid account. -/
def account (key : Nat) (secondary : Bool) (tariff : Fin 8) : DirEntry :=
  { DirEntry.cold with valid := true, key := key, secondary := secondary, tariff := tariff }

/-! ## Well-formedness: each check refuses an ill-formed command -/

theorem test_payload_too_long : Instr.wellFormed (.clockSet (List.replicate 1023 0)) = false := by decide +kernel
theorem test_longest_payload : Instr.wellFormed (.status (List.replicate 1022 0)) = true := by decide +kernel
theorem test_unknown_kind_known :
    Instr.wellFormed (.unknownKind 0x01 []) = false ∧ Instr.wellFormed (.unknownKind 0x46 []) = false := by decide
theorem test_unknown_kind_long : Instr.wellFormed (.unknownKind 0x47 (List.replicate 1023 0)) = false :=
  by decide +kernel
theorem test_bad_len_permitted :
    Instr.wellFormed (.linkFrameBroken (.badLen 1)) = false ∧
    Instr.wellFormed (.linkFrameBroken (.badLen 1023)) = false := by decide
theorem test_discarded_too_long : Instr.wellFormed (.frameDiscarded (List.replicate 1028 0)) = false :=
  by decide +kernel
theorem test_record_empty : Instr.wellFormed (.sensorRecord []) = false := by decide
theorem test_record_too_long : Instr.wellFormed (.sensorRecord (List.replicate 6 0)) = false := by decide
theorem test_broken_record_full : Instr.wellFormed (.sensorRecordBroken (List.replicate 5 0) .stop) = false :=
  by decide

/-- Every request kind refuses a payload of 1,023 bytes. -/
theorem test_every_request_payload_bounded :
    requestTable.all (fun c => !(c (List.replicate 1023 0)).wellFormed) = true := by decide +kernel

/-! ## Bytes, CRCs and frames (R165, Tables 9-1, 9-2) -/

/-- The check values of the two CRCs that Tables 9-1 and 9-2 name, over the digits 1 to 9. -/
theorem test_crc16 : crc16 [0x31, 0x32, 0x33, 0x34, 0x35, 0x36, 0x37, 0x38, 0x39] = 0x29B1 := by decide +kernel
theorem test_crc8 : crc8 [0x31, 0x32, 0x33, 0x34, 0x35, 0x36, 0x37, 0x38, 0x39] = 0xF4 := by decide +kernel

/-- The frame of IDENTIFY after its start byte: LEN 1, KIND 01H, and the CRC over them. -/
theorem test_identify_frame :
    (wireFrame 0x01 []).take 3 = [0x00, 0x01, 0x01] ∧ (wireFrame 0x01 []).length = 5 := by decide

theorem test_clock_set_bytes :
    parseClockSet [0x03, 0x84, 0x0A, 0x00, 0xCF, 0x28, 0x00, 0x51] = some ⟨900, 10, 207, 40, 81⟩ := by decide
theorem test_timer_set_bytes :
    parseTimerSet [0x02, 0x60, 0x00, 0x00, 0x01, 0x01, 0x01] = some ⟨2, 96, 0, 1, some 1⟩ ∧
    parseTimerSet [0x02, 0x60, 0x00, 0x00, 0x01, 0x00] = some ⟨2, 96, 0, 1, none⟩ ∧
    parseTimerSet [0x02, 0x60, 0x00, 0x00, 0x01, 0x02] = none := by decide
theorem test_capture_set_bytes :
    parseCaptureSet [0x00, 0x00, 0x03, 0x02, 0x01, 0x06, 0x01] = some ⟨0, 0, some 3, some 2, some 6, 1⟩ ∧
    parseCaptureSet [0x01, 0x01, 0x01, 0x06, 0x01] = some ⟨1, 1, none, none, some 6, 1⟩ := by decide
theorem test_trim_bytes : parseSigned [0xFD] = some (-3) ∧ parseSigned [0x80] = some (-128) := by decide
theorem test_pulse_set_bytes :
    parsePulseSet [0x06, 0x01, 0x03, 0x03, 0xE8, 0xFF, 0xFF, 0xFF] = some ⟨6, 1, 3, 1000, 16777215⟩ := by decide
theorem test_consumer_set_bytes :
    parseConsumerSet [0, 0, 2, 0x00, 0x13, 0x88, 0x00, 0x75, 0x30, 0x00, 0x07, 0xD0, 1, 0, 1, 1, 0x00, 0x27, 0x10] =
      some ⟨0, 0, 2, 5000, 30000, 2000, some 0, some 1, some 10000, none⟩ ∧
    parseConsumerSet [1, 1, 2, 0x00, 0x13, 0x88, 0x00, 0x75, 0x30, 0x00, 0x07, 0xD0, 1, 2, 0, 25] =
      some ⟨1, 1, 2, 5000, 30000, 2000, some 2, none, none, some 25⟩ := by decide
theorem test_drive_set_bytes :
    parseDriveSet [5, 1, 100, 0x00, 0xC8, 0x00, 0x0A, 0, 0, 24] =
      some ⟨5, 1, 100, some 200, some 10, 0, none, none, 24, none⟩ ∧
    parseDriveSet [8, 3, 100, 0, 1, 2, 1, 27, 0x02, 0x58, 0, 100, 0, 20, 0, 5, 0, 30] =
      some ⟨8, 3, 100, none, none, 0, some 2, some 1, 27, some ⟨600, 100, 20, 5, 30⟩⟩ := by decide
theorem test_nominate_bytes :
    parseNominate [61, 2, 0x00, 0x30, 0xC0, 0x00, 0x2A, 0xF8] = some ⟨61, 2, [12480, 11000]⟩ ∧
    parseNominate [61, 2, 0x00, 0x30, 0xC0] = none := by decide

/-- Negative and wide numbers of a reply: two's complement, high byte first. -/
theorem test_signed_reply_bytes : beInt 7 (-2566) = [0xFF, 0xFF, 0xFF, 0xFF, 0xFF, 0xF5, 0xFA] := by decide

/-! ## Worked examples of the manual -/

/-- The trims of section 1.4.1, each taken as its row says. -/
theorem test_trim_shortens :
    let t := after (.clockTrim [0xFD]) (running 4 300)
    (t.sck.trim, t.sck.endCount, answered t) = (-3, 7, some (.ok, [0xFD, 7])) := by decide
theorem test_trim_clamped_twice :
    let s := running 6 200
    let t := after (.clockTrim [0xFC]) { s with sck := { s.sck with trim := -3, endCount := 7 } }
    (t.sck.trim, t.sck.endCount, answered t) = (-5, 7, some (.clamped, [0xFB, 7])) := by decide

/-- A rollover of slot 95 (R5): slot 0 of the next frame, and frame 65,535 is followed by frame 0. -/
theorem test_rollover :
    (after (.stepBoundary late) (due ⟨65535, 95, 89⟩)).sck.pos = ⟨0, 0, 0⟩ := by decide +kernel

/-- The timer and the boundary of section 1.7.1: TIMER2 (ANY, offset 0, EACH-SLOT, unit 1) at the end of slot 40. -/
theorem test_timer_captures_slot_end :
    let s := withPulse 6 (pulse .unassigned 1 31626) (due ⟨207, 40, 89⟩)
    let t := after (.timerExpiry 2 late) { s with sck := { s.sck with
      timers := put s.sck.timers 2 ⟨none, 0, .eachSlot, some 1, true⟩
      units := put s.sck.units 1 ⟨.timer, some 6, true, true⟩ } }
    (t.sck.log, t.sck.timers[(2 : Fin 4)].armed, t.cnu.records[condTimer 2].time) =
      ([⟨1, .timer 2, ⟨207, 41, 0⟩, 0, true, some (6, 31626)⟩], true, ⟨207, 41, 0⟩) := by decide +kernel

/-- The request capture of section 1.7.1. -/
theorem test_request_capture :
    let s := withPulse 6 (pulse .unassigned 1 32019) (running 5 902)
    let t := after (.captureTrigger [1]) { s with sck := { s.sck with
      pos := ⟨207, 41, 6⟩, units := put s.sck.units 1 ⟨.timer, some 6, true, true⟩ } }
    t.sck.log = [⟨1, .request, ⟨207, 41, 6⟩, 5902, true, some (6, 32019)⟩] := by decide +kernel

/-- The deltas of section 2.2.1. -/
theorem test_delta_wraps :
    deltaOf (withPulse 4 (pulse (.heatFlow 2) 10 120) State.reset).fiu.pulses 4 65500 = 156 := by decide
theorem test_delta_of_pair :
    let s := withPulse 6 { pulse (.gasSupply 2) 1000 1234 with width := .cascade }
      (withPulse 7 (pulse .unassigned 1 2) State.reset)
    deltaOf s.fiu.pulses 6 131000 = 1306 := by decide

/-- A pulse at 65,535 carries into the odd half of a cascade (R19). -/
theorem test_pulse_carries :
    let s := withPulse 6 { pulse .unassigned 1 65535 with width := .cascade } State.reset
    let t := after (.pulseArrival 6) s
    (t.fiu.pulses[(6 : Fin 24)].counter, t.fiu.pulses[(7 : Fin 24)].counter) = (0, 1) := by decide

/-- The sample at 29 ms of section 2.3.1, and the one before it. -/
theorem test_debounce_takes_change :
    let t := after (.eventLineChange 5 0x20) (withLine 5 ⟨20, .high, .low, 19⟩ State.reset)
    t.fiu.lines[(5 : Fin 8)] = ⟨20, .high, .high, 0⟩ := by decide +kernel
theorem test_debounce_waits :
    let t := after (.eventLineSample 0x20) (withLine 5 ⟨20, .high, .low, 18⟩ State.reset)
    t.fiu.lines[(5 : Fin 8)] = ⟨20, .high, .low, 19⟩ := by decide +kernel

/-- Section 2.5.1: the point turns HELD at 30, FAILED at 300, and a GOOD record of -6,100 is clamped. -/
theorem test_point_held :
    let t := after (.pointAgeExpiry 9 late) (withPoint 9 { point (.returnTemp 4) 4880 with age := 29 } State.reset)
    (t.fiu.points[(9 : Fin 32)].quality, t.cnu.records[condSampleHeld].source) = (.held, 9) := by decide +kernel
theorem test_point_failed :
    let t := after (.timebaseTick late)
      (withPoint 9 { point (.returnTemp 4) 4880 with age := 299, quality := .held } State.reset)
    (t.fiu.points[(9 : Fin 32)].quality, t.cnu.alarm, t.cnu.attnA) = (.failed, true, false) := by decide +kernel
theorem test_good_record_clamped :
    let r : List Byte := [9, 0xE8, 0x2C, 0x00]
    let t := after (.sensorRecord (r ++ [crc8 r]))
      (withPoint 9 { point (.returnTemp 4) 4880 with age := 300, quality := .failed } State.reset)
    (t.fiu.points[(9 : Fin 32)].value, t.fiu.points[(9 : Fin 32)].quality) = (-5000, .good) := by decide +kernel
theorem test_broken_record_named :
    let t := after (.sensorRecordBroken [9, 0x13] (.gap 0x00 true)) { State.reset with
      fiu := { State.reset.fiu with sensor := .collecting [] } }
    (t.fiu.sensor, t.cnu.records[condSensorFrame].source) = (.hunting, 9) := by decide +kernel

/-- Grade A of section 3.7.1. -/
def gradeA : State :=
  withPulse 0 { pulse (.gasSupply 0) 1000 420 with limit := 800 }
    (withPulse 1 { pulse (.gasWorks 0) 1000 300 with limit := 800 }
      (withPoint 0 (point (.holderLevel 0) 5500) (withPoint 1 { point (.calorific 0) 3300 with quality := .held }
        (withGrade 0 { GradeEntry.cold with
          used := true, cv := 3150, agMax := 60000, gain := 200, theta1 := 1500, theta2 := 3000, theta3 := 7000,
          theta4 := 8800, hysteresis := 300, placed := true } (due ⟨88, 14, 37⟩)))))

theorem test_grade_a_evaluated :
    let t := after (.stepBoundary late) gradeA
    t.gbu.grades[(0 : Fin 3)].last.map (fun x => (x.tag, x.es, x.sg, x.hg, x.bandAfter, x.ag)) =
      some (⟨88, 14, 37⟩, 10, 39600, 1000, .normal, 40600) := by decide +kernel
theorem test_grade_a_implausible :
    let t := after (.stepBoundary late)
      (withPulse 0 { pulse (.gasSupply 0) 1000 1210 with limit := 800 } gradeA)
    (t.gbu.grades[(0 : Fin 3)].last.map (fun x => (x.sg, x.ag)), t.gbu.supplyBase[(0 : Fin 3)],
      t.cnu.records[condCountImplausible].source, t.cnu.records[condCountImplausible].time) =
      (some (165000, 60000), 1210, 0, ⟨88, 14, 37⟩) := by decide +kernel

/-- The holder of section 3.7.2 at its boundaries 1, 3, 6, 7 and 8. -/
theorem test_bands_of_holder :
    let e := { GradeEntry.cold with theta1 := 1500, theta2 := 3000, theta3 := 7000, theta4 := 8800,
                                    hysteresis := 300, placed := true }
    (bandStage e (some 8850)).1 = .highhigh ∧
    (bandStage { e with band := .highhigh } (some 8400)).1 = .high ∧
    (bandStage e (some 1100)).1 = .lowlow ∧
    (bandStage { e with band := .lowlow } (some 1400)).1 = .lowlow ∧
    (bandStage { e with band := .lowlow } (some 1500)).1 = .low := by decide

/-- The duty channel of section 5.5.1 and the pulse channel of section 5.5.2. -/
theorem test_duty_halves :
    let c := { DriveChannel.cold with active := 3755 }
    (activeTime { c with count := 2 }, activeTime { c with count := 3 }, activeTime { c with active := 6000, count := 4 })
      = (37, 38, 60) := by decide
theorem test_pulse_widths :
    [300, 500, 5000, 9520, 9600].map (fun p => activeTime
      { DriveChannel.cold with mode := .pulse, period := some 200, wmin := some 10, active := p }) =
      [0, 10, 100, 190, 200] := by decide +kernel
theorem test_period_starts_with_staged :
    let t := after (.periodStart 0)
      (withDrive 0 { DriveChannel.cold with state := .running, staged := 6000, active := 3755, count := 3 } (running 4 0))
    (t.dcu.channels[(0 : Fin 16)].active, t.dcu.channels[(0 : Fin 16)].count) = (6000, 4) := by decide

/-- The pair of section 5.6.1, AT-REST at 2,000. -/
def pair : DriveChannel :=
  { DriveChannel.cold with
    mode := .raise, baseTick := 100, period := none, state := .running, deadband := 100, reversal := 20, minMove := 5,
    seatRun := 30, est := 2000, staged := 2000, active := 2000 }

/-- The pair of section 5.6.1 as its second row leaves it. -/
def pairRaising : DriveChannel :=
  { pair with sub := .raising, est0 := 2000, moved := 90, length := 180, est := 3500, staged := 5000, active := 5000 }

/-- What a pair shows: sub-state, E0, t, L, E, and its two pins. -/
def shownPair (s : State) : PairState × Nat × Nat × Nat × Nat × Level × Level :=
  let c := s.dcu.channels[(8 : Fin 16)]
  (c.sub, c.est0, c.moved, c.length, c.est, c.pin, s.dcu.channels[(9 : Fin 16)].pin)

theorem test_pair_raises :
    shownPair (after (.driveSetpoint [8, 0x13, 0x88]) (withDrive 8 pair (running 4 0))) =
      (.raising, 2000, 0, 180, 2000, .high, .low) := by decide +kernel
theorem test_pair_tick :
    shownPair (after (.pairTick 8) (withDrive 8 { pairRaising with moved := 89 } (running 4 0))) =
      (.raising, 2000, 90, 180, 3500, .high, .low) := by decide +kernel
theorem test_pair_retargets :
    shownPair (after (.driveSetpoint [8, 0x11, 0x94]) (withDrive 8 pairRaising (running 4 0))) =
      (.raising, 3500, 0, 60, 3500, .high, .low) := by decide +kernel
theorem test_pair_reverses :
    let c := { pairRaising with est0 := 3500, moved := 40, length := 60, est := 4166, staged := 4500, active := 4500 }
    let t := after (.driveSetpoint [8, 0x03, 0xE8]) (withDrive 8 c (running 4 0))
    shownPair t = (.reversalPause, 0, 0, 0, 4166, .low, .low) ∧ t.dcu.channels[(8 : Fin 16)].remaining = 20 :=
  by decide +kernel
theorem test_pair_pause_ends :
    let c := { pair with sub := .reversalPause, remaining := 1, est := 4166, staged := 0, active := 1000 }
    shownPair (after (.pauseEnd 8) (withDrive 8 c (running 4 0))) =
      (.lowering, 4166, 0, 250, 4166, .low, .high) := by decide +kernel
theorem test_pair_seats :
    let c := { pair with sub := .lowering, est0 := 4166, moved := 249, length := 250, est := 17, staged := 0,
                         active := 0 }
    let t := after (.moveEnd 8) (withDrive 8 c (running 4 0))
    shownPair t = (.seating, 0, 0, 0, 0, .low, .high) ∧ t.dcu.channels[(8 : Fin 16)].remaining = 30 :=
  by decide +kernel

/-- The permissive of section 5.8: EV2 falls, and later returns with 0 staged. -/
def permitted (state : DriveState) (staged : Nat) : DriveChannel :=
  { DriveChannel.cold with
    state := state, permissive := some (2, .high), source := .consumerMain 0, staged := staged, active := 6666 }

theorem test_permissive_lost :
    let t := after (.eventLineChange 2 0x00)
      (withLine 2 ⟨20, .low, .high, 19⟩ (withDrive 0 (permitted .running 6666) (running 3 200)))
    (t.dcu.channels[(0 : Fin 16)].state, t.dcu.channels[(0 : Fin 16)].pin) = (.blocked, .low) := by decide +kernel
theorem test_permissive_returns :
    let t := after (.eventLineChange 2 0x04)
      (withLine 2 ⟨20, .high, .low, 19⟩ (withDrive 0 (permitted .blocked 0) (running 6 800)))
    (t.dcu.channels[(0 : Fin 16)].state, t.dcu.channels[(0 : Fin 16)].active, t.dcu.channels[(0 : Fin 16)].pin) =
      (.running, 0, .low) := by decide +kernel

/-- The relit boiler of section 5.8: window 0..5,000, target 5,000, position 1,666. -/
theorem test_relit_boiler :
    let s := withDrive 0 { permitted .running 0 with active := 0 } (withLine 2 ⟨20, .high, .high, 0⟩
      (withGrade 0 { GradeEntry.cold with used := true, cv := 3150, agMax := 60000, placed := true }
        (withPulse 0 { pulse (.gasSupply 0) 1000 420 with limit := 800 } (due ⟨61, 4, 19⟩))))
    let t := after (.stepBoundary late) (withConsumer 0
      { Consumer.cold with mc := 5000, xc := 30000, dc := 2000, main := some 0, enabled := true, request := 20000 } s)
    (t.gbu.stepRecord.map fun r => (r.consumers[(0 : Fin 12)].target, r.consumers[(0 : Fin 12)].ac, r.rho),
      t.dcu.channels[(0 : Fin 16)].staged) = (some (5000, 5000, 1000), 1666) := by decide +kernel

/-- The demand of section 6.9.1. -/
def exporting : State :=
  let consumer (ch : Fin 16) (w : Nat) : Consumer :=
    { Consumer.cold with kind := .power, mc := 1000, xc := 50000, dc := 2000, main := some ch, weight := some w }
  let s := withConsumer 1 (consumer 1 25) (withConsumer 2 (consumer 2 14) (running 4 0))
  { s with exs := { s.exs with
    config := { ExportConfig.cold with eta := 320, capacity := 15000, gridHold := some 5 }
    phase := .active, plan := .valid, current := put s.exs.current 0 12480 } }

theorem test_demand_formed :
    let r := formedRecord exporting
    (r.neff, r.gas, r.gasNominal, r.requests[(1 : Fin 12)], r.requests[(2 : Fin 12)]) =
      (12480, 39000, 39000, some 25000, some 14000) := by decide +kernel
theorem test_demand_curtailed :
    let r := (after (.curtail [0x00, 0x27, 0x10, 3]) exporting).exs.record
    (r.cap, r.neff, r.gas, r.requests[(1 : Fin 12)], r.requests[(2 : Fin 12)]) =
      (some 10000, 10000, 31250, some 20033, some 11217) := by decide +kernel
theorem test_demand_held :
    let s := { exporting with exs := { exporting.exs with curtail := some ⟨10000, 3⟩ } }
    let r := (after (.eventLineChange 5 0x20) (withLine 5 ⟨20, .high, .low, 19⟩ s)).exs.record
    (r.hold, r.neff, r.gas, r.gasNominal, r.requests[(1 : Fin 12)]) = (true, 0, 0, 31250, some 0) := by decide +kernel

/-- The last step of the slot of section 6.9.2. -/
theorem test_slot_compliant :
    let s := withPulse 3 (pulse .exportEnergy 1000 3040) (due ⟨530, 61, 89⟩)
    let t := after (.stepBoundary late) { s with exs := { s.exs with
      phase := .active, plan := .valid, startState := .active, startPlan := .valid, deviations := 1
      acc := ⟨11179760 - 124800, 89, true, 12480⟩, stepItems := [⟨⟨530, 61, 89⟩, 12480, true⟩] } }
    t.exs.log.map (fun r => (r.slot, r.nominated, r.measured, r.verdict, r.steps, r.deviations)) =
      [(61, 3105488, 3040000, .compliant, 90, 0)] := by decide +kernel

/-- The rollover of section 6.9.4, with 80 slots of NEXT written. -/
theorem test_rollover_gives_grace :
    let s := due ⟨120, 95, 89⟩
    let t := after (.stepBoundary late) { s with exs := { s.exs with
      phase := .active, startState := .active, plan := .valid, startPlan := .valid, slotInHand := 95
      current := put s.exs.current 95 9000
      written := Vector.ofFn fun i => decide (i.1 < 80) } }
    (t.exs.plan, t.exs.grace, t.exs.record.nSlot, t.exs.phase, t.cnu.records[condPlanGrace].active) =
      (.grace, 2, 9000, .active, true) := by decide +kernel

/-- The reading of section 7.4.1, its supply mark set. -/
def heatReading : Reading :=
  { meter := 7, key := 0x2A51C7, tag := ⟨214, 30, 52⟩, steps := 1, pulses := 57, litres := 570, rho := 920,
    remaining := 2, supplyFresh := true, returnFresh := false, expired := false, suspect := false, finished := none }

/-- Section 8.5.1: the account at entry 64, bank 1 active, and the lookaside that names it. -/
def billing : State :=
  let bank : Bank := ⟨1204556, 98110, 19020, 2900000, 311, 4⟩
  let prices := put (put (Vector.replicate 8 0) 4 48250) 5 61800
  let s := withEntry 64 { account 0x2A51C7 true 3 with banks := put (Vector.replicate 2 Bank.zero) 1 bank } (running 3 0)
  { s with abu := { s.abu with
    active := 1, lookaside := [⟨0x2A51C7, 64, 3⟩], tariffs := put s.abu.tariffs 3 prices
    bandMap := put s.abu.bandMap 30 2 } }

theorem test_reading_finished :
    let x := finishedFields heatReading { Meter.cold with litres := 10, carry := 73000 } (8512, .good) (4875, .good)
    (x.1.deltaT, x.1.kJ, x.2, x.1.recovered, x.1.supplementary) = (3637, 84168, 18400, 77434, 6734) :=
  by decide +kernel
theorem test_reading_retires_and_is_booked :
    let s := withPoint 8 (point (.supplyTemp 7) 8512) (withPoint 9 (point (.returnTemp 7) 0)
      (withMeter 7 { Meter.cold with used := true, litres := 10, carry := 73000 } billing))
    let r : List Byte := [9, 0x13, 0x0B, 0x00]
    let t := after (.sensorRecord (r ++ [crc8 r])) { s with hmu := { s.hmu with queue := [.reading heatReading] } }
    (t.hmu.queue, t.hmu.meters[(7 : Fin 16)].carry, t.abu.directory[(64 : Fin 256)].banks[(1 : Fin 2)]) =
      ([], 18400, ⟨1281990, 104844, 20174, 851700, 312, 4⟩) := by decide +kernel

/-- The deferral of section 7.7: the queue is full when HM2's delta of 12 is found. -/
theorem test_reading_deferred :
    let s := withPulse 4 (pulse (.heatFlow 2) 10 12) (withMeter 2 { Meter.cold with used := true, litres := 10 }
      (due ⟨40, 12, 7⟩))
    let t := after (.stepBoundary late) { s with hmu := { s.hmu with
      queue := List.replicate 64 (.reading { heatReading with remaining := 5 }) } }
    (t.hmu.meters[(2 : Fin 16)].lagged, t.hmu.meters[(2 : Fin 16)].base, t.cnu.records[condRetireLag].source,
      t.cnu.records[condRetireLag].time) = (true, 0, 2, ⟨40, 12, 7⟩) := by decide +kernel

/-- The groups of section 8.2.1. -/
theorem test_key_groups :
    [0x2F, 0x6E, 0xAD, 0xEC, 0x2A51C7].map primaryGroup = [47, 47, 47, 47, 47] ∧ secondaryGroup 0x2A51C7 = 16 := by
  decide

/-- The directory of section 8.2.1 with group 47 full. -/
def fullGroup : State :=
  withEntry 188 (account 0x2F false 0) (withEntry 189 (account 0x6E false 0) (withEntry 190 (account 0xAD false 0)
    (withEntry 191 (account 0xEC false 0) State.reset)))

theorem test_account_overflows :
    let t := after (.accountAdd [0x2A, 0x51, 0xC7, 3]) fullGroup
    (answered t, lookup t.abu.directory 0x2A51C7, t.abu.directory[(64 : Fin 256)].secondary) =
      (some (.ok, [64, 1]), some 64, true) := by decide +kernel
theorem test_account_duplicate :
    answered (after (.accountAdd [0x2A, 0x51, 0xC7, 1]) (withEntry 64 (account 0x2A51C7 true 3) fullGroup)) =
      some (.duplicate, []) := by decide +kernel
theorem test_account_stays_in_secondary :
    let t := after (.accountRemove [0x00, 0x00, 0x6E]) (withEntry 64 (account 0x2A51C7 true 3) fullGroup)
    (t.abu.directory[(189 : Fin 256)].valid, lookup t.abu.directory 0x2A51C7) = (false, some 64) := by decide +kernel

/-- The last row of section 8.3.1: the tag check fails, and the lookup finds entry 189. -/
theorem test_stale_lookaside :
    let s := withEntry 189 (account 0x2A51C7 false 2) State.reset
    let x := resolveKey 0x2A51C7 { s.abu with lookaside := [⟨0x2A51C7, 64, 5⟩] }
    (x.1, x.2.lookaside) = (some ⟨189, 2⟩, [⟨0x2A51C7, 189, 2⟩]) := by decide +kernel

/-- Section 8.8: entry 189 finds the statement queue full; a fetch sets the close going again. -/
def emitting (statements : Nat) : State :=
  let bank : Bank := { Bank.zero with recKJ := 5, readings := 2 }
  let s := withEntry 189 { account 0xBD false 0 with banks := put (Vector.replicate 2 Bank.zero) 1 bank } State.reset
  { s with abu := { s.abu with
    period := 18, active := 0, close := .emitting, closing := some 17, cursor := 189, emitted := 2
    statements := List.replicate statements ⟨.suspense 0, 16, 1, 0, 0, 1, 0⟩ } }

theorem test_emission_pauses :
    let t := after .emissionStep (emitting 32)
    (t.abu.close, t.abu.cursor, t.abu.statements.length) = (.paused, 189, 32) := by decide +kernel
theorem test_emission_emits :
    let t := after .emissionStep (emitting 28)
    (t.abu.close, t.abu.cursor, t.abu.statements.getLast?) =
      (.emitting, 190, some ⟨.account 0xBD 0, 17, 5, 0, 0, 2, 0⟩) := by decide +kernel
theorem test_fetch_resumes_close :
    let t := after (.statementFetch []) { emitting 32 with abu := { (emitting 32).abu with close := .paused } }
    (t.abu.close, t.abu.statements.length) = (.emitting, 28) := by decide +kernel

/-- Section 9.5.1: a frame begun during a reply is discarded, with its KIND as source, and is not answered. -/
theorem test_request_lost :
    let s := { State.reset with lkp := { State.reset.lkp with rx := .collecting [0x00, 0x01, 0x42], overrun := true } }
    let t := after (.periodRead []) s
    (t.lkp.rx, t.lkp.reply, t.cnu.records[condLinkOverrun].source) = (.hunting, none, 0x42) := by decide
theorem test_start_byte_in_reply :
    let s := { State.reset with lkp := { State.reset.lkp with answer := true } }
    let t := after .linkStartByte s
    (t.lkp.rx, t.lkp.overrun) = (.collecting [], true) := by decide

/-- R166, R167: the E7H that is the last byte of a CLOCK-TRIM frame completes it, and the request is answered. -/
theorem test_start_byte_completes :
    let s := { running 4 0 with lkp := { (running 4 0).lkp with rx := .collecting [0x00, 0x02, 0x07, 0xDD, 0x69] } }
    let t := after .linkStartByte s
    (t.lkp.rx, t.lkp.reply.map (·.kind), t.lkp.answer) = (.hunting, some 0x87, true) := by decide +kernel
theorem test_start_byte_breaks :
    let s := { State.reset with lkp := { State.reset.lkp with rx := .collecting [0x00, 0x01, 0x42, 0x00] } }
    let t := after .linkStartByte s
    (t.lkp.rx, t.lkp.reply, t.cnu.records[condLinkFrame].source) = (.hunting, none, 1) := by decide +kernel

/-- Section 10.3.1: the clear of SAMPLE-FAILED and SLOT-DEVIANT. -/
theorem test_clear_keeps_level :
    let s := State.raise condSlotDeviant 41 ⟨88, 41, 89⟩ (State.raise condSlotDeviant 40 ⟨88, 40, 89⟩
      (State.follow condSampleFailed true 9 ⟨88, 41, 12⟩ State.reset))
    let routed := { s with cnu := judgeOutputs { s.cnu with
      records := put (put s.cnu.records 16 { s.cnu.records[(16 : Fin 32)] with route := .a }) 4
        { s.cnu.records[(4 : Fin 32)] with route := .b } } }
    let t := after (.conditionClear [0x00, 0x01, 0x00, 0x10]) routed
    (routed.cnu.records[(16 : Fin 32)].count, routed.cnu.records[(16 : Fin 32)].source, routed.cnu.attnA) =
      (2, 40, true) ∧
    (t.cnu.records[(16 : Fin 32)].active, t.cnu.records[(4 : Fin 32)].active, t.cnu.records[(4 : Fin 32)].count) =
      (false, true, 0) ∧
    (t.cnu.attnA, t.cnu.attnB, t.cnu.alarm) = (false, true, true) := by decide +kernel

/-- IDENTIFY of a part whose LSEL pins are 10 (R175). -/
theorem test_identify :
    answered (after (.identify []) { State.reset with lkp := Lkp.cold 2 }) =
      some (.ok, [0x02, 0x16, 0x01, 0x02]) := by decide

/-- RESTART's reply ends: the warm reset leaves SETUP, the clock STOPPED and the settings as they were (R173, R174). -/
theorem test_restart_resets :
    let t := after .replySent (after (.restart []) (running 4 0))
    (t.lkp.mode, t.lkp.answer, t.sck.running, t.sck.stepS) = (.setup, false, false, 10) := by decide +kernel

/-- MODE-START names the first channel that holds a role already held (R23, R171). -/
theorem test_mode_start_refused :
    answered (after (.modeStart []) (withPulse 3 (pulse .exportEnergy 1 0) (withPulse 7 (pulse .exportEnergy 1 0)
      State.reset))) = some (.range, [1, 7]) := by decide +kernel

/-- The queue: a step takes the front command and leaves the rest (log entry 1). -/
theorem test_step_takes_front :
    (match step { State.reset with pending := [.replySent, .emissionStep] } with
      | .next t => t.pending | .fault _ => [] | .refused _ => []) = [.emissionStep] := by decide

/-! ## Witnesses: for every statement with hypotheses, a state and operands that meet them

A theorem `witness_X` speaks of `Obligations.X`; where a statement has several clauses, each clause has its own
conjunct or theorem. -/

/-- A payload of zeros. -/
def zeros (n : Nat) : List Byte := List.replicate n 0

/-- The link while a reply is being sent. -/
def replying : State := { State.reset with lkp := { State.reset.lkp with answer := true } }

/-- The link with some bytes of a frame collected. -/
def collecting (l : List Byte) (overrun : Bool) : State :=
  { State.reset with lkp := { State.reset.lkp with rx := .collecting l, overrun := overrun } }

/-- Two RUNNING channels at the end of their base tick: one early in its period, one whose active time ends next. -/
def idling : State :=
  let c : DriveChannel := { DriveChannel.cold with state := .running, baseTick := 10, divider := 9, active := 5000 }
  withDrive 0 c (withDrive 1 { c with tick := 49 } (withDrive 2 { c with divider := 8 } State.reset))

theorem witness_StepRunsFront :
    idling.pending = [] ∧
    (let c := idling.dcu.channels[(0 : Fin 16)]
     c.state = .running ∧ c.baseTick ≤ c.divider + 1 ∧ c.tick + 1 ≠ activeTime c ∧ c.tick + 1 < c.period.getD 0) ∧
    (let c := idling.dcu.channels[(1 : Fin 16)]
     c.state = .running ∧ c.baseTick ≤ c.divider + 1 ∧ c.tick + 1 = activeTime c) ∧
    (let c := idling.dcu.channels[(2 : Fin 16)]
     c.state = .running ∧ c.divider + 1 < c.baseTick) ∧ idling.dcu.channels[(3 : Fin 16)].state ≠ .running := by
  decide +kernel

theorem witness_FramesRead :
    (Instr.status (zeros 1022)).wellFormed = true ∧ requestFrame (.status (zeros 1022)) = some (0x02, zeros 1022) ∧
    (Instr.unknownKind 0xFF []).wellFormed = true ∧ requestFrame (.unknownKind 0xFF []) = some (0xFF, []) :=
  ⟨by decide +kernel, rfl, by decide, rfl⟩

theorem witness_PayloadsSpelled :
    parse8 [0xFF] = some 255 ∧ parse816 [1, 0xFF, 0xFF] = some (1, 65535) ∧ parse24 [0xFF, 0xFF, 0xFF] = some 16777215 ∧
    parse32 [0xFF, 0xFF, 0xFF, 0xFF] = some 4294967295 ∧ parseSigned [0x7F] = some 127 ∧
    parseGradeSet (zeros 13 ++ [1, 15]) = some ⟨0, 0, 0, 0, 0, 0, some 15⟩ ∧ parseHolderSet (zeros 15) ≠ none ∧
    parsePointSet (zeros 6) ≠ none ∧ parseExportSet (zeros 15) ≠ none ∧ parseMeterSet (zeros 10) ≠ none ∧
    parseTariffSet (zeros 25) ≠ none ∧ parseBandmapSet [95, 1, 3] = some ⟨95, 1, [3]⟩ := by decide +kernel

theorem witness_RefusalsChangeNothing :
    ∃ t u : State, Heard State.reset ∧ (Instr.modeStop []).wellFormed = true ∧
      requestFrame (.modeStop []) = some (0x04, []) ∧ exec (.modeStop []) State.reset = .next t ∧
      t.lkp.reply.map (·.code) = some .state ∧
      (Instr.clockTrim [0xFC]).wellFormed = true ∧ exec (.clockTrim [0xFC]) (running 6 200) = .next u ∧
      u.lkp.reply.map (·.code) = some .ok :=
  ⟨_, _, rfl, by decide, rfl, rfl, by decide, by decide, rfl, by decide⟩

theorem witness_SizesAndLocksJudged :
    Heard State.reset ∧ kindUnknown 0x00 = true ∧ kindUnknown 0x47 = true ∧ kindUnknown 0xFF = true ∧
    requestFrame (.identify [0]) = some (0x01, [0]) ∧ sizePermitted (.identify [0]) = false ∧
    sizePermitted (.conditionRoute [1, 2]) = false ∧ Heard (running 4 0) ∧ (running 4 0).lkp.mode = .run ∧
    [Instr.pulseSet (zeros 8), .eventSet (zeros 2), .pointSet (zeros 6), .gradeSet (zeros 14), .holderSet (zeros 15),
      .consumerSet (zeros 14), .meterSet (zeros 10), .clockSet (zeros 8)].all sizePermitted = true :=
  by decide +kernel

theorem witness_LinkReceives_bytes :
    State.reset.lkp.rx = .hunting ∧ (collecting [] false).lkp.rx = .collecting [] ∧
    (collecting [0x03] false).lkp.rx = .collecting [0x03] ∧ (0x03 : Byte).toNat ≤ 3 ∧ 4 ≤ (0x04 : Byte).toNat ∧
    (collecting [0x00, 0x01] true).lkp.rx = .collecting [0x00, 0x01] ∧ ([0x00, 0x01] : List Byte).length ≠ 1 ∧
    ([0x04] : List Byte).length < 2 ∧ (0 : BitVec 16).toNat = 0 ∧ 1023 < (1024 : BitVec 16).toNat := by decide

theorem witness_LinkReceives_completes :
    let trim : List Byte := [0x00, 0x02, 0x07, 0xDD, 0x69]
    let bad : List Byte := [0x00, 0x01, 0x42, 0x00]
    (collecting trim false).lkp.rx = .collecting trim ∧ readFrame (trim ++ [0xE7]) = some (.clockTrim [0xDD]) ∧
    (collecting trim true).lkp.overrun = true ∧ isComplete (trim ++ [0xE7]) = true ∧
    (collecting bad false).lkp.overrun = false ∧ isComplete (bad ++ [0xE7]) = true ∧
    crcRight (bad ++ [0xE7]) = false ∧ isComplete (trim.take 4 ++ [0xE7]) = false ∧
    (1 ≤ (1023 : BitVec 16).toNat ∧ (1023 : BitVec 16).toNat ≤ 1023) := by decide +kernel

theorem witness_LinkReceives_frames :
    let good := wireFrame 0x01 []
    let bad : List Byte := [0x00, 0x01, 0x01, 0x00, 0x00]
    let half : List Byte := [0x00, 0x01, 0x01]
    isComplete (frameBytes good replying.lkp) = true ∧ linkOverrun replying.lkp = true ∧
    isComplete (frameBytes bad State.reset.lkp) = true ∧ Heard State.reset ∧
    crcRight (frameBytes bad State.reset.lkp) = false ∧ crcRight (frameBytes good State.reset.lkp) = true ∧
    isComplete (frameBytes half State.reset.lkp) = false ∧
    (Instr.periodRead []).wellFormed = true ∧ requestFrame (.periodRead []) = some (0x42, []) ∧
    linkOverrun (collecting half true).lkp = true := by decide +kernel

theorem witness_ResetsLeave :
    let s : State := { running 4 0 with lkp := { (running 4 0).lkp with
      answer := true, reply := some ⟨0x85, .ok, []⟩ } }
    Heard (running 4 0) ∧ s.lkp.reply = some { kind := 0x85, code := .ok, payload := [] } ∧ s.lkp.mode = .run ∧
    State.reset.lkp.mode = .setup ∧
    ∀ payload : List Byte, State.reset.lkp.reply ≠ some { kind := 0x85, code := .ok, payload := payload } :=
  ⟨by decide, by decide, by decide, by decide, fun _ h => by cases h⟩

/-! ### Chapter 9: MODE-START -/

/-- A plant in SETUP that passes every check of MODE-START: grade A, one POWER consumer, the export channel and HM7. -/
def plant : State :=
  withPulse 0 (pulse (.gasSupply 0) 1000 0) (withPulse 3 (pulse .exportEnergy 1000 0)
    (withPulse 4 (pulse (.heatFlow 7) 10 0) (withPoint 0 (point (.holderLevel 0) 5000)
      (withPoint 8 (point (.supplyTemp 7) 8000) (withPoint 9 (point (.returnTemp 7) 4000)
        (withGrade 0 { GradeEntry.cold with used := true }
          (withConsumer 1 { Consumer.cold with kind := .power, main := some 1, weight := some 25 }
            (withDrive 1 { DriveChannel.cold with source := .consumerMain 1 }
              (withMeter 7 { Meter.cold with used := true, litres := 10 } State.reset)))))))))

abbrev Twice (s : State) (ch : Fin 24) : Prop :=
  s.fiu.pulses[ch].role ≠ .unassigned ∧ isPulsePartner s.fiu.pulses ch = false ∧
    ∃ c : Fin 24, c < ch ∧ isPulsePartner s.fiu.pulses c = false ∧ s.fiu.pulses[c].role = s.fiu.pulses[ch].role
abbrev PointTwice (s : State) (sp : Fin 32) : Prop :=
  s.fiu.points[sp].role ≠ .unassigned ∧ ∃ c : Fin 32, c < sp ∧ s.fiu.points[c].role = s.fiu.points[sp].role
abbrev Held (s : State) (role : PulseRole) : Prop :=
  ∃ ch : Fin 24, isPulsePartner s.fiu.pulses ch = false ∧ s.fiu.pulses[ch].role = role
abbrev Read (s : State) (role : PointRole) : Prop := ∃ sp : Fin 32, s.fiu.points[sp].role = role
abbrev Sourced (s : State) (ch : Option (Fin 16)) (source : DriveSource) : Prop :=
  ∀ k ∈ ch, isMember s.dcu.channels k = false ∧ s.dcu.channels[k].source = source
abbrev GradeFails (s : State) (g : Fin 3) : Prop :=
  s.gbu.grades[g].used = true ∧
    ¬ (Held s (.gasSupply g) ∧ Read s (.holderLevel g) ∧ Sourced s s.gbu.grades[g].flareChannel (.flare g))
abbrev ConsumerFails (s : State) (n : Fin 12) : Prop :=
  s.gbu.consumers[n].defined = true ∧
    ¬ (Sourced s s.gbu.consumers[n].main (.consumerMain n) ∧ Sourced s s.gbu.consumers[n].supp (.consumerSupp n))
abbrev Power (s : State) (n : Fin 12) : Prop := s.gbu.consumers[n].isPower = true
abbrev TierDiffers (s : State) (m n : Fin 12) : Prop :=
  Power s m ∧ Power s n ∧ m < n ∧ s.gbu.consumers[m].tier ≠ s.gbu.consumers[n].tier ∧ ∀ k < m, ¬ Power s k
abbrev MeterFails (s : State) (m : Fin 16) : Prop :=
  s.hmu.meters[m].used = true ∧
    ¬ (Read s (.supplyTemp m) ∧ Read s (.returnTemp m) ∧ ∃ ch : Fin 24,
      holderOf s.fiu.pulses (.heatFlow m) = some ch ∧ s.hmu.meters[m].litres = s.fiu.pulses[ch].scale)
abbrev First {n : Nat} (bad : Fin n → Prop) (k : Fin n) : Prop := bad k ∧ ∀ j < k, ¬ bad j
abbrev RolesPass (s : State) : Prop := (∀ k, ¬ Twice s k) ∧ ∀ k, ¬ PointTwice s k
abbrev EachPasses (s : State) : Prop := (RolesPass s ∧ ∀ k, ¬ GradeFails s k) ∧ ∀ k, ¬ ConsumerFails s k
abbrev ConsumersPass (s : State) : Prop :=
  EachPasses s ∧ (∀ m n, ¬ TierDiffers s m n) ∧ ((∃ n, Power s n) → Held s .exportEnergy)

theorem witness_ModesChange_modes :
    Heard plant ∧ plant.lkp.mode = .setup ∧ (running 4 0).lkp.mode = .run ∧ Heard (running 4 0) := by decide

theorem witness_ModesChange_pass : ConsumersPass plant ∧ ∀ k, ¬ MeterFails plant k :=
  ⟨⟨⟨⟨by decide +kernel, by decide +kernel⟩, by decide +kernel⟩, by decide +kernel, by decide +kernel⟩,
    by decide +kernel⟩

theorem witness_ModesChange_written :
    (∀ i : Fin 96, (State.reset.exs.written)[i] = false) ∧
    (∀ i : Fin 96, (Vector.replicate 96 true)[i] = true) ∧
    (let x : SlotTimer := ⟨none, 0, .once, none, true⟩
     x.armed = true ∧ (x.slot = none ∨ x.slot = some plant.sck.pos.slot) ∧ x.offset = plant.sck.pos.step) := by
  decide +kernel

theorem witness_ModesChange_twice : First (Twice (withPulse 23 (pulse .exportEnergy 1 0) plant)) 23 := by
  decide +kernel

/-- The plant with a second point of one role. -/
def plantPoint : State := withPoint 31 (point (.holderLevel 0) 0) plant
theorem witness_ModesChange_point_twice :
    (∀ k, ¬ Twice plantPoint k) ∧ First (PointTwice plantPoint) 31 := by decide +kernel

/-- The plant with a grade that has no supply channel. -/
def plantGrade : State := withGrade 2 { GradeEntry.cold with used := true } plant
theorem witness_ModesChange_grade : RolesPass plantGrade ∧ First (GradeFails plantGrade) 2 := by decide +kernel

/-- The plant with a consumer whose channel does not name it. -/
def plantConsumer : State := withConsumer 11 { Consumer.cold with main := some 15 } plant
theorem witness_ModesChange_consumer :
    (RolesPass plantConsumer ∧ ∀ k, ¬ GradeFails plantConsumer k) ∧ First (ConsumerFails plantConsumer) 11 :=
  ⟨by decide +kernel, by decide +kernel, by decide +kernel⟩

/-- The plant with a POWER consumer of another tier. -/
def plantTier : State :=
  withConsumer 11 { Consumer.cold with kind := .power, tier := 2, main := some 2, weight := some 1 }
    (withDrive 2 { DriveChannel.cold with source := .consumerMain 11 } plant)
theorem witness_ModesChange_tier : EachPasses plantTier ∧ First (TierDiffers plantTier 1) 11 :=
  ⟨⟨by decide +kernel, by decide +kernel⟩, by decide +kernel⟩

/-- The plant without an export channel. -/
def plantUnmeasured : State := withPulse 3 PulseChannel.cold plant
theorem witness_ModesChange_no_export_channel :
    EachPasses plantUnmeasured ∧ (∀ m n, ¬ TierDiffers plantUnmeasured m n) ∧
      ¬ Held plantUnmeasured .exportEnergy ∧ First (Power plantUnmeasured) 1 :=
  ⟨⟨by decide +kernel, by decide +kernel⟩, by decide +kernel, by decide +kernel, by decide +kernel⟩

/-- The plant with a USED meter that has no points. -/
def plantMeter : State := withMeter 15 { Meter.cold with used := true } plant
theorem witness_ModesChange_meter : ConsumersPass plantMeter ∧ First (MeterFails plantMeter) 15 :=
  ⟨⟨⟨by decide +kernel, by decide +kernel⟩, by decide +kernel, by decide +kernel⟩, by decide +kernel⟩

theorem witness_ModesChange_pins :
    PinsSound (withDrive 8 { pairRaising with pin := .high } (running 4 0)).dcu.channels ∧
    (withDrive 8 { pairRaising with pin := .high } (running 4 0)).dcu.channels[(8 : Fin 16)].state ≠ .stopped := by
  decide +kernel

theorem witness_IdentifyAnswers : Heard State.reset ∧ ([0] : List Byte) ≠ [] := by decide

/-- A state with five records in every log. -/
def logged : State :=
  let capture : CaptureRecord := ⟨0, .request, Tag.zero, 0, false, none⟩
  let slot : SlotRecord := ⟨0, 0, .idle, .idle, .void, 0, 90, 0, 0, .notExporting, .notJudged, 0, 0, false⟩
  { State.reset with
    sck := { State.reset.sck with log := List.replicate 5 capture }
    exs := { State.reset.exs with log := List.replicate 5 slot }
    abu := { State.reset.abu with
      close := .paused, statements := List.replicate 5 ⟨.suspense 0, 0, 0, 0, 0, 1, 0⟩ } }

theorem witness_ReadsAnswer :
    Heard logged ∧ 4 < logged.sck.log.length ∧ 4 < logged.exs.log.length ∧ 4 < logged.abu.statements.length ∧
    State.reset.sck.log.length ≤ 4 ∧ State.reset.exs.log.length ≤ 4 ∧ State.reset.abu.statements.length ≤ 4 ∧
    parse8 [2] = some (2 : Fin 3).1 ∧ parse8 [11] = some (11 : Fin 12).1 ∧ parse8 [15] = some (15 : Fin 16).1 ∧
    parse88 [0, 24] = some (0, 24) ∧ parse88 [31, 1] = some (31, 1) ∧ parse88 [0, 16] = some (0, 16) ∧
    parse88 [63, 4] = some (63, 4) ∧ parse88 [248, 8] = some (248, 8) ∧ parse88 [255, 1] = some (255, 1) ∧
    parse888 [1, 48, 48] = some (1, 48, 48) ∧ parse888 [0, 95, 1] = some (0, 95, 1) ∧
    parse24 [0x2A, 0x51, 0xC7] = some 0x2A51C7 ∧ lookup billing.abu.directory 0x2A51C7 = some 64 ∧
    lookup State.reset.abu.directory 0x2A51C7 = none := by decide +kernel

/-! ### Chapter 1 -/

/-- A state with timer 0 ARMED at this offset. -/
def timed (offset : Nat) (s : State) : State :=
  { s with sck := { s.sck with timers := put s.sck.timers 0 ⟨none, offset, .once, none, true⟩ } }

theorem witness_ClockRequestsWrite_set :
    let p : List Byte := [0x01, 0x2C, 60, 0xFF, 0xFF, 95, 0x00, 4]
    Heard (timed 4 State.reset) ∧ State.reset.lkp.mode = .setup ∧ parseClockSet p = some ⟨300, 60, 65535, 95, 4⟩ ∧
    300 % 60 = 0 ∧ 4 < 300 / 60 ∧
    (∀ n : Fin 4, (timed 4 State.reset).sck.timers[n].armed = true →
      (timed 4 State.reset).sck.timers[n].offset < 300 / 60) ∧
    (∃ n : Fin 4, (timed 5 State.reset).sck.timers[n].armed = true ∧
      300 / 60 ≤ (timed 5 State.reset).sck.timers[n].offset) := by decide +kernel

theorem witness_ClockRequestsWrite_trim :
    let s := running 4 300
    let u := running 6 200
    Heard s ∧ parseSigned [0xFD] = some (-3) ∧ State.reset.lkp.mode = .setup ∧ s.lkp.mode = .run ∧
    2 ≤ s.sck.endCount ∧ ((elapsedCount s.sck / 1000 : Nat) + 2 ≤ (s.sck.stepS : Int) + -3) ∧
    parseSigned [0xFC] = some (-4) ∧ ((u.sck.stepS : Int) + -4 < (elapsedCount u.sck / 1000 : Nat) + 2) := by
  decide +kernel

theorem witness_TimersAndUnitsSet :
    let p : List Byte := [0, 0x60, 0x00, 0x59, 0x01, 0x01, 0x03]
    let q : List Byte := [0, 0x5F, 0x00, 0x59, 0x02, 0x00]
    let u : List Byte := [3, 0, 7, 2, 1, 23, 1]
    Heard (timed 0 State.reset) ∧ parseTimerSet p = some ⟨0, 96, 89, 1, some 3⟩ ∧
    (timed 0 State.reset).sck.timers[(0 : Fin 4)].armed = true ∧ State.reset.sck.timers[(0 : Fin 4)].armed = false ∧
    89 < stepsPerSlot State.reset.sck ∧ parseTimerSet q = some ⟨0, 95, 89, 2, none⟩ ∧
    parseTimerSet [0, 0x60, 0x00, 0x00, 0x02, 0x00] = some ⟨0, 96, 0, 2, none⟩ ∧ parse8 [3] = some (3 : Fin 4).1 ∧
    parseCaptureSet u = some ⟨3, 0, some 7, some 2, some 23, 1⟩ ∧
    State.reset.sck.units[(3 : Fin 4)].armed = false ∧
    (put State.reset.sck.units 3 { CaptureUnit.cold with armed := true })[(3 : Fin 4)].armed = true := by
  decide +kernel

theorem witness_CaptureTriggered :
    let r : CaptureRecord := ⟨0, .request, Tag.zero, 0, false, none⟩
    Heard State.reset ∧ parse8 [2] = some (2 : Fin 4).1 ∧ State.reset.sck.units[(2 : Fin 4)].armed = false ∧
    (put State.reset.sck.units 2 { CaptureUnit.cold with armed := true })[(2 : Fin 4)].armed = true ∧
    (List.replicate 15 r).length < 16 ∧ 16 ≤ (List.replicate 16 r).length := by decide

theorem witness_StepBoundaryAdvances :
    let s := due ⟨65535, 95, 89⟩
    (s.sck.running = true ∧ s.sck.endCount ≤ s.sck.ticks + 1) ∧ ¬ (s.sck.pos.step + 1 < stepsPerSlot s.sck) ∧
    (due ⟨0, 0, 88⟩).sck.pos.step + 1 < stepsPerSlot (due ⟨0, 0, 88⟩).sck ∧
    ¬ ((running 8 0).sck.running = true ∧ (running 8 0).sck.endCount ≤ (running 8 0).sck.ticks + 1) ∧
    ¬ (State.reset.sck.running = true) := by decide

theorem witness_TimerExpires :
    let s := timed 89 (due ⟨0, 0, 88⟩)
    let c := s.sck.timers[(0 : Fin 4)]
    (s.sck.running = true ∧ s.sck.endCount ≤ s.sck.ticks + 1 ∧ c.armed = true ∧
      (c.slot = none ∨ c.slot = some (nextTag s.sck).slot) ∧ c.offset = (nextTag s.sck).step) ∧
    s.cnu.records[condTimer 0].active = false ∧ ¬ (s.sck.timers[(1 : Fin 4)].armed = true) := by decide +kernel

theorem witness_TimerExpires_unit :
    let d := due ⟨0, 0, 88⟩
    let s := { d with sck := { d.sck with
      timers := put d.sck.timers 3 ⟨none, 89, .once, some 2, true⟩
      units := put d.sck.units 2 ⟨.timer, some 23, true, true⟩ } }
    (s.sck.running = true ∧ s.sck.endCount ≤ s.sck.ticks + 1 ∧ s.sck.timers[(3 : Fin 4)].armed = true ∧
      s.sck.timers[(3 : Fin 4)].offset = (nextTag s.sck).step) ∧
    (∃ u ∈ s.sck.timers[(3 : Fin 4)].unit, s.sck.units[u].trigger = .timer ∧ s.sck.units[u].armed = true) ∧
    ∀ m : Fin 4, m < 3 → s.sck.timers[m].unit ≠ some 2 := by decide +kernel

/-! ### Chapter 2 -/

/-- A cascade of PC6 and PC7 at the top of both counters. -/
def cascaded : State :=
  withPulse 6 { pulse (.gasSupply 2) 1000 65535 with width := .cascade, limit := 16777215 }
    (withPulse 7 (pulse (.gasWorks 2) 1 65535) State.reset)

theorem witness_PulsesCounted :
    isPulsePartner cascaded.fiu.pulses 7 = true ∧ isPulsePartner cascaded.fiu.pulses 6 = false ∧
    isCascaded cascaded.fiu.pulses 6 = true ∧ isPulsePartner cascaded.fiu.pulses 23 = false := by decide

theorem witness_CountsGrowByOne :
    let v := cascaded.fiu.pulses
    isPulsePartner v 6 = false ∧ v[(6 : Fin 24)].counter ≤ 65535 ∧ v[(6 : Fin 24) + 1].counter ≤ 65535 ∧
    isCascaded v 6 = true ∧ isPulsePartner v 23 = false ∧ v[(23 : Fin 24)].counter ≤ 65535 ∧
    v[(23 : Fin 24) + 1].counter ≤ 65535 ∧ isCascaded v 23 = false := by decide

theorem witness_PulseSetRebases :
    Heard cascaded ∧ cascaded.lkp.mode = .setup ∧
    parsePulseSet [6, 0, 3, 0xFF, 0xFF, 0x00, 0xFF, 0xFF] = some ⟨6, 0, 3, 65535, 65535⟩ ∧
    3 = pulseRoleCode (.gasSupply 2) ∧
    parsePulseSet [22, 1, 23, 0x00, 0x01, 0xFF, 0xFF, 0xFF] = some ⟨22, 1, 23, 1, 16777215⟩ ∧
    (22 : Fin 24).1 % 2 = 0 ∧ 23 = pulseRoleCode .exportEnergy ∧
    ((6 : Fin 24).1 % 2 = 0 ∧ Width.single ≠ cascaded.fiu.pulses[(6 : Fin 24)].width) ∧
    ¬ ((22 : Fin 24).1 % 2 = 0 ∧ Width.single ≠ cascaded.fiu.pulses[(22 : Fin 24)].width) := by decide

theorem witness_LinesDebounced :
    Heard State.reset ∧ State.reset.lkp.mode = .setup ∧ parse88 [7, 255] = some ((7 : Fin 8).1, 255) ∧
    parse88 [0, 0] = some ((0 : Fin 8).1, 0) := by decide

/-- EV2 about to fall or to rise, watched by capture unit 3, with a full capture log; channel 0 is permitted by it, and it
is GRID-HOLD. -/
def watched (rises : Bool) (state : DriveState) : State :=
  let line : EventLine := if rises then ⟨20, .high, .low, 19⟩ else ⟨20, .low, .high, 19⟩
  let s := withLine 2 line (withDrive 0 (permitted state 6666) (running 3 200))
  { s with
    sck := { s.sck with
      units := put s.sck.units 3 ⟨.event 2 .both, some 23, false, true⟩
      log := List.replicate 16 ⟨0, .request, Tag.zero, 0, false, none⟩ }
    exs := { s.exs with config := { s.exs.config with gridHold := some 2 } } }

theorem witness_LinesDebounced_users :
    let s := watched false .running
    let t := after (.eventLineSample 0x00) s
    let u := watched true .blocked
    let v := after (.eventLineSample 0x04) u
    s.sck.log.length ≤ 16 ∧ t.sck.log.length = 16 ∧ t.sck.log.getLast?.map (·.unit) = some 3 ∧
    (∀ ch : Fin 16, ch.1 % 2 = 1 → s.dcu.channels[ch].mode ≠ .cascade ∧ s.dcu.channels[ch].mode ≠ .raise) ∧
    (∀ ch : Fin 16, ch.1 % 2 = 1 → u.dcu.channels[ch].mode ≠ .cascade ∧ u.dcu.channels[ch].mode ≠ .raise) ∧
    t.fiu.lines[(2 : Fin 8)].debounced ≠ s.fiu.lines[(2 : Fin 8)].debounced ∧
    s.dcu.channels[(0 : Fin 16)].state = .running ∧ u.dcu.channels[(0 : Fin 16)].state = .blocked ∧
    v.fiu.lines[(2 : Fin 8)].debounced = .high ∧ isMember s.dcu.channels 0 = false ∧
    s.exs.config.gridHold = some 2 := by decide +kernel

theorem witness_PointsKept :
    Heard State.reset ∧ State.reset.lkp.mode = .setup ∧
    parsePointSet [31, 38, 0x0E, 0x10, 0x1C, 0x20] = some ⟨31, 38, 3600, 7200⟩ ∧
    38 = pointRoleCode (.returnTemp 15) ∧ parsePointSet [0, 0, 0, 1, 0, 1] = some ⟨0, 0, 1, 1⟩ ∧
    0 = pointRoleCode .unassigned ∧ (point (.holderLevel 0) 0).quality = .good ∧
    SamplePoint.cold.quality = .empty := by decide

theorem witness_SensorPortReceives :
    let c := fun l : List Byte => ({ State.reset with fiu := { State.reset.fiu with sensor := .collecting l } } : State)
    State.reset.fiu.sensor = .hunting ∧ (c [9, 0, 0]).fiu.sensor = .collecting [9, 0, 0] ∧
    ([9, 0, 0] : List Byte).length < 4 ∧ (c [9, 0, 0, 1]).fiu.sensor = .collecting [9, 0, 0, 1] ∧
    ([9, 0, 0, 1] : List Byte).length = 4 ∧ ([9, 0, 0] : List Byte).length + ([1] : List Byte).length ≤ 4 ∧
    (c []).fiu.sensor = .collecting [] := by decide

theorem witness_SensorPortReceives_records :
    crc8 [31, 0x80, 0x00, 0x00] ≠ crc8 [31, 0x80, 0x00, 0x01] ∧ 32 ≤ (32 : Byte).toNat ∧
    ((0x02 : Byte) ≠ 0x00 ∧ (0x02 : Byte) ≠ 0x01) ∧ (31 : Byte).toNat = (31 : Fin 32).1 ∧
    (∀ m : Fin 16, SamplePoint.cold.role = .supplyTemp m ∨ SamplePoint.cold.role = .returnTemp m →
      State.reset.hmu.meters[m].used = false) := by decide +kernel

/-- HM7 has a reading that waits for both notices, behind one of HM6. -/
theorem witness_SensorPortReceives_notice :
    let r : Reading := { heatReading with supplyFresh := false }
    let s := withPoint 8 (point (.supplyTemp 7) 0) (withMeter 7 { Meter.cold with used := true } State.reset)
    let q : List RetireEntry := [.reading { r with meter := 6 }, .reading { r with supplyFresh := true }]
    let t := after (.sensorRecord [8, 0x21, 0x40, 0x00, crc8 [8, 0x21, 0x40, 0x00]])
      { s with hmu := { s.hmu with queue := [.reading { r with meter := 6 }, .reading r] } }
    s.fiu.points[(8 : Fin 32)].role = .supplyTemp 7 ∧ s.hmu.meters[(7 : Fin 16)].used = true ∧
    (∀ e ∈ q.head?, isWaiting e = true) ∧ (∀ e ∈ q, ∀ x, e = .reading x → x.ready = false) ∧
    t.hmu.queue = q := by
  refine ⟨by decide, by decide, by decide, ?_, by decide +kernel⟩
  intro e he x hx
  simp only [List.mem_cons, List.not_mem_nil, or_false] at he
  obtain rfl | rfl := he <;> cases hx <;> rfl

/-! ### Chapter 3 -/

theorem witness_GradesConfigured :
    Heard State.reset ∧ State.reset.lkp.mode = .setup ∧
    parseGradeSet [2, 0, 0x7F, 0xFF, 0x1E, 0x84, 0x80, 0x1E, 0x84, 0x80, 0x1E, 0x84, 0x80, 1, 15] =
      some ⟨2, 0, 32767, 2000000, 2000000, 2000000, some 15⟩ ∧
    State.reset.gbu.grades[(2 : Fin 3)].used = false ∧
    parseHolderSet [0, 0x27, 0x10, 0, 0, 0, 1, 0, 2, 0, 3, 0x27, 0x10, 0x03, 0xE8] =
      some ⟨0, 10000, 0, 1, 2, 3, 10000, 1000⟩ := by decide +kernel

theorem witness_BandsRiseAndFall :
    let e := { GradeEntry.cold with band := .high, placed := true }
    e.theta1 < e.theta2 ∧ e.theta2 < e.theta3 ∧ e.theta3 < e.theta4 ∧
    ((thresholdOf e .highhigh : Int) ≤ 9000 ∧ e.band.code < Band.highhigh.code) ∧
    (∀ b : Band, b ∈ [Band.lowlow, .low, .normal, .high, .highhigh] →
      (b = .lowlow ∨ (thresholdOf e b : Int) ≤ 7299) → b.code ≤ e.band.code) ∧
    GradeEntry.cold.placed = false := by decide

theorem witness_GradesEvaluated :
    gradeA.sck.running = true ∧ gradeA.sck.endCount ≤ gradeA.sck.ticks + 1 ∧
    gradeA.gbu.grades[(0 : Fin 3)].used = true ∧ holderOf gradeA.fiu.pulses (.gasSupply 0) = some 0 ∧
    holderOf gradeA.fiu.pulses (.gasWorks 0) = some 1 ∧ holderOf plant.fiu.pulses (.gasWorks 0) = none := by
  decide +kernel

/-! ### Chapter 4 -/

/-- A boundary with two HEAT consumers, one READY and one without a channel, and a POWER consumer that is BLOCKED. -/
def firing : State :=
  withConsumer 0 { Consumer.cold with mc := 5000, xc := 30000, dc := 2000, main := some 0, enabled := true,
                                      request := 20000, supp := some 1, smax := some 10000 }
    (withConsumer 2 { Consumer.cold with kind := .power, main := some 2, weight := some 1, enabled := true }
      (withDrive 0 { DriveChannel.cold with state := .running, source := .consumerMain 0 }
        (withDrive 1 { DriveChannel.cold with state := .running, source := .consumerSupp 0 }
          (withDrive 3 { DriveChannel.cold with source := .flare 0 }
            (withGrade 0 { GradeEntry.cold with used := true, flareChannel := some 3, flareCapacity := 1000 }
              (due ⟨61, 4, 19⟩))))))

theorem witness_ConsumersDirected_set :
    Heard firing ∧ State.reset.lkp.mode = .setup ∧
    parseConsumerSet [11, 0, 4, 0x1E, 0x84, 0x80, 0x1E, 0x84, 0x80, 0x1E, 0x84, 0x80, 1, 15, 1, 0, 0x00, 0x00, 1] =
      some ⟨11, 0, 4, 2000000, 2000000, 2000000, some 15, some 0, some 1, none⟩ ∧
    parseConsumerSet [0, 2, 1, 0, 0, 0, 0, 0, 1, 0, 0, 1, 0, 0] = some ⟨0, 2, 1, 0, 1, 1, none, none, none, none⟩ ∧
    parseConsumerSet [0, 1, 1, 0, 0, 1, 0, 0, 1, 0, 0, 1, 0, 0, 100] =
      some ⟨0, 1, 1, 1, 1, 1, none, none, none, some 100⟩ ∧
    (∀ k ∈ (some 0 : Option Nat), ConsumerKind.heat = .heat ∧ k < 16 ∧ (some 15 : Option Nat) ≠ some k) := by
  decide +kernel

theorem witness_ConsumersDirected_rest :
    parse88 [0, 0] = some ((0 : Fin 12).1, 0) ∧ parse88 [11, 1] = some ((11 : Fin 12).1, 1) ∧
    firing.gbu.consumers[(0 : Fin 12)].main = some 0 ∧ firing.gbu.consumers[(11 : Fin 12)].main = none ∧
    parse824 [2, 0, 0, 0] = some ((2 : Fin 12).1, 0) ∧ firing.gbu.consumers[(2 : Fin 12)].kind = .power ∧
    parse824 [0, 0x00, 0x75, 0x31] = some ((0 : Fin 12).1, 30001) ∧
    firing.gbu.consumers[(0 : Fin 12)].kind ≠ .power := by decide +kernel

theorem witness_TargetsRamp :
    let c := firing.gbu.consumers[(0 : Fin 12)]
    firing.sck.running = true ∧ firing.sck.endCount ≤ firing.sck.ticks + 1 ∧ c.enabled = true ∧
    (∃ ch ∈ c.main, channelState firing.dcu.channels ch = .running) ∧ c.kind ≠ .power ∧ c.mc ≤ c.xc ∧ c.pc = 0 ∧
    c.request ≠ 0 ∧ firing.gbu.consumers[(2 : Fin 12)].kind = .power ∧
    firing.sck.pos.step + 1 < stepsPerSlot firing.sck ∧ firing.gbu.consumers[(1 : Fin 12)].main = none := by
  refine ⟨by decide, by decide, by decide, ⟨0, ?_⟩, ?_⟩ <;> decide

theorem witness_DivisionInProportion :
    ([0, 2, 3] : List (Fin 4)).Pairwise (· < ·) ∧
    sumOver ([0, 2, 3] : List (Fin 4)) (fun i => i.1 + 1) = 8 ∧ (8 ≤ 8) ∧ 5 < 8 ∧ (0 : Fin 4) < 2 := by decide

theorem witness_AllocationsBalance : firing.sck.running = true ∧ firing.sck.endCount ≤ firing.sck.ticks + 1 := by
  decide
theorem witness_FiringsLegal :
    firing.sck.running = true ∧ firing.sck.endCount ≤ firing.sck.ticks + 1 ∧
    ((after (.stepBoundary late) firing).gbu.stepRecord.map fun r => decide (0 < r.consumers[(0 : Fin 12)].sc)) =
      some true := by decide +kernel

/-- The boundary with no gas: every READY consumer falls short, and one is released. -/
theorem witness_FiringsLegal_short :
    let s := withConsumer 3 { Consumer.cold with mc := 10, xc := 100, dc := 100, main := some 3, enabled := true,
                                                 request := 50, pc := 10, supp := some 1, smax := some 5 }
      (withDrive 3 { DriveChannel.cold with state := .running, source := .consumerMain 3 }
        (withGrade 0 GradeEntry.cold firing))
    (∀ k : Fin 12, 1 ≤ s.gbu.consumers[k].tier ∧ s.gbu.consumers[k].tier ≤ 4) ∧
    ((after (.stepBoundary late) s).gbu.stepRecord.map fun r =>
      (r.consumers[(3 : Fin 12)].released, decide (r.consumers[(3 : Fin 12)].ac < r.consumers[(3 : Fin 12)].target))) =
      some (true, true) := by decide +kernel

/-- A holder at its highest band flares what the consumers leave. -/
theorem witness_FiringsLegal_flaring :
    let s := withDrive 3 { DriveChannel.cold with state := .running, source := .flare 0 }
      (withPoint 0 (point (.holderLevel 0) 9900) (withPulse 0 (pulse (.gasSupply 0) 1000 400)
        (withGrade 0 { GradeEntry.cold with used := true, placed := true, flareChannel := some 3, flareCapacity := 1000,
                                            agMax := 2000000 } firing)))
    ((after (.stepBoundary late) s).gbu.stepRecord.map fun r =>
      (r.grades[(0 : Fin 3)].band, decide (0 < r.grades[(0 : Fin 3)].flare))) = some (.highhigh, true) := by
  decide +kernel

/-- A HEAT consumer without a main channel: its supplementary channel gets position 0 (R73). -/
theorem test_undefined_consumer_handed :
    let s := withConsumer 0 { firing.gbu.consumers[(0 : Fin 12)] with main := none, enabled := false } firing
    let t := after (.stepBoundary late)
      (withDrive 1 { DriveChannel.cold with state := .running, source := .consumerSupp 0, staged := 4000 } s)
    t.dcu.channels[(1 : Fin 16)].staged = 0 := by decide +kernel

theorem witness_PositionsHanded :
    firing.sck.running = true ∧ firing.sck.endCount ≤ firing.sck.ticks + 1 ∧
    (∀ k : Fin 16, k.1 % 2 = 1 → firing.dcu.channels[k].mode ≠ .raise) ∧
    channelSource firing.dcu.channels 15 = some .manual ∧
    firing.gbu.consumers[(0 : Fin 12)].main = some 0 ∧
    channelSource firing.dcu.channels 0 = some (.consumerMain 0) ∧ firing.gbu.consumers[(0 : Fin 12)].kind = .heat ∧
    firing.gbu.consumers[(0 : Fin 12)].supp = some 1 ∧ channelSource firing.dcu.channels 1 = some (.consumerSupp 0) ∧
    firing.gbu.grades[(0 : Fin 3)].used = true ∧ firing.gbu.grades[(0 : Fin 3)].flareChannel = some 3 ∧
    channelSource firing.dcu.channels 3 = some (.flare 0) := by decide +kernel

/-! ### Chapter 5 -/

theorem witness_DriveSetConfigures :
    let v := State.reset.dcu.channels
    Heard State.reset ∧
    parseDriveSet [14, 3, 100, 0, 1, 7, 1, 27, 0x00, 10, 0x01, 0xF4, 0, 1, 0x00, 10, 0, 0] =
      some ⟨14, 3, 100, none, none, 0, some 7, some 1, 27, some ⟨10, 500, 1, 10, 0⟩⟩ ∧
    isMember v 14 = false ∧ v[(14 : Fin 16)].state = .stopped ∧
    ((14 : Fin 16).1 % 2 = 0 ∧ channelState v (14 + 1) = .stopped) ∧ 3 = DriveMode.raise.code ∧
    27 = driveSourceCode .manual ∧
    parseDriveSet [15, 1, 1, 0x0F, 0xFF, 0x07, 0xFF, 1, 0, 0] =
      some ⟨15, 1, 1, some 4095, some 2047, 1, none, none, 0, none⟩ ∧
    isMember v 15 = false ∧ 0 = driveSourceCode (.consumerMain 0) ∧ 1 = Level.high.code := by decide +kernel

theorem witness_DriveSetConfigures_bound :
    firing.lkp.mode = .run ∧ isBound firing.gbu 2 = true ∧ DriveSource.flare 0 ≠ firing.dcu.channels[(2 : Fin 16)].source ∧
    isBound firing.gbu 15 = false ∧ firing.dcu.channels[(2 : Fin 16)].state = .stopped ∧
    isMember firing.dcu.channels 2 = false ∧
    parseDriveSet [2, 0, 10, 0, 8, 0, 0, 24] = some ⟨2, 0, 10, some 8, none, 0, none, none, 24, none⟩ := by
  decide +kernel

/-- A CASCADE asked of channel 0, free in RUN, whose odd partner is bound. -/
theorem witness_DriveSetConfigures_partner :
    let s := withDrive 1 DriveChannel.cold (withDrive 0 DriveChannel.cold
      (withConsumer 0 { firing.gbu.consumers[(0 : Fin 12)] with main := some 15 } firing))
    s.lkp.mode = .run ∧ isBound s.gbu 0 = false ∧ isBound s.gbu (0 + 1) = true ∧
    isMember s.dcu.channels 0 = false ∧ s.dcu.channels[(0 : Fin 16)].state = .stopped ∧
    channelState s.dcu.channels (0 + 1) = .stopped ∧
    parseDriveSet [0, 2, 10, 0, 8, 0, 0, 27] = some ⟨0, 2, 10, some 8, none, 0, none, none, 27, none⟩ := by
  decide +kernel

theorem witness_SetpointsStaged :
    let v := (withDrive 8 pair (running 4 0)).dcu.channels
    Heard (running 4 0) ∧ parse816 [9, 0, 0] = some ((9 : Fin 16).1, 0) ∧ isMember v 9 = true ∧
    parse816 [3, 0x27, 0x11] = some ((3 : Fin 16).1, 10001) ∧ isMember v 3 = false ∧ v[(3 : Fin 16)].source = .manual ∧
    v[(3 : Fin 16)].state = .stopped ∧ firing.dcu.channels[(0 : Fin 16)].source ≠ .manual ∧
    (put v 3 { v[(3 : Fin 16)] with state := .blocked })[(3 : Fin 16)].state = .blocked := by decide +kernel

theorem witness_SetpointsStaged_pair :
    let v := (withDrive 8 pair (running 4 0)).dcu.channels
    let w := (withDrive 8 pairRaising (running 4 0)).dcu.channels
    parse816 [8, 0x08, 0x34] = some ((8 : Fin 16).1, 2100) ∧ isMember v 8 = false ∧ v[(8 : Fin 16)].source = .manual ∧
    v[(8 : Fin 16)].state = .running ∧ v[(8 : Fin 16)].mode = .raise ∧ 2100 ≠ v[(8 : Fin 16)].active ∧
    v[(8 : Fin 16)].sub = .atRest ∧ 2100 - v[(8 : Fin 16)].est ≤ v[(8 : Fin 16)].deadband ∧
    v[(8 : Fin 16)].deadband < 2101 - v[(8 : Fin 16)].est ∧ w[(8 : Fin 16)].sub ≠ .atRest ∧
    w[(8 : Fin 16)].sub = .raising ∧ 1000 < w[(8 : Fin 16)].est ∧
    w[(8 : Fin 16)].deadband < w[(8 : Fin 16)].est - 1000 ∧ isMember w 8 = false := by decide +kernel

theorem witness_DrivesStartAndStop :
    let s := withLine 2 ⟨20, .high, .high, 0⟩ (withDrive 0 (permitted .stopped 6666) (running 4 0))
    let u := withDrive 0 (permitted .stopped 6666) (running 4 0)
    Heard s ∧ parse8 [0] = some (0 : Fin 16).1 ∧ s.lkp.mode = .run ∧ isMember s.dcu.channels 0 = false ∧
    s.dcu.channels[(0 : Fin 16)].state = .stopped ∧
    (∀ x ∈ s.dcu.channels[(0 : Fin 16)].permissive, s.fiu.lines[x.1].debounced = x.2) ∧
    ¬ (∀ x ∈ u.dcu.channels[(0 : Fin 16)].permissive, u.fiu.lines[x.1].debounced = x.2) ∧
    firing.dcu.channels[(0 : Fin 16)].state ≠ .stopped ∧ isMember firing.dcu.channels 0 = false ∧
    parse8 [9] = some (9 : Fin 16).1 ∧ isMember (withDrive 8 pair (running 4 0)).dcu.channels 9 = true := by
  decide +kernel

theorem witness_PositionsAligned :
    let v := (withDrive 8 pair (running 4 0)).dcu.channels
    Heard (running 4 0) ∧ parse816 [8, 0x27, 0x10] = some ((8 : Fin 16).1, 10000) ∧
    parse816 [8, 0x27, 0x11] = some ((8 : Fin 16).1, 10001) ∧ (8 : Fin 16).1 % 2 = 0 ∧
    v[(8 : Fin 16)].mode = .raise ∧ v[(8 : Fin 16)].sub = .atRest ∧ v[(8 : Fin 16)].state = .running ∧
    v[(0 : Fin 16)].mode ≠ .raise ∧ (withDrive 8 pairRaising (running 4 0)).dcu.channels[(8 : Fin 16)].sub ≠ .atRest ∧
    ({ pair with state := .stopped }).state ≠ .running := by decide +kernel

theorem witness_PeriodsRun :
    let c : DriveChannel := { DriveChannel.cold with state := .running, active := 3755, tick := 36 }
    let v := (withDrive 0 c (running 4 0)).dcu.channels
    (isMember v 0 = false ∧ v[(0 : Fin 16)].mode ≠ .raise ∧ v[(0 : Fin 16)].state = .running) ∧
    v[(0 : Fin 16)].tick < activeTime v[(0 : Fin 16)] ∧
    activeTime v[(0 : Fin 16)] < v[(0 : Fin 16)].period.getD 0 ∧ v[(1 : Fin 16)].state ≠ .running := by decide +kernel

theorem witness_WaveformsKeepTime :
    let c := { DriveChannel.cold with active := 10000 }
    c.period = some 100 ∧ c.active ≤ 10000 ∧ (c.mode = .duty ∨ c.mode = .cascade) ∧
    (let d := { c with mode := .pulse, period := some 200, wmin := some 100 }
     d.mode = .pulse ∧ d.wmin = some 100 ∧ 100 ≤ 200 / 2) := by decide

theorem witness_PairsTick :
    let v := (withDrive 8 { pairRaising with moved := 179 } (running 4 0)).dcu.channels
    let c := v[(8 : Fin 16)]
    ((8 : Fin 16).1 % 2 = 0 ∧ c.mode = .raise ∧ c.state = .running) ∧ (c.sub = .raising ∨ c.sub = .lowering) ∧
    c.length ≤ c.moved + 1 ∧ pairRaising.moved + 1 < pairRaising.length ∧
    (let d := { pair with sub := .lowering, active := 0 }
     d.sub = .lowering ∧ d.active = 0 ∧ 0 < d.seatRun) ∧
    (let d := { pair with sub := .seating, remaining := 1, est := 0, staged := 101 }
     d.sub = .seating ∧ d.remaining ≤ 1 ∧ d.est + d.deadband < d.staged) ∧
    (let d := { pair with sub := .reversalPause, remaining := 2 }
     d.sub = .reversalPause ∧ 1 < d.remaining) ∧ pair.sub = .atRest ∧ ¬ (v[(0 : Fin 16)].mode = .raise) := by
  decide +kernel

/-! ### Chapter 6 -/

theorem witness_DemandFormed :
    let v := exporting.gbu.consumers
    exporting.exs.plan = .valid ∧ exporting.exs.phase = .active ∧ 0 < exporting.exs.config.eta ∧
    v[(1 : Fin 12)].isPower = true ∧ v[(2 : Fin 12)].isPower = true ∧
    0 < ((powerConsumers v).map fun n => v[n].weight.getD 0).sum ∧ State.reset.exs.plan = .void ∧
    State.reset.exs.phase = .idle := by decide +kernel

/-- The export state in RUN. -/
def inPhase (st : ExportState) : State := { running 4 0 with exs := { (running 4 0).exs with phase := st } }

theorem witness_ExportDirected :
    Heard (inPhase .armed) ∧
    parseExportSet [0x03, 0x84, 0x07, 0xA1, 0x20, 0x01, 0xF4, 0xFF, 0xFF, 0xFF, 15, 31, 1, 8, 1, 7] =
      some ⟨900, 500000, 500, 16777215, 15, 31, 1, 8, some 7⟩ ∧
    (inPhase .armed).lkp.mode = .run ∧ (inPhase .armed).exs.phase ≠ .idle ∧ State.reset.lkp.mode = .setup ∧
    parseCurtail [0x07, 0xA1, 0x20, 96] = some (500000, 96) ∧ parseCurtail [0x07, 0xA1, 0x21, 0] = some (500001, 0) ∧
    parseCurtail [0x07, 0xA1, 0x20, 97] = some (500000, 97) ∧ (inPhase .idle).exs.phase = .idle ∧
    (inPhase .passive).exs.phase = .passive ∧ (inPhase .halted).exs.phase = .halted := by decide +kernel

theorem witness_NominationsWritten :
    let s : State := { State.reset with exs := { State.reset.exs with plan := .valid } }
    let f : NominateFields := ⟨94, 2, [500, 12480]⟩
    Heard s ∧ parseNominate [94, 2, 0x00, 0x01, 0xF4, 0x00, 0x30, 0xC0] = some f ∧ f.first + f.count ≤ 96 ∧
    (∀ j < 1, f.entries.getD j 0 ≤ 500) ∧ 1 < f.count ∧ 500 < f.entries.getD 1 0 ∧ State.reset.exs.plan ≠ .valid ∧
    s.exs.plan = .valid ∧ (currentSlot s).1 < f.first ∧ parseNominate [0, 1, 0, 0, 0] = some ⟨0, 1, [0]⟩ ∧
    0 ≤ (currentSlot s).1 ∧ (∀ x ∈ [0], x ≤ s.exs.config.capacity) := by decide +kernel

/-- The last step of slot 95, exporting, with the whole of NEXT written or not. -/
def slotEnd (written : Bool) (plan : PlanStatus) (deviations : Nat) : State :=
  let s := withPulse 3 (pulse .exportEnergy 1000 3040) (due ⟨120, 95, 89⟩)
  { s with exs := { s.exs with
    phase := .active, startState := .active, plan := plan, startPlan := plan, slotInHand := 95
    grace := 1, deviations := deviations, written := Vector.replicate 96 written } }

theorem witness_SlotsJudged :
    let s := slotEnd true .valid 0
    s.sck.running = true ∧ s.sck.endCount ≤ s.sck.ticks + 1 ∧ stepsPerSlot s.sck ≤ s.sck.pos.step + 1 ∧
    holderOf s.fiu.pulses .exportEnergy = some 3 ∧ s.exs.log.length < 16 ∧ s.exs.startState = .active ∧
    s.exs.phase = .active ∧ holderOf (due ⟨0, 0, 89⟩).fiu.pulses .exportEnergy = none ∧
    ((after (.stepBoundary late) s).exs.log.map (·.verdict)) = [.deviant] := by decide +kernel

/-- The odd slot of a pair whose first half was sufficient, in PASSIVE. -/
theorem witness_SlotsJudged_pair :
    let s := { slotEnd true .valid 0 with exs := { (slotEnd true .valid 0).exs with
      phase := .passive, startState := .passive, firstHalf := .sufficient, acc := ⟨0, 89, true, 0⟩
      stepItems := [⟨⟨120, 95, 89⟩, 0, true⟩] } }
    s.sck.pos.slot.1 % 2 = 1 ∧ s.exs.firstHalf = .sufficient ∧
    (after (.stepBoundary late) s).exs.log.map (·.sufficiency) = [.sufficient] ∧
    (due ⟨0, 94, 89⟩).sck.pos.slot.1 % 2 = 0 ∧ (due ⟨0, 95, 89⟩).exs.firstHalf ≠ .sufficient := by decide +kernel

theorem witness_SlotEndsSettle :
    let s := slotEnd true .grace 2
    let u := slotEnd false .valid 0
    s.sck.running = true ∧ s.sck.endCount ≤ s.sck.ticks + 1 ∧ stepsPerSlot s.sck ≤ s.sck.pos.step + 1 ∧
    (∀ i : Fin 96, s.exs.written[i] = true) ∧ s.sck.pos.slot.1 = 95 ∧ s.exs.plan ≠ .valid ∧
    s.exs.config.devLimit ≤ s.exs.deviations + 1 ∧ ¬ (∀ i : Fin 96, u.exs.written[i] = true) ∧
    u.exs.plan = .valid ∧ 0 < u.exs.config.graceSlots ∧ (slotEnd false .grace 0).exs.grace ≤ 1 ∧
    ¬ (u.exs.config.devLimit ≤ u.exs.deviations + 1) := by decide +kernel

/-! ### Chapter 7 -/

theorem witness_MetersSet :
    Heard plant ∧ plant.lkp.mode = .setup ∧
    parseMeterSet [15, 0, 0xFF, 0xFF, 0xFF, 0xFF, 0xFF, 0, 0, 0] = some ⟨15, 0, 65535, 16777215, 0⟩ ∧
    holderOf plant.fiu.pulses (.heatFlow 7) = some 4 ∧ holderOf plant.fiu.pulses (.heatFlow 15) = none ∧
    parse824 [15, 0x2A, 0x51, 0xC7] = some ((15 : Fin 16).1, 0x2A51C7) ∧ parse8 [60] = some 60 ∧
    parse8 [61] = some 61 ∧ parse8 [0] = some 0 := by decide +kernel

/-- A boundary at which HM7 has counted 57 pulses, with this many entries in the queue. -/
def metering (entries : Nat) : State :=
  let s := withPulse 4 (pulse (.heatFlow 7) 10 57) (withMeter 7 { Meter.cold with used := true, litres := 10 }
    (due ⟨214, 30, 52⟩))
  { s with
    gbu := { s.gbu with rhoNow := { tag := some ⟨214, 30, 52⟩, value := 920 } }
    hmu := { s.hmu with queue := List.replicate entries (.reading heatReading) } }

theorem witness_ReadingsFormed :
    let s := metering 48
    s.sck.running = true ∧ s.sck.endCount ≤ s.sck.ticks + 1 ∧ holderOf s.fiu.pulses (.heatFlow 7) = some 4 ∧
    s.gbu.rhoNow = { tag := some s.sck.pos, value := 920 } ∧ s.hmu.meters[(7 : Fin 16)].used = true ∧
    0 < deltaOf s.fiu.pulses 4 s.hmu.meters[(7 : Fin 16)].base ∧ s.hmu.queue.length + 16 ≤ 64 ∧
    deltaOf s.fiu.pulses 4 57 = 0 ∧ s.hmu.meters[(6 : Fin 16)].used = false := by decide +kernel

theorem witness_ReadingsFormed_full :
    let before := fun s : State => (List.finRange 16).countP fun k => decide (k < 7 ∧ s.hmu.meters[k].used = true ∧
      ∃ c ∈ holderOf s.fiu.pulses (.heatFlow k), 0 < deltaOf s.fiu.pulses c s.hmu.meters[k].base)
    (metering 63).hmu.queue.length + before (metering 63) < 64 ∧
    64 ≤ (metering 64).hmu.queue.length + before (metering 64) := by decide +kernel

theorem witness_ReadingsFinish_notice :
    let s := { billing with hmu := { billing.hmu with queue := [.reading heatReading] } }
    let u := withPoint 8 (point (.supplyTemp 7) 8512) (withPoint 9 (point (.returnTemp 7) 4875)
      (withMeter 7 { Meter.cold with used := true } s))
    u.hmu.queue = [.reading heatReading] ∧ pointOf u.fiu.points (.supplyTemp 7) = some 8 ∧
    pointOf u.fiu.points (.returnTemp 7) = some 9 ∧ (9 : Byte).toNat = (9 : Fin 32).1 ∧ (8 : Byte).toNat = (8 : Fin 32).1 ∧
    u.fiu.sensor = .hunting ∧ heatReading.finished = none ∧ u.hmu.meters[(7 : Fin 16)].used = true ∧
    heatReading.supplyFresh = true ∧ ({ heatReading with returnFresh := true } : Reading).returnFresh = true := by
  decide +kernel

theorem witness_ReadingsFinish :
    let r : Reading := { heatReading with remaining := 1 }
    let s := { billing with hmu := { billing.hmu with queue := [.reading r] } }
    let u := withPoint 8 (point (.supplyTemp 7) 8512) (withPoint 9 (point (.returnTemp 7) 4875) s)
    u.hmu.queue = [.reading r] ∧ pointOf u.fiu.points (.supplyTemp r.meter) = some 8 ∧
    pointOf u.fiu.points (.returnTemp r.meter) = some 9 ∧ r.finished = none ∧ r.expired = false ∧ r.remaining ≤ 1 ∧
    ¬ (u.sck.running = true ∧ u.sck.endCount ≤ u.sck.ticks + 1) ∧ u.fiu.points[(8 : Fin 32)].quality ≠ .empty ∧
    u.fiu.points[(9 : Fin 32)].quality ≠ .empty ∧ 1 < heatReading.remaining := by decide +kernel

/-! ### Chapter 8 -/

theorem witness_AccountsKept :
    let d := fullGroup.abu.directory
    Heard fullGroup ∧ parse248 [0x2A, 0x51, 0xC7, 7] = some (0x2A51C7, (7 : Fin 8).1) ∧
    parse248 [0, 0, 0, 7] = some (0, (7 : Fin 8).1) ∧ lookup d 0x2A51C7 = none ∧ d[(64 : Fin 256)].valid = false ∧
    (∀ j : Fin 256, j < 64 → (64 : Fin 256).1 / 4 = j.1 / 4 → d[j].valid = true) ∧
    (64 : Fin 256).1 / 4 = 63 - primaryGroup 0x2A51C7 ∧
    (∀ j : Fin 256, j.1 / 4 = primaryGroup 0x2A51C7 → d[j].valid = true) ∧
    State.reset.abu.directory[(188 : Fin 256)].valid = false ∧ (188 : Fin 256).1 / 4 = primaryGroup 0x2A51C7 ∧
    parse24 [0x2A, 0x51, 0xC7] = some 0x2A51C7 ∧ lookup billing.abu.directory 0x2A51C7 = some 64 ∧
    billing.abu.directory[(64 : Fin 256)].banks[(1 : Fin 2)].readings ≠ 0 ∧ lookup d 0x2F = some 188 ∧
    d[(188 : Fin 256)].banks[(0 : Fin 2)].readings = 0 ∧ d[(188 : Fin 256)].banks[(1 : Fin 2)].readings = 0 := by
  decide +kernel

/-- Both groups of 2A51C7H full. -/
theorem witness_AccountsKept_full :
    let d : Vector DirEntry 256 := Vector.replicate 256 (account 1 false 0)
    ∀ j : Fin 256, j.1 / 4 = primaryGroup 0x2A51C7 ∨ j.1 / 4 = 63 - primaryGroup 0x2A51C7 → d[j].valid = true := by
  decide +kernel

/-- A directory that has one valid entry, in the group of its key, is sound. -/
theorem one_entry_sound {d : Vector DirEntry 256} (k : Fin 256) (hone : ∀ i, d[i].valid = true → i = k)
    (hk : EntryPlaced d k) : DirectorySound d :=
  ⟨fun i hi => hone i hi ▸ hk (hone i hi ▸ hi), fun _ _ hi hj _ => (hone _ hi).trans (hone _ hj).symm⟩

theorem witness_AccountsKept_sound : DirectorySound (withEntry 188 (account 0x2F false 0) State.reset).abu.directory :=
  one_entry_sound 188 (by decide +kernel) (by decide +kernel)

theorem witness_TariffsWritten :
    Heard State.reset ∧ parseTariffSet (7 :: zeros 24) = some ⟨(7 : Fin 8).1, List.replicate 8 0⟩ ∧
    parseBandmapSet [95, 1, 3] = some ⟨95, 1, [3]⟩ ∧ parseBandmapSet [95, 1, 4] = some ⟨95, 1, [4]⟩ ∧
    parse32 [1, 0, 0, 0] = some 16777216 ∧ parse32 [1, 0, 0, 1] = some 16777217 ∧
    parse32 [0, 0xFF, 0xFF, 0xFF] = some 16777215 ∧ parse32 [0, 0, 0, 0] = some 0 := by decide +kernel

theorem witness_BookingsBalance :
    let a := billing.abu
    (∀ e ∈ a.lookaside, ∀ e' ∈ a.lookaside, e'.key = e.key → e' = e) ∧
    a.directory[(64 : Fin 256)].valid = true ∧ a.directory[(64 : Fin 256)].key = heatReading.key ∧
    (resolveKey heatReading.key a).1 = some { location := 64, tariff := 3 } ∧ heatReading.key ≠ 0 ∧
    a.directory[(64 : Fin 256)].suspended = false ∧ (resolveKey 0xFFFFFF a).1 = none ∧
    (∀ e ∈ a.lookaside, e.key = 0xFFFFFF → ¬ (a.directory[e.location].valid = true)) := by decide +kernel

/-- A lookaside of eight entries, none with the key of the reading: the miss finds the account and displaces the last. -/
theorem witness_BookingsBalance_miss :
    let others : List LookEntry := (List.range 8).map fun k => ⟨k + 1, 0, 0⟩
    let a := { billing.abu with lookaside := others }
    (∀ e ∈ a.lookaside, e.key ≠ heatReading.key) ∧ lookup a.directory heatReading.key = some 64 ∧
    (resolveKey heatReading.key a).2.lookaside = ⟨0x2A51C7, 64, 3⟩ :: others.take 7 := by decide +kernel

theorem witness_PeriodsClose :
    let r : RetireEntry := .reading heatReading
    Heard billing ∧ (emitting 0).abu.close ≠ .idle ∧ billing.abu.close = .idle ∧ billing.hmu.queue = [] ∧
    64 ≤ (List.replicate 64 r).length ∧ (List.replicate 62 r).length < 63 ∧ heatReading.finished = none ∧
    billing.abu.directory[(64 : Fin 256)].valid = true ∧ billing.abu.directory[(0 : Fin 256)].valid = false := by
  decide +kernel

/-- The emission at a place of the suspenses: that of HM15 is the last place of all. -/
def emittingSuspense (m : Fin 16) (readings : Nat) : State :=
  let s := emitting 0
  let bank : SuspenseBank := ⟨5, 0, readings, 0⟩
  { s with abu := { s.abu with
    cursor := 256 + m.1, suspense := put s.abu.suspense m (put (Vector.replicate 2 SuspenseBank.zero) 1 bank) } }

theorem witness_EmissionJudges_account :
    let a := (emitting 31).abu
    a.close = .emitting ∧ a.closing = some 17 ∧ a.cursor < 272 ∧ a.statements.length < 32 ∧
    (a.cursor = (189 : Fin 256).1 ∧ a.directory[(189 : Fin 256)].valid = true ∧
      0 < a.directory[(189 : Fin 256)].banks[a.active + 1].readings) ∧
    32 ≤ (emitting 32).abu.statements.length ∧ State.reset.abu.close ≠ .emitting := by decide +kernel

theorem witness_EmissionJudges_suspense :
    let a := (emittingSuspense 15 3).abu
    let b := (emittingSuspense 15 0).abu
    a.close = .emitting ∧ a.closing = some 17 ∧ a.cursor < 272 ∧ a.cursor = 271 ∧ a.statements.length < 32 ∧
    (a.cursor = 256 + (15 : Fin 16).1 ∧ 0 < a.suspense[(15 : Fin 16)][a.active + 1].readings) ∧ b.cursor < 272 ∧
    (∀ m : Fin 16, ¬ (b.cursor = 256 + m.1 ∧ 0 < b.suspense[m][b.active + 1].readings)) ∧
    (∀ i : Fin 256, ¬ (b.cursor = i.1)) := by decide +kernel

/-! ### Chapter 10 -/

theorem witness_ConditionsDirected :
    Heard State.reset ∧ parseMask [0xFF, 0xFF, 0xFF, 0xFF] = some 0xFFFFFFFF ∧
    parse816 [30, 0xFF, 0xFF] = some (30, 65535) ∧ parse816 [29, 0, 0] = some (29, 0) ∧
    parse816 [32, 0, 0] = some (32, 0) ∧ parse888 [32, 0, 0] = some (32, 0, 0) ∧ parse888 [4, 2, 0] = some (4, 2, 0) ∧
    (0 = 0 ↔ fixedAlarm 4 = true) ∧ parse888 [4, 2, 1] = some (4, 2, 1) ∧ ¬ (1 = 0 ↔ fixedAlarm 4 = true) ∧
    parse888 [31, 2, 1] = some (31, 2, 1) ∧ parse888 [31, 3, 1] = some (31, 3, 1) := by decide +kernel

/-! ### The invariants: a state that has them, and a step from it -/

/-- A part in RUN, at work: a driven pair, an account, a reading waiting, a condition raised, a command in the queue. -/
def working : State :=
  let s := withDrive 8 { pairRaising with pin := .high } (withEntry 188 (account 0x2F false 0)
    (withMeter 7 { Meter.cold with used := true } (State.raiseHere condLinkFrame 1 (running 4 0))))
  { s with
    hmu := { s.hmu with queue := [.reading heatReading] }
    pending := [.pairTick 8] }

theorem witness_steps : ∃ t, step working = .next t ∧ t.dcu.channels[(8 : Fin 16)].moved = 91 :=
  ⟨_, rfl, by decide +kernel⟩
theorem witness_ConditionsStaySound : ConditionsSound working ∧ LevelsFollow working :=
  ⟨⟨by decide +kernel, by decide +kernel⟩, by decide +kernel, by decide +kernel, by decide +kernel⟩
theorem witness_ClockStaysSound : ClockSound working := by decide +kernel
theorem witness_DrivesStaySound : DrivesSound working := ⟨by decide +kernel, by decide +kernel⟩
theorem witness_RegistersStaySound : RegistersSound working := by
  refine ⟨⟨by decide +kernel, fun h => absurd h (by decide)⟩, ?_⟩
  repeat' apply And.intro
  all_goals decide +kernel
theorem witness_QueuesStaySound : QueuesSound working := by
  have sizes : RetireSound working ∧ LogsSound working ∧ LookasideSound working.abu := by decide +kernel
  refine ⟨sizes.1, ⟨by decide +kernel, ?_⟩, sizes.2⟩
  intro i r hi _ hr
  have all : ∀ k : Fin working.hmu.queue.length, working.hmu.queue[k] = .reading heatReading := by decide +kernel
  cases (all i).symm.trans hi
  exact absurd hr (by decide)
theorem witness_DirectoryStaysSound : DirectorySound working.abu.directory :=
  one_entry_sound 188 (by decide +kernel) (by decide +kernel)
theorem witness_BanksStaySound : BanksSound working.abu :=
  ⟨by decide +kernel, by decide +kernel, by decide +kernel⟩

end Sys2Proof.Tests
end

section
/-!
What the answer of a request leaves, and how a request frame completes: the inversions on which every invariant of
the requests rests (R167 to R169).
-/
namespace Sys2Proof.Machine

/-- The state that an answer carries, where the request is not refused, satisfies `P`. -/
def Answer.Leaves (P : State → Prop) : Answer → Prop
  | .done _ _ t => P t
  | .refuse _ _ => True

section
variable {P : State → Prop} {a : Answer} {s t : State}

theorem Answer.Leaves.mono {Q : State → Prop} (h : ∀ t, P t → Q t) (ha : a.Leaves P) : a.Leaves Q := by
  cases a with
  | done code q t => exact h t ha
  | refuse code q => trivial

theorem leaves_unlessRun (h : s.lkp.mode = .setup → a.Leaves P) : (unlessRun s a).Leaves P := by
  unfold unlessRun
  split
  · trivial
  · exact h ‹_›

theorem leaves_checkRange {n m first count : Nat} (h : a.Leaves P) : (checkRange n m first count a).Leaves P := by
  unfold checkRange
  repeat' split
  · trivial
  · trivial
  · exact h

theorem leaves_withAccount {key : Nat} {f : Fin 256 → DirEntry → Answer} (h : ∀ i e, (f i e).Leaves P) :
    (withAccount key s f).Leaves P := by
  unfold withAccount
  repeat' split
  · trivial
  · trivial
  · exact h ..

theorem leaves_nominationDone {q : List Byte} {clamped : Option Nat}
    (h : ∀ d, P { t with cnu := d }) : (nominationDone q clamped t).Leaves P := by
  unfold nominationDone
  split
  · exact h _
  · exact h t.cnu

end

/-- Nothing but conditions, outputs and the link changes, and of the link not the mode. -/
def Relinked (s t : State) : Prop := ∃ l d, t = { s with lkp := l, cnu := d } ∧ l.mode = s.lkp.mode

theorem relinked_lkp (s) {l : Lkp} (h : l.mode = s.lkp.mode) : Relinked s { s with lkp := l } := ⟨_, _, rfl, h⟩
theorem relinked_answer (kind code q s) : Relinked s (State.answer kind code q s) := ⟨_, s.cnu, rfl, rfl⟩
theorem relinked_overrunFrame (kind s) : Relinked s (overrunFrame kind s) := ⟨_, _, rfl, rfl⟩
theorem relinked_breakFrame (k s) : Relinked s (breakFrame k s) := ⟨_, _, rfl, rfl⟩
theorem Relinked.refl (s : State) : Relinked s s := ⟨_, _, rfl, rfl⟩
theorem Relinked.trans {a b c : State} : Relinked a b → Relinked b c → Relinked a c := by
  rintro ⟨_, _, rfl, h⟩ ⟨_, _, rfl, k⟩; exact ⟨_, _, rfl, k.trans h⟩
theorem relinked_huntByte (b s) : Relinked s (huntByte b s) := by
  unfold huntByte
  split
  · exact ⟨_, s.cnu, rfl, rfl⟩
  · exact .refl s
theorem relinked_discardFrame (f s) : Relinked s (discardFrame f s) := by
  unfold discardFrame
  repeat' split
  · exact relinked_overrunFrame ..
  · exact .refl s
  · exact relinked_breakFrame ..
theorem relinked_breakBy (cause l s) : Relinked s (breakBy cause l s) := by
  cases cause with
  | badLen len =>
    unfold breakBy
    dsimp only
    split
    · exact relinked_breakFrame ..
    · exact .refl s
  | gap b stopBit =>
    cases stopBit
    · exact relinked_breakFrame ..
    · exact (relinked_breakFrame ..).trans (relinked_huntByte ..)
  | stop => exact relinked_breakFrame ..

/-- A request frame changes the link and the conditions alone, or leaves, with the link changed, what its owning rule
leaves (R167 to R169). -/
theorem request_next {α : Type} {kind : Byte} {parse : List Byte → Option α} {judge : α → State → Answer}
    {p : List Byte} {s t : State} (h : request kind parse judge p s = .next t) :
    Relinked s t ∨ ∃ f code q u, judge f s = .done code q u ∧ Relinked u t := by
  unfold request at h
  split at h
  · cases h; exact .inl (relinked_overrunFrame ..)
  split at h
  · cases h; exact .inl (relinked_answer ..)
  · next f _ =>
    cases h
    cases hj : judge f s with
    | done code q u => exact .inr ⟨f, code, q, u, hj, relinked_answer ..⟩
    | refuse code q => exact .inl (relinked_answer ..)

end Sys2Proof.Machine
end

section
/-!
The effects that a step can have on the clock, the mode, the queues, the logs and the lookaside: what each command
does is a chain of them. An invariant of these items is kept by every step once each single effect keeps it.
-/
namespace Sys2Proof.Machine

/-- The mode, the clock, the retire queue, the logs, the close of a period, the statements and the lookaside stand. -/
structure Aside (s t : State) : Prop where
  mode : t.lkp.mode = s.lkp.mode
  sck : t.sck = s.sck
  queue : t.hmu.queue = s.hmu.queue
  exportLog : t.exs.log = s.exs.log
  close : t.abu.close = s.abu.close
  closing : t.abu.closing = s.abu.closing
  statements : t.abu.statements = s.abu.statements
  lookaside : t.abu.lookaside = s.abu.lookaside

theorem Aside.refl (s : State) : Aside s s := ⟨rfl, rfl, rfl, rfl, rfl, rfl, rfl, rfl⟩
theorem Relinked.aside {s t : State} : Relinked s t → Aside s t := by
  rintro ⟨_, _, rfl, h⟩; exact ⟨h, rfl, rfl, rfl, rfl, rfl, rfl, rfl⟩
theorem Signals.aside {s t : State} : Signals s t → Aside s t := by
  rintro ⟨_, rfl⟩; exact ⟨rfl, rfl, rfl, rfl, rfl, rfl, rfl, rfl⟩
theorem Balances.aside {s t : State} : Balances s t → Aside s t := by
  rintro ⟨_, _, _, _, rfl⟩; exact ⟨rfl, rfl, rfl, rfl, rfl, rfl, rfl, rfl⟩
theorem Evaluates.aside {s t : State} : Evaluates s t → Aside s t := fun h => h.balances.aside
theorem Ages.aside {s t : State} : Ages s t → Aside s t := by
  rintro ⟨_, _, rfl⟩; exact ⟨rfl, rfl, rfl, rfl, rfl, rfl, rfl, rfl⟩

/-- One effect. The queue's effects are whole: each leaves the queue settled. -/
inductive Effect : State → State → Prop
  | aside {s t} (h : Aside s t) : Effect s t
  /-- A cold reset (R174). -/
  | cold (s lsel levels) : Effect s { State.cold lsel levels with pending := s.pending }
  /-- The clock begins to run, with the mode (R2, R171). -/
  | start (s) : Effect s (setMode .run { s with sck := { startStep s.sck with running := true } })
  /-- Slot timers and capture units made IDLE by a warm reset (R173). -/
  | idle (s) : Effect s { s with sck := idleTimers s.sck }
  | clockSet (s f slot) (mode : s.lkp.mode = .setup) (slotS : slotSPermitted f.slotS = true) (low : 2 ≤ f.stepS)
      (high : f.stepS ≤ 60) (whole : f.slotS % f.stepS = 0) (frame : f.frame ≤ 65535)
      (pos : f.step < f.slotS / f.stepS)
      (fits : ∀ n : Fin 4, s.sck.timers[n].armed = true → s.sck.timers[n].offset < f.slotS / f.stepS) :
      Effect s { s with sck := clockSetTo f slot s.sck }
  | trim (s t) (mode : s.lkp.mode = .run) :
      Effect s { s with sck := { s.sck with
        trim := trimTotal s.sck t, endCount := trimmedEnd s.sck (trimTotal s.sck t) } }
  /-- A slot timer written, with an offset of the slot where it is ARMED (R10, R11). -/
  | timer (s n x) (fits : x.armed = true → x.offset < stepsPerSlot s.sck ∨
        s.sck.timers[n].armed = true ∧ x.offset = s.sck.timers[n].offset) :
      Effect s { s with sck := { s.sck with timers := put s.sck.timers n x } }
  | units (s v) : Effect s { s with sck := { s.sck with units := v } }
  /-- The capture log written within its size (R16). -/
  | captures (s l) (size : s.sck.log.length ≤ 16 → l.length ≤ 16) : Effect s { s with sck := { s.sck with log := l } }
  /-- The slot log of the EXS written within its size (R122). -/
  | slots (s l) (size : s.exs.log.length ≤ 16 → l.length ≤ 16) : Effect s { s with exs := { s.exs with log := l } }
  /-- A tick within a step, or while the clock is STOPPED (R3). -/
  | tick (s) (within : boundaryDue s.sck = false) :
      Effect s { s with sck := { s.sck with ticks := if s.sck.running then s.sck.ticks + 1 else 0, phaseMs := 0 } }
  /-- The end of a step (R5). -/
  | advance (s) : Effect s { s with sck := advanceClock s.sck }
  /-- A millisecond in which nothing else happens (log entry 1). -/
  | quiet (s) : Effect s (idleMs s)
  /-- The queue settled after a change of its entries that keeps their number and the markers (R135, R136). -/
  | settle (s q) (size : q.length = s.hmu.queue.length) (markers : q.countP isMarker = s.hmu.queue.countP isMarker) :
      Effect s (settleQueue (setQueue q s))
  | flush (s) : Effect s (flushQueue s)
  /-- A reading formed (R133). -/
  | form (s r) (room : s.hmu.queue.length < 64) (waiting : r.finished = none) (early : r.ready = false) :
      Effect s (setQueue (s.hmu.queue ++ [.reading r]) s)
  /-- A marker appended (R158). -/
  | mark (s p) (idle : s.abu.close = .idle) (room : s.hmu.queue.length < 64) :
      Effect s (retireRun (s.hmu.queue ++ [.marker p]) { s with abu := { s.abu with close := .marked } })
  /-- Emission judges a place (R160). -/
  | emit (s) (emitting : s.abu.close = .emitting) : Effect s (emitPlace s)
  /-- Statements leave the queue; a paused emission may resume (R161, R163). -/
  | fetch (s k) : Effect s { s with abu := { resumeEmission s.abu with statements := s.abu.statements.drop k } }
  /-- Entries of the lookaside purged (R152). -/
  | purge (s p) : Effect s { s with abu := { s.abu with lookaside := s.abu.lookaside.filter p } }

/-- A chain of effects. -/
abbrev Effects : State → State → Prop := Relation.ReflTransGen Effect

theorem Effect.one {s t : State} (h : Effect s t) : Effects s t := .single h
theorem Aside.effects {s t : State} (h : Aside s t) : Effects s t := .single (.aside h)

/-- A chain of effects, from the state as it stands or from what MODE-STOP leaves of it: MODE-STOP stops the clock
before it changes the mode (R172), so no chain of effects that keep the clock sound leads through it. -/
def Acts (s t : State) : Prop := ∃ u, (u = s ∨ u = modeStop s) ∧ Effects u t

theorem Effects.acts {s t : State} (h : Effects s t) : Acts s t := ⟨s, .inl rfl, h⟩
theorem acts_modeStop (s) : Acts s (modeStop s) := ⟨_, .inr rfl, .refl⟩
theorem Acts.trans {s t u : State} : Acts s t → Effects t u → Acts s u := by
  rintro ⟨v, hv, h⟩ k; exact ⟨v, hv, h.trans k⟩

/-- What each effect keeps, a chain keeps. -/
theorem Effects.keep {P : State → Prop} (h : ∀ s t, Effect s t → P s → P t) {s t : State} (k : Effects s t)
    (hs : P s) : P t := by
  induction k with
  | refl => exact hs
  | tail _ last ih => exact h _ _ last ih

/-- What MODE-STOP and each effect keep, every act keeps. -/
theorem Acts.keep {P : State → Prop} (stop : ∀ s, P s → P (modeStop s)) (h : ∀ s t, Effect s t → P s → P t)
    {s t : State} (k : Acts s t) (hs : P s) : P t := by
  obtain ⟨u, rfl | rfl, k⟩ := k
  · exact k.keep h hs
  · exact k.keep h (stop s hs)

end Sys2Proof.Machine
end

section
/-!
What every request leaves of the clock, the queues and the logs: nothing changed for most of them.
-/
namespace Sys2Proof.Machine

section
variable {α : Type} {kind : Byte} {parse : List Byte → Option α} {judge : α → State → Answer} {p : List Byte}
  {s t : State}

/-- A request acts as its rule does. -/
theorem request_acts (h : request kind parse judge p s = .next t) (hj : ∀ f, (judge f s).Leaves (Acts s)) :
    Acts s t := by
  obtain h | ⟨f, code, q, u, hf, h⟩ := request_next h
  · exact h.aside.effects.acts
  · have := hj f
    rw [hf] at this
    exact Acts.trans this h.aside.effects

theorem request_effects (h : request kind parse judge p s = .next t) (hj : ∀ f, (judge f s).Leaves (Effects s)) :
    Acts s t := request_acts h fun f => (hj f).mono fun _ => Effects.acts

theorem request_aside (h : request kind parse judge p s = .next t) (hj : ∀ f, (judge f s).Leaves (Aside s)) :
    Acts s t := request_effects h fun f => (hj f).mono fun _ => Aside.effects

end

/-! ## Chapter 2 -/

theorem aside_rebase (role ch s) : Aside s (rebase role ch s) := by
  cases role <;> exact ⟨rfl, rfl, rfl, rfl, rfl, rfl, rfl, rfl⟩

theorem Aside.trans {a b c : State} (h : Aside a b) (k : Aside b c) : Aside a c :=
  ⟨k.mode.trans h.mode, k.sck.trans h.sck, k.queue.trans h.queue, k.exportLog.trans h.exportLog,
    k.close.trans h.close, k.closing.trans h.closing, k.statements.trans h.statements,
    k.lookaside.trans h.lookaside⟩

theorem aside_fiu (s x) : Aside s { s with fiu := x } := ⟨rfl, rfl, rfl, rfl, rfl, rfl, rfl, rfl⟩
theorem aside_gbu (s x) : Aside s { s with gbu := x } := ⟨rfl, rfl, rfl, rfl, rfl, rfl, rfl, rfl⟩
theorem aside_dcu (s x) : Aside s { s with dcu := x } := ⟨rfl, rfl, rfl, rfl, rfl, rfl, rfl, rfl⟩
theorem aside_cnu (s x) : Aside s { s with cnu := x } := ⟨rfl, rfl, rfl, rfl, rfl, rfl, rfl, rfl⟩
theorem aside_exs (s) {x : Exs} (h : x.log = s.exs.log) : Aside s { s with exs := x } :=
  ⟨rfl, rfl, rfl, h, rfl, rfl, rfl, rfl⟩
theorem aside_setMeter (m x s) : Aside s (setMeter m x s) := ⟨rfl, rfl, rfl, rfl, rfl, rfl, rfl, rfl⟩
theorem aside_setEntry (i e s) : Aside s (setEntry i e s) := ⟨rfl, rfl, rfl, rfl, rfl, rfl, rfl, rfl⟩
theorem aside_setConsumers (v s) : Aside s (setConsumers v s) := ⟨rfl, rfl, rfl, rfl, rfl, rfl, rfl, rfl⟩
theorem aside_setGrade (g e s) : Aside s (setGrade g e s) := ⟨rfl, rfl, rfl, rfl, rfl, rfl, rfl, rfl⟩
theorem aside_setPoint (i p s) : Aside s (setPoint i p s) := ⟨rfl, rfl, rfl, rfl, rfl, rfl, rfl, rfl⟩
theorem aside_setSensor (r s) : Aside s (setSensor r s) := ⟨rfl, rfl, rfl, rfl, rfl, rfl, rfl, rfl⟩
theorem aside_formRecord (s) : Aside s (formRecord s) := ⟨rfl, rfl, rfl, rfl, rfl, rfl, rfl, rfl⟩

theorem Aside.form {s t : State} (h : Aside s t) : Aside s (formRecord t) := h.trans (aside_formRecord t)

theorem aside_rebaseReaders (old ch s) : Aside s (rebaseReaders old ch s) := by
  unfold rebaseReaders
  dsimp only
  repeat' split
  · exact (aside_rebase ..).trans (aside_rebase ..)
  · exact aside_rebase ..
  · exact aside_rebase ..
  · exact .refl s

theorem judgePulseSet_aside (f s) : (judgePulseSet f s).Leaves (Aside s) := by
  unfold judgePulseSet
  refine leaves_unlessRun fun _ => ?_
  repeat' split
  all_goals try trivial
  all_goals exact (aside_fiu s _).trans (aside_rebaseReaders ..)

theorem judgeEventSet_aside (f s) : (judgeEventSet f s).Leaves (Aside s) := by
  unfold judgeEventSet
  refine leaves_unlessRun fun _ => ?_
  repeat' split
  all_goals try trivial
  exact aside_fiu s _

theorem judgePointSet_aside (f s) : (judgePointSet f s).Leaves (Aside s) := by
  unfold judgePointSet
  refine leaves_unlessRun fun _ => ?_
  repeat' split
  all_goals try trivial
  exact (aside_setPoint ..).trans (signals_followSamples _).aside

/-! ## Chapters 3 and 4 -/

theorem judgeGradeSet_aside (f s) : (judgeGradeSet f s).Leaves (Aside s) := by
  unfold judgeGradeSet
  refine leaves_unlessRun fun _ => ?_
  split; · trivial
  split; · trivial
  split; · trivial
  split; · trivial
  exact (evaluates_gradeSetTo ..).aside.trans (signals_followHolders ..).aside

theorem judgeHolderSet_aside (f s) : (judgeHolderSet f s).Leaves (Aside s) := by
  unfold judgeHolderSet
  refine leaves_unlessRun fun _ => ?_
  repeat' split
  all_goals try trivial
  exact (aside_setGrade ..).trans (signals_followHolders ..).aside

theorem judgeConsumerSet_aside (f s) : (judgeConsumerSet f s).Leaves (Aside s) := by
  unfold judgeConsumerSet
  refine leaves_unlessRun fun _ => ?_
  dsimp only
  repeat' split
  all_goals try trivial
  · exact aside_setConsumers ..
  · exact (aside_setConsumers ..).trans (signals_followBlocked ..).aside

theorem judgeConsumerEnable_aside (f s) : (judgeConsumerEnable f s).Leaves (Aside s) := by
  unfold judgeConsumerEnable
  dsimp only
  repeat' split
  all_goals try trivial
  exact (aside_setConsumers ..).trans (signals_followBlocked ..).aside

theorem judgeRequestSet_aside (f s) : (judgeRequestSet f s).Leaves (Aside s) := by
  unfold judgeRequestSet
  split; · trivial
  dsimp only
  split; · trivial
  exact aside_setConsumers ..

/-! ## Chapter 5 -/

theorem judgeDriveSet_aside (f s) : (judgeDriveSet f s).Leaves (Aside s) := by
  unfold judgeDriveSet
  dsimp only
  repeat' split
  all_goals try trivial
  exact aside_dcu s _

theorem judgeDriveSetpoint_aside (f s) : (judgeDriveSetpoint f s).Leaves (Aside s) := by
  unfold judgeDriveSetpoint
  split; · trivial
  dsimp only
  split; · trivial
  exact aside_dcu s _

theorem judgeDriveStart_aside (k s) : (judgeDriveStart k s).Leaves (Aside s) := by
  unfold judgeDriveStart
  dsimp only
  repeat' split
  all_goals try trivial
  exact aside_dcu s _

theorem judgeDriveStop_aside (k s) : (judgeDriveStop k s).Leaves (Aside s) := by
  unfold judgeDriveStop
  repeat' split
  all_goals try trivial
  exact aside_dcu s _

theorem judgeDrivePosition_aside (f s) : (judgeDrivePosition f s).Leaves (Aside s) := by
  unfold judgeDrivePosition
  dsimp only
  repeat' split
  all_goals try trivial
  exact aside_dcu s _

theorem aside_tickPair (ch s) : Aside s (tickPair ch s) := aside_dcu s _

/-! ## Chapter 6 -/

theorem judgeExportSet_aside (f s) : (judgeExportSet f s).Leaves (Aside s) := by
  unfold judgeExportSet
  split; · trivial
  split; · trivial
  split; · trivial
  exact .form (aside_exs s (by rfl))

theorem judgeNominate_aside (f s) : (judgeNominate f s).Leaves (Aside s) := by
  unfold judgeNominate
  split; · trivial
  split; · trivial
  exact leaves_nominationDone fun d => ⟨rfl, rfl, rfl, rfl, rfl, rfl, rfl, rfl⟩

theorem judgeNominateAmend_aside (f s) : (judgeNominateAmend f s).Leaves (Aside s) := by
  unfold judgeNominateAmend
  split; · trivial
  split; · trivial
  split; · trivial
  exact leaves_nominationDone fun d => ⟨rfl, rfl, rfl, rfl, rfl, rfl, rfl, rfl⟩

theorem judgeCurtail_aside (f s) : (judgeCurtail f s).Leaves (Aside s) := by
  unfold judgeCurtail
  split; · trivial
  split; · trivial
  exact .form (aside_exs s (by rfl))

/-! ## Chapters 7 and 8 -/

theorem judgeMeterSet_aside (f s) : (judgeMeterSet f s).Leaves (Aside s) := by
  unfold judgeMeterSet
  refine leaves_unlessRun fun _ => ?_
  repeat' split
  all_goals try trivial
  exact aside_setMeter ..

theorem judgeMeterKey_aside (f s) : (judgeMeterKey f s).Leaves (Aside s) := by
  unfold judgeMeterKey
  split; · trivial
  exact aside_setMeter ..

theorem judgeMeterConfirm_aside (k s) : (judgeMeterConfirm k s).Leaves (Aside s) := by
  unfold judgeMeterConfirm
  split; · trivial
  exact ⟨rfl, rfl, rfl, rfl, rfl, rfl, rfl, rfl⟩

theorem judgeAccountAdd_aside (f s) : (judgeAccountAdd f s).Leaves (Aside s) := by
  unfold judgeAccountAdd
  repeat' split
  all_goals try trivial
  exact aside_setEntry ..

theorem judgeAccountRemove_aside (k s) : (judgeAccountRemove k s).Leaves (Aside s) := by
  refine leaves_withAccount fun i e => ?_
  split; · trivial
  exact aside_setEntry ..

theorem judgeAccountSuspend_aside (k s) : (judgeAccountSuspend k s).Leaves (Aside s) :=
  leaves_withAccount fun _ _ => aside_setEntry ..

theorem judgeAccountResume_aside (k s) : (judgeAccountResume k s).Leaves (Aside s) :=
  leaves_withAccount fun _ _ => aside_setEntry ..

theorem judgeAccountTariff_aside (f s) : (judgeAccountTariff f s).Leaves (Aside s) := by
  unfold judgeAccountTariff
  split; · trivial
  split; · trivial
  exact leaves_withAccount fun _ _ => aside_setEntry ..

theorem judgeTariffSet_aside (f s) : (judgeTariffSet f s).Leaves (Aside s) := by
  unfold judgeTariffSet
  split; · trivial
  exact ⟨rfl, rfl, rfl, rfl, rfl, rfl, rfl, rfl⟩

theorem judgeBandmapSet_aside (f s) : (judgeBandmapSet f s).Leaves (Aside s) := by
  unfold judgeBandmapSet
  repeat' split
  all_goals try trivial
  exact ⟨rfl, rfl, rfl, rfl, rfl, rfl, rfl, rfl⟩

/-! ## Chapter 10 -/

theorem judgeConditionRaise_aside (f s) : (judgeConditionRaise f s).Leaves (Aside s) := by
  unfold judgeConditionRaise
  split; · trivial
  exact aside_cnu s _

theorem judgeConditionRoute_aside (f s) : (judgeConditionRoute f s).Leaves (Aside s) := by
  unfold judgeConditionRoute
  repeat' split
  all_goals try trivial
  exact aside_cnu s _

/-! ## Reads -/

theorem judgeGradeRead_aside (k s) : (judgeGradeRead k s).Leaves (Aside s) := by
  unfold judgeGradeRead
  split; · trivial
  exact .refl s

theorem judgeConsumerRead_aside (k s) : (judgeConsumerRead k s).Leaves (Aside s) := by
  unfold judgeConsumerRead
  split; · trivial
  exact .refl s

theorem judgeMeterRead_aside (k s) : (judgeMeterRead k s).Leaves (Aside s) := by
  unfold judgeMeterRead
  split; · trivial
  exact .refl s

theorem judgeSuspenseRead_aside (k s) : (judgeSuspenseRead k s).Leaves (Aside s) := by
  unfold judgeSuspenseRead
  split; · trivial
  exact .refl s

theorem judgeRetireRead_aside (f s) : (judgeRetireRead f s).Leaves (Aside s) := by
  unfold judgeRetireRead
  split; · trivial
  split; · trivial
  exact .refl s

theorem judgeNominationRead_aside (f s) : (judgeNominationRead f s).Leaves (Aside s) := by
  unfold judgeNominationRead
  split; · trivial
  exact leaves_checkRange (.refl s)

end Sys2Proof.Machine
end

section
/-!
The operations of the blocks as chains of effects on the clock, the queues and the logs.
-/
namespace Sys2Proof.Machine

theorem effects_foldl {α : Type} {f : State → α → State} (h : ∀ s x, Effects s (f s x)) (l : List α) (s : State) :
    Effects s (l.foldl f s) := foldl_related (fun _ => .refl) (fun h k => h.trans k) h l s

/-! ## Captures and slot timers -/

theorem effects_appendCapture (r s) : Effects s (appendCapture r s) := by
  unfold appendCapture
  split
  · next room => exact (Effect.captures s (s.sck.log ++ [r]) fun _ => by
      simp only [Config.captureLogSize, List.length_append, List.length_singleton] at room ⊢
      omega).one.trans (signals_follow ..).aside.effects
  · exact (Effect.captures s (s.sck.log.tail ++ [r]) fun size => by
      simp only [List.length_append, List.length_tail, List.length_singleton]
      omega).one.trans ((signals_follow ..).trans (signals_raise ..)).aside.effects

theorem effects_triggerUnit (u c s) : Effects s (triggerUnit u c s) := by
  unfold triggerUnit
  split
  · exact (effects_appendCapture (captureRecord u c s) s).trans (Effect.units _ _).one
  · exact .refl

theorem effects_triggerUnits (p c s) : Effects s (triggerUnits p c s) :=
  effects_foldl (fun s u => by
    split
    · exact effects_triggerUnit u c s
    · exact .refl) _ s

/-- A timer after its expiry: IDLE where it is a ONCE timer (R11). -/
def expired (x : SlotTimer) : SlotTimer := { x with armed := decide (x.again ≠ TimerRepeat.once) }

/-- The state in which an expiring timer becomes IDLE or not: its condition raised, its unit triggered (R11). -/
def signalled (n : Fin 4) (s : State) : State :=
  match s.sck.timers[n].unit with
  | some u =>
    if s.sck.units[u].trigger = Trigger.timer then triggerUnit u (.timer n) (s.raise (condTimer n) n.1 s.sck.pos)
    else s.raise (condTimer n) n.1 s.sck.pos
  | none => s.raise (condTimer n) n.1 s.sck.pos

theorem expireTimer_eq (n s) : expireTimer n s = { signalled n s with
    sck := { (signalled n s).sck with timers := put (signalled n s).sck.timers n (expired s.sck.timers[n]) } } := rfl

theorem effects_signalled (n s) : Effects s (signalled n s) := by
  have raised := (signals_raise (condTimer n) n.1 s.sck.pos s).aside.effects
  unfold signalled
  split
  · split
    · exact raised.trans (effects_triggerUnit ..)
    · exact raised
  · exact raised

theorem signalled_timers (n s) : (signalled n s).sck.timers = s.sck.timers := by
  unfold signalled
  split
  · split
    · obtain ⟨_, _, _, h⟩ := captures_triggerUnit _ (.timer n) (s.raise (condTimer n) n.1 s.sck.pos)
      rw [h]
      rfl
    · rfl
  · rfl

/-- A timer that matches a step is ARMED with an offset that it keeps. -/
theorem effects_expireTimer (n s) (armed : s.sck.timers[n].armed = true) : Effects s (expireTimer n s) := by
  rw [expireTimer_eq]
  refine (effects_signalled n s).trans (Effect.timer _ n _ fun _ => .inr ?_).one
  rw [signalled_timers]
  exact ⟨armed, rfl⟩

theorem effects_stepStart (s) : Effects s (stepStart s) :=
  effects_foldl (fun s n => by
    split
    · next h =>
      refine effects_expireTimer n s ?_
      simp only [timerMatches, Bool.and_eq_true] at h
      exact h.1.1
    · exact .refl) _ s

/-! ## Export -/

theorem aside_changePlan (p t s) : Aside s (changePlan p t s) := ⟨rfl, rfl, rfl, rfl, rfl, rfl, rfl, rfl⟩
theorem aside_swapTables (t s) : Aside s (swapTables t s) := ⟨rfl, rfl, rfl, rfl, rfl, rfl, rfl, rfl⟩

theorem aside_updatePlan (t s) : Aside s (updatePlan t s) := by
  unfold updatePlan
  split
  · exact .refl s
  · split
    · exact aside_swapTables ..
    · exact .refl s
  · split
    · exact aside_swapTables ..
    · dsimp only
      split
      · exact ⟨rfl, rfl, rfl, rfl, rfl, rfl, rfl, rfl⟩
      · exact aside_exs s (by rfl)

theorem aside_rolloverPlan (t s) : Aside s (rolloverPlan t s) := by
  unfold rolloverPlan
  split
  · exact aside_swapTables ..
  split
  · split
    · exact aside_changePlan ..
    · exact ⟨rfl, rfl, rfl, rfl, rfl, rfl, rfl, rfl⟩
  · exact aside_updatePlan ..
  · exact .refl s

theorem effects_changeExport (st k t s) : Effects s (changeExport st k t s) := by
  unfold changeExport
  split
  · exact .refl
  · dsimp only
    refine .trans (Aside.effects ?_) (effects_triggerUnits ..)
    exact ⟨rfl, rfl, rfl, rfl, rfl, rfl, rfl, rfl⟩

theorem effects_countDeviation (b v s) : Effects s (countDeviation b v s) := by
  unfold countDeviation
  split
  · exact (aside_exs s (by rfl)).effects
  · have counted := ((aside_exs s (x := { s.exs with deviations := s.exs.deviations + 1 }) (by rfl)).trans
      (signals_raise condSlotDeviant b.ended.slot.1 b.ended _).aside).effects
    dsimp only
    split
    · exact counted.trans (effects_changeExport ..)
    · exact counted
  · exact .refl
  · exact .refl

theorem effects_appendSlotRecord (r s) : Effects s (appendSlotRecord r s) := by
  refine .trans (Effect.slots s _ fun size => ?_).one (signals_follow ..).aside.effects
  by_cases full : 16 ≤ s.exs.log.length
  · simp [Config.exportLogSize, full]; omega
  · simp [Config.exportLogSize, full]; omega

theorem effects_closeSlot (b s) : Effects s (closeSlot b s) := by
  unfold closeSlot
  dsimp only
  refine .trans ?_ (effects_appendSlotRecord ..)
  refine .trans ?_ (Aside.effects (aside_exs _ ?_))
  refine .trans (Aside.effects ?_) (effects_countDeviation ..)
  · split <;> exact ⟨rfl, rfl, rfl, rfl, rfl, rfl, rfl, rfl⟩
  · unfold countRecovery
    repeat' split
    all_goals rfl

theorem effects_enterActive (t s) : Effects s (enterActive t s) :=
  .trans (aside_exs s (by rfl)).effects (effects_changeExport ..)

theorem effects_judgeExportState (t s) : Effects s (judgeExportState t s) := by
  unfold judgeExportState
  repeat' split
  all_goals try exact .refl
  · exact effects_enterActive ..
  · exact effects_changeExport ..
  · exact effects_enterActive ..

theorem effects_prepareSlot (b s) : Effects s (prepareSlot b s) := by
  unfold prepareSlot
  dsimp only
  refine .trans ?_ (aside_formRecord _).effects
  refine .trans ?_ (aside_exs _ (by rfl)).effects
  refine .trans ?_ (effects_judgeExportState ..)
  refine .trans ?_ (aside_exs _ (by rfl)).effects
  split
  · exact (aside_rolloverPlan ..).effects
  · exact (aside_updatePlan ..).effects

theorem effects_exportBoundary (b s) : Effects s (exportBoundary b s) := by
  unfold exportBoundary
  dsimp only
  have taken := (aside_exs s (x := takeStep b s.exs) (by rfl)).effects
  split
  · exact taken.trans ((effects_closeSlot ..).trans (effects_prepareSlot ..))
  · exact taken

theorem aside_exportModeStart (s) : Aside s (exportModeStart s) := by
  unfold exportModeStart
  dsimp only
  refine .form (.trans ?_ (aside_exs _ (by rfl)))
  split
  · exact .trans (aside_exs s (by rfl)) (aside_swapTables ..)
  · exact aside_exs s (by rfl)

theorem effects_exportModeStop (s) : Effects s (exportModeStop s) :=
  (effects_changeExport .idle 0 s.sck.pos s).trans (Aside.form (aside_exs _ (by rfl))).effects

/-! ## The retire queue -/

theorem mapReadings_length (f q) : (mapReadings f q).length = q.length := by simp [mapReadings]

theorem mapReadings_markers (f q) : (mapReadings f q).countP isMarker = q.countP isMarker := by
  unfold mapReadings
  rw [List.countP_map]
  congr 1
  funext e
  cases e <;> rfl

theorem effects_freshNotice (r s) : Effects s (freshNotice r s) := by
  unfold freshNotice
  split
  · exact (Effect.settle s _ (mapReadings_length ..) (mapReadings_markers ..)).one
  · exact .refl

theorem effects_countDownQueue (n s) : Effects s (countDownQueue n s) := by
  refine (Effect.settle s _ ?_ ?_).one
  · rw [List.length_append, mapReadings_length, ← List.length_append, List.take_append_drop]
  · rw [List.countP_append, mapReadings_markers, ← List.countP_append, List.take_append_drop]

theorem effects_meterBoundary (tag s m) : Effects s (meterBoundary tag s m) := by
  unfold meterBoundary
  dsimp only
  split
  · exact .refl
  split
  · exact (aside_setMeter ..).effects
  split
  · exact ((aside_setMeter ..).trans (signals_raise ..).aside).effects
  · next room =>
    refine .trans (b := setMeter m _ s) (aside_setMeter ..).effects (Effect.form _ _ ?_ rfl rfl).one
    simpa [Config.retireQueueSize] using room

theorem effects_meterBoundaries (b s) : Effects s (meterBoundaries b s) :=
  effects_foldl (effects_meterBoundary b.ended) _ s

/-! ## Ticks, samples and records -/

theorem effects_takeBoundary (o s) : Effects s (takeBoundary o s) := by
  have blocks : ∀ b s, Effects s (balanceAndExport o b s) := fun b s => by
    unfold balanceAndExport
    split
    · exact (effects_exportBoundary b s).trans (balances_balanceBoundary ..).aside.effects
    · exact (balances_balanceBoundary b s).aside.effects.trans (effects_exportBoundary ..)
  unfold takeBoundary
  dsimp only
  refine .trans ?_ (effects_meterBoundaries ..)
  refine .trans (Effect.advance s).one ?_
  unfold timersAndBlocks
  split
  · exact (effects_stepStart _).trans (blocks ..)
  · exact (blocks ..).trans (effects_stepStart _)

theorem effects_boundaryTick (o s) : Effects s (boundaryTick o s) := by
  have aged : ∀ s, Effects s (agePoints s) := fun s => (ages_agePoints s).aside.effects
  unfold boundaryTick
  dsimp only
  cases o.fiuFirst <;> cases o.hmuFirst <;> simp only [if_true, if_false, Bool.false_eq_true]
  · exact ((effects_takeBoundary ..).trans (effects_countDownQueue ..)).trans (aged _)
  · exact ((effects_countDownQueue ..).trans (effects_takeBoundary ..)).trans (aged _)
  · exact ((aged s).trans (effects_takeBoundary ..)).trans (effects_countDownQueue ..)
  · exact ((aged s).trans (effects_countDownQueue ..)).trans (effects_takeBoundary ..)

theorem effects_tick (o s) : Effects s (tick o s) := by
  unfold tick
  split
  · exact effects_boundaryTick o s
  · next within =>
    refine .trans (Effect.tick s (by simpa using within)).one ?_
    exact (ages_agePoints _).aside.effects.trans (effects_countDownQueue ..)

theorem aside_gridHoldChange (l s) : Aside s (gridHoldChange l s) := by
  unfold gridHoldChange
  split
  · exact aside_formRecord _
  · exact .refl _

theorem effects_reportChange (l v s) : Effects s (reportChange l v s) :=
  (effects_triggerUnits ..).trans ((aside_dcu _ _).trans (aside_gridHoldChange ..)).effects

theorem effects_sampleLines (levels s) : Effects s (sampleLines levels s) := by
  refine effects_foldl (fun s l => ?_) _ s
  unfold sampleStep
  dsimp only
  split
  · exact (aside_fiu s (x := _)).effects.trans (effects_reportChange ..)
  · exact (aside_fiu s _).effects

theorem effects_judgeRecord (r s) : Effects s (judgeRecord r s) := by
  unfold judgeRecord
  dsimp only
  repeat' split
  all_goals try exact (signals_raise ..).aside.effects
  · refine .trans (Aside.effects ?_) (effects_freshNotice ..)
    exact (aside_setPoint ..).trans (signals_followSamples _).aside
  · exact (ages_takeBad ..).aside.effects
  · exact .refl

theorem effects_sensorByte (s b) : Effects s (sensorByte s b) := by
  unfold sensorByte
  repeat' split
  · exact (aside_setSensor ..).effects
  · exact .refl
  · exact (aside_setSensor ..).effects
  · exact (aside_setSensor ..).effects.trans (effects_judgeRecord ..)

theorem effects_breakRecord (s) : Effects s (breakRecord s) := by
  unfold breakRecord
  split
  · exact .refl
  · exact ((aside_setSensor ..).trans (signals_raise ..).aside).effects

/-! ## The modes and the resets -/

theorem aside_balanceModeStart (s) : Aside s (balanceModeStart s) := aside_gbu s _

theorem effects_modeStart (s) : Effects s (modeStart s) :=
  (Effect.start s).one.trans ((effects_stepStart _).trans
    ((aside_balanceModeStart _).trans (aside_exportModeStart _)).effects)

@[simp] theorem modeStop_mode (s) : (modeStop s).lkp.mode = .setup := rfl

theorem flushQueue_mode (s) : (flushQueue s).lkp.mode = s.lkp.mode := by rw [(retires_flushQueue s).ticks.2.1]

theorem acts_warmReset (s) : Acts s (warmReset s) := by
  have rest : ∀ t : State, t.lkp.mode = .setup → Effects t { t with
      cnu := clearConds (BitVec.allOnes 32) t.cnu
      abu := { t.abu with lookaside := [] }
      sck := idleTimers t.sck
      fiu := { t.fiu with sensor := .hunting }
      lkp := { t.lkp with rx := .hunting, answer := false, overrun := false, reply := none, mode := .setup } } :=
    fun t ht => by
      have purged := Effect.purge t fun _ => false
      rw [List.filter_false] at purged
      refine (purged.one.trans (Effect.idle _).one).trans (Aside.effects ?_)
      exact ⟨ht.symm, rfl, rfl, rfl, rfl, rfl, rfl, rfl⟩
  unfold warmReset
  dsimp only
  split
  · exact (acts_modeStop s).trans (rest _ (modeStop_mode s))
  · next h => exact Effects.acts ((Effect.flush s).one.trans (rest _ ((flushQueue_mode s).trans h)))

end Sys2Proof.Machine
end

section
/-!
Every command, and so every step, as a chain of effects on the clock, the queues and the logs.
-/
namespace Sys2Proof.Machine

/-! ## The requests that touch them -/

theorem judgeModeStart_effects (f s) : (judgeModeStart f s).Leaves (Effects s) := by
  unfold judgeModeStart
  split
  · trivial
  split
  · trivial
  · exact effects_modeStart s

theorem judgeModeStop_acts (f s) : (judgeModeStop f s).Leaves (Acts s) := by
  unfold judgeModeStop
  split
  · trivial
  · exact acts_modeStop s

theorem all_timers {v : Vector SlotTimer 4} {p : SlotTimer → Bool} (h : v.toList.any p = false) (n : Fin 4) :
    p v[n] = false := by
  rw [List.any_eq_false] at h
  have := h v[n] (Vector.mem_toList_iff.2 (Vector.getElem_mem n.2))
  simpa using this

theorem judgeClockSet_effects (f s) : (judgeClockSet f s).Leaves (Effects s) := by
  unfold judgeClockSet
  refine leaves_unlessRun fun mode => ?_
  split
  · trivial
  next slotS =>
  split
  · trivial
  next step =>
  split
  · trivial
  next frame =>
  split
  · trivial
  next slot _ =>
  split
  · trivial
  next pos =>
  split
  · trivial
  next fits =>
  refine (Effect.clockSet s f slot mode (by simpa using slotS) (by omega) (by omega) (by omega) (by omega) (by omega)
    fun n armed => ?_).one
  have := all_timers (Bool.eq_false_of_not_eq_true fits) n
  rw [armed, Bool.true_and, decide_eq_false_iff_not] at this
  omega

theorem judgeClockTrim_effects (t s) : (judgeClockTrim t s).Leaves (Effects s) := by
  unfold judgeClockTrim
  split
  · trivial
  · next mode => exact (Effect.trim s t mode).one

theorem judgeTimerSet_effects (f s) : (judgeTimerSet f s).Leaves (Effects s) := by
  unfold judgeTimerSet
  split; · trivial
  split; · trivial
  split; · trivial
  split; · trivial
  next fits =>
  split; · trivial
  split; · trivial
  split; · trivial
  exact (Effect.timer s _ _ fun _ => .inl (Nat.lt_of_not_le fits)).one

theorem judgeTimerDisarm_effects (k s) : (judgeTimerDisarm k s).Leaves (Effects s) := by
  unfold judgeTimerDisarm
  split
  · trivial
  · exact (Effect.timer s _ _ fun h => absurd h Bool.false_ne_true).one

theorem judgeCaptureSet_effects (f s) : (judgeCaptureSet f s).Leaves (Effects s) := by
  unfold judgeCaptureSet
  repeat' split
  all_goals try trivial
  exact (Effect.units s _).one

theorem judgeCaptureDisarm_effects (k s) : (judgeCaptureDisarm k s).Leaves (Effects s) := by
  unfold judgeCaptureDisarm
  split
  · trivial
  · exact (Effect.units s _).one

theorem judgeCaptureTrigger_effects (k s) : (judgeCaptureTrigger k s).Leaves (Effects s) := by
  unfold judgeCaptureTrigger
  split
  · trivial
  split
  · exact effects_triggerUnit ..
  · trivial

theorem judgeCaptureFetch_effects (f s) : (judgeCaptureFetch f s).Leaves (Effects s) := by
  have fetched := (Effect.captures s (s.sck.log.drop Config.fetchSize) fun size => by
    rw [List.length_drop]; omega).one
  unfold judgeCaptureFetch
  dsimp only
  split
  · exact fetched.trans (signals_follow ..).aside.effects
  · exact fetched

theorem judgeExportArm_effects (f s) : (judgeExportArm f s).Leaves (Effects s) := by
  unfold judgeExportArm
  split
  · trivial
  · exact (effects_changeExport ..).trans (aside_formRecord _).effects

theorem judgeExportHalt_effects (f s) : (judgeExportHalt f s).Leaves (Effects s) := by
  unfold judgeExportHalt
  split
  · trivial
  · exact (effects_changeExport .halted 0 s.sck.pos s).trans (Aside.form (aside_exs _ (by rfl))).effects

theorem judgeExportRelease_effects (f s) : (judgeExportRelease f s).Leaves (Effects s) := by
  unfold judgeExportRelease
  split
  · trivial
  · exact (effects_changeExport .idle 0 s.sck.pos s).trans (Aside.form (aside_exs _ (by rfl))).effects

theorem judgeExportLogFetch_effects (f s) : (judgeExportLogFetch f s).Leaves (Effects s) := by
  have fetched := (Effect.slots s (s.exs.log.drop Config.fetchSize) fun size => by
    rw [List.length_drop]; omega).one
  unfold judgeExportLogFetch
  dsimp only
  split
  · exact fetched.trans (signals_follow ..).aside.effects
  · exact fetched

theorem judgeLookasidePurge_effects (k s) : (judgeLookasidePurge k s).Leaves (Effects s) := by
  unfold judgeLookasidePurge
  split
  · have purged := Effect.purge s fun _ => false
    rw [List.filter_false] at purged
    exact purged.one
  split
  · trivial
  · exact (Effect.purge s _).one

theorem judgePeriodClose_effects (f s) : (judgePeriodClose f s).Leaves (Effects s) := by
  unfold judgePeriodClose
  split
  · trivial
  next idle =>
  split
  · trivial
  next room => exact (Effect.mark s _ (not_not.1 idle) (Nat.lt_of_not_le room)).one

theorem judgeStatementFetch_effects (f s) : (judgeStatementFetch f s).Leaves (Effects s) := by
  have fetched := (Effect.fetch s Config.fetchSize).one
  unfold judgeStatementFetch
  dsimp only
  split
  · exact fetched.trans (signals_follow ..).aside.effects
  · exact fetched

/-! ## The events of drive channels -/

theorem execPeriodStart_effects {ch s t} (h : execPeriodStart ch s = .next t) : Effects s t := by
  unfold execPeriodStart at h
  dsimp only at h
  split at h <;> cases h
  · exact (aside_dcu s _).effects
  · exact .refl

theorem execActiveTimeEnd_effects {ch s t} (h : execActiveTimeEnd ch s = .next t) : Effects s t := by
  unfold execActiveTimeEnd at h
  dsimp only at h
  split at h <;> cases h
  · exact (aside_dcu s _).effects
  · exact .refl

/-- A row that is an event under a condition, and leaves the state as it is where that fails. -/
theorem effects_ite {c : Prop} [Decidable c] {s t : State} (h : Effects s t) : Effects s (if c then t else s) := by
  split
  · exact h
  · exact .refl

theorem execEmissionStep_effects {s t} (h : execEmissionStep s = .next t) : Effects s t := by
  unfold execEmissionStep at h
  split at h <;> cases h
  · next emitting => exact (Effect.emit s emitting).one
  all_goals exact .refl

theorem effects_sensorBytes (bytes : List Byte) (s) : Effects s (bytes.foldl sensorByte s) :=
  effects_foldl effects_sensorByte bytes s

theorem execSensorRecord_effects {bytes s t} (h : execSensorRecord bytes s = .next t) : Effects s t := by
  unfold execSensorRecord at h
  split at h <;> cases h
  · exact (aside_setSensor ..).effects.trans (effects_sensorBytes ..)
  · exact effects_sensorBytes ..

theorem execSensorRecordBroken_effects {bytes cause s t} (h : execSensorRecordBroken bytes cause s = .next t) :
    Effects s t := by
  have broken := (effects_sensorBytes bytes s).trans (effects_breakRecord _)
  unfold execSensorRecordBroken at h
  dsimp only at h
  split at h <;> cases h
  · exact broken
  · split
    · exact broken.trans (effects_sensorByte ..)
    · exact broken

/-! ## The events of the link -/

theorem execUnknownKind_effects {kind p s t} (h : execUnknownKind kind p s = .next t) : Effects s t := by
  unfold execUnknownKind at h
  split at h
  · cases h; exact .refl
  split at h <;> cases h
  · exact (relinked_overrunFrame ..).aside.effects
  · exact (relinked_answer ..).aside.effects

theorem execLinkFrameBroken_effects {cause s t} (h : execLinkFrameBroken cause s = .next t) : Effects s t := by
  unfold execLinkFrameBroken at h
  split at h <;> cases h
  · exact .refl
  · exact (relinked_breakBy ..).aside.effects

theorem execFrameDiscarded_effects {bytes s t} (h : execFrameDiscarded bytes s = .next t) : Effects s t := by
  unfold execFrameDiscarded at h
  dsimp only at h
  cases h
  exact effects_ite (relinked_discardFrame ..).aside.effects

theorem relinked_replyEnded (s) : Relinked s (replyEnded s) := ⟨_, s.cnu, rfl, rfl⟩

theorem execReplySent_acts {s t} (h : execReplySent s = .next t) : Acts s t := by
  unfold execReplySent at h
  cases h
  split
  · exact acts_warmReset s
  · exact (relinked_replyEnded s).aside.effects.acts

/-- Every command but the byte of E7H, which may complete a frame, acts on them by effects. -/
theorem exec_acts_of_ne {c : Instr} {s t : State} (hc : c ≠ .linkStartByte) (h : exec c s = .next t) :
    Acts s t := by
  cases c with
  | coldReset lsel levels => cases h; exact (Effect.cold s lsel levels).one.acts
  | warmReset => cases h; exact acts_warmReset s
  | identify p => exact request_aside h (fun _ => Aside.refl s)
  | status p => exact request_aside h (fun _ => Aside.refl s)
  | modeStart p => exact request_effects h (judgeModeStart_effects · s)
  | modeStop p => exact request_acts h (judgeModeStop_acts · s)
  | restart p => exact request_aside h (fun _ => Aside.refl s)
  | clockSet p => exact request_effects h (judgeClockSet_effects · s)
  | clockTrim p => exact request_effects h (judgeClockTrim_effects · s)
  | clockRead p => exact request_aside h (fun _ => Aside.refl s)
  | timerSet p => exact request_effects h (judgeTimerSet_effects · s)
  | timerDisarm p => exact request_effects h (judgeTimerDisarm_effects · s)
  | captureSet p => exact request_effects h (judgeCaptureSet_effects · s)
  | captureDisarm p => exact request_effects h (judgeCaptureDisarm_effects · s)
  | captureTrigger p => exact request_effects h (judgeCaptureTrigger_effects · s)
  | captureFetch p => exact request_effects h (judgeCaptureFetch_effects · s)
  | pulseSet p => exact request_aside h (judgePulseSet_aside · s)
  | pulseRead p => exact request_aside h (fun _ => leaves_checkRange (Aside.refl s))
  | eventSet p => exact request_aside h (judgeEventSet_aside · s)
  | eventRead p => exact request_aside h (fun _ => Aside.refl s)
  | pointSet p => exact request_aside h (judgePointSet_aside · s)
  | pointRead p => exact request_aside h (fun _ => leaves_checkRange (Aside.refl s))
  | gradeSet p => exact request_aside h (judgeGradeSet_aside · s)
  | holderSet p => exact request_aside h (judgeHolderSet_aside · s)
  | gradeRead p => exact request_aside h (judgeGradeRead_aside · s)
  | consumerSet p => exact request_aside h (judgeConsumerSet_aside · s)
  | consumerEnable p => exact request_aside h (judgeConsumerEnable_aside · s)
  | requestSet p => exact request_aside h (judgeRequestSet_aside · s)
  | consumerRead p => exact request_aside h (judgeConsumerRead_aside · s)
  | stepRead p => exact request_aside h (fun _ => Aside.refl s)
  | driveSet p => exact request_aside h (judgeDriveSet_aside · s)
  | driveSetpoint p => exact request_aside h (judgeDriveSetpoint_aside · s)
  | driveStart p => exact request_aside h (judgeDriveStart_aside · s)
  | driveStop p => exact request_aside h (judgeDriveStop_aside · s)
  | drivePosition p => exact request_aside h (judgeDrivePosition_aside · s)
  | driveRead p => exact request_aside h (fun _ => leaves_checkRange (Aside.refl s))
  | exportSet p => exact request_aside h (judgeExportSet_aside · s)
  | nominate p => exact request_aside h (judgeNominate_aside · s)
  | nominateCancel p => exact request_aside h (fun _ => aside_exs s (by rfl))
  | nominateAmend p => exact request_aside h (judgeNominateAmend_aside · s)
  | exportArm p => exact request_effects h (judgeExportArm_effects · s)
  | exportHalt p => exact request_effects h (judgeExportHalt_effects · s)
  | exportRelease p => exact request_effects h (judgeExportRelease_effects · s)
  | curtail p => exact request_aside h (judgeCurtail_aside · s)
  | exportLogFetch p => exact request_effects h (judgeExportLogFetch_effects · s)
  | exportRead p => exact request_aside h (fun _ => Aside.refl s)
  | nominationRead p => exact request_aside h (judgeNominationRead_aside · s)
  | meterSet p => exact request_aside h (judgeMeterSet_aside · s)
  | meterKey p => exact request_aside h (judgeMeterKey_aside · s)
  | meterConfirm p => exact request_aside h (judgeMeterConfirm_aside · s)
  | meterRead p => exact request_aside h (judgeMeterRead_aside · s)
  | retireRead p => exact request_aside h (judgeRetireRead_aside · s)
  | accountAdd p => exact request_aside h (judgeAccountAdd_aside · s)
  | accountRemove p => exact request_aside h (judgeAccountRemove_aside · s)
  | accountSuspend p => exact request_aside h (judgeAccountSuspend_aside · s)
  | accountResume p => exact request_aside h (judgeAccountResume_aside · s)
  | accountTariff p => exact request_aside h (judgeAccountTariff_aside · s)
  | accountRead p => exact request_aside h (fun _ => leaves_withAccount fun _ _ => Aside.refl s)
  | directoryRead p => exact request_aside h (fun _ => leaves_checkRange (Aside.refl s))
  | lookasidePurge p => exact request_effects h (judgeLookasidePurge_effects · s)
  | lookasideRead p => exact request_aside h (fun _ => Aside.refl s)
  | tariffSet p => exact request_aside h (judgeTariffSet_aside · s)
  | bandmapSet p => exact request_aside h (judgeBandmapSet_aside · s)
  | tariffRead p => exact request_aside h (fun _ => Aside.refl s)
  | suspenseRead p => exact request_aside h (judgeSuspenseRead_aside · s)
  | periodClose p => exact request_effects h (judgePeriodClose_effects · s)
  | statementFetch p => exact request_effects h (judgeStatementFetch_effects · s)
  | periodRead p => exact request_aside h (fun _ => Aside.refl s)
  | conditionRead p => exact request_aside h (fun _ => Aside.refl s)
  | conditionClear p => exact request_aside h (fun _ => aside_cnu s _)
  | conditionRaise p => exact request_aside h (judgeConditionRaise_aside · s)
  | conditionRoute p => exact request_aside h (judgeConditionRoute_aside · s)
  | unknownKind kind p => exact (execUnknownKind_effects (p := p) h).acts
  | linkFrameBroken cause => exact (execLinkFrameBroken_effects h).acts
  | frameDiscarded bytes => exact (execFrameDiscarded_effects h).acts
  | replySent => exact execReplySent_acts h
  | timebaseTick o => cases h; exact (effects_tick o s).acts
  | pointAgeExpiry sp o =>
    cases h
    split
    · exact Effects.acts .refl
    · exact (effects_tick o s).acts
  | stepBoundary o => cases h; exact (effects_ite (effects_tick o s)).acts
  | timerExpiry n o => cases h; exact (effects_ite (effects_tick o s)).acts
  | pulseArrival ch => cases h; exact (aside_fiu s _).effects.acts
  | eventLineChange l levels => cases h; exact (effects_ite (effects_sampleLines levels s)).acts
  | sensorRecord bytes => exact (execSensorRecord_effects h).acts
  | sensorRecordBroken bytes cause => exact (execSensorRecordBroken_effects h).acts
  | readingExpiry i o => cases h; exact (effects_ite (effects_tick o s)).acts
  | emissionStep => exact (execEmissionStep_effects h).acts
  | periodStart ch => exact (execPeriodStart_effects h).acts
  | activeTimeEnd ch => exact (execActiveTimeEnd_effects h).acts
  | pairTick ch => cases h; exact (effects_ite (aside_tickPair ch s).effects).acts
  | moveEnd ch => cases h; exact (effects_ite (aside_tickPair ch s).effects).acts
  | pauseEnd ch => cases h; exact (effects_ite (aside_tickPair ch s).effects).acts
  | eventLineSample levels => cases h; exact (effects_sampleLines levels s).acts
  | linkStartByte => exact absurd rfl hc
  | sensorStartByte => cases h; exact (effects_sensorByte ..).acts

/-- A frame spells a request, never the byte of E7H. -/
theorem requestOf_ne_linkStartByte (kind : Byte) (p : List Byte) : requestOf kind p ≠ .linkStartByte := by
  have table : ∀ c ∈ requestTable, c p ≠ .linkStartByte := by
    simp [requestTable]
  unfold requestOf
  split
  · nofun
  split
  · next hc => exact table _ (List.mem_of_getElem? hc)
  · nofun

theorem collectByte_acts {b l s t} (h : collectByte b l s = .next t) : Acts s t := by
  unfold collectByte completeFrame at h
  dsimp only at h
  split at h
  · cases h; exact (relinked_breakFrame ..).aside.effects.acts
  split at h
  · split at h
    · cases h; exact (relinked_discardFrame ..).aside.effects.acts
    · rw [dispatchFrame_eq_exec] at h
      exact exec_acts_of_ne (requestOf_ne_linkStartByte _ _) h
  · cases h; exact (relinked_lkp s (by rfl)).aside.effects.acts

theorem execLinkStartByte_acts {s t} (h : execLinkStartByte s = .next t) : Acts s t := by
  unfold execLinkStartByte at h
  split at h
  · cases h; exact (relinked_huntByte ..).aside.effects.acts
  · exact collectByte_acts h

/-- Every command is a chain of effects. -/
theorem exec_acts {c : Instr} {s t : State} (h : exec c s = .next t) : Acts s t := by
  by_cases hc : c = .linkStartByte
  · subst hc; exact execLinkStartByte_acts h
  · exact exec_acts_of_ne hc h

/-- What MODE-STOP and each effect keep, every step keeps. -/
theorem step_keeps {P : State → Prop} (stop : ∀ s, P s → P (modeStop s)) (effect : ∀ s t, Effect s t → P s → P t)
    {s t : State} (h : step s = .next t) (hs : P s) : P t := by
  unfold step at h
  split at h
  · cases h; exact effect _ _ (.quiet s) hs
  · exact (exec_acts h).keep stop effect (effect s _ (.aside ⟨rfl, rfl, rfl, rfl, rfl, rfl, rfl, rfl⟩) hs)

end Sys2Proof.Machine
end

section
/-!
The clock's invariant (R1 to R5, R8, R10): what each effect makes of the clock.
-/
namespace Sys2Proof.Machine

/-- What MODE-STOP leaves of the clock (R2, R172). -/
theorem modeStop_sck (s) : ∃ u l, (modeStop s).sck = { stopClock s.sck with units := u, log := l } := by
  unfold modeStop
  dsimp only
  rw [setMode_sck]
  obtain ⟨_, _, _, _, h⟩ := retires_flushQueue (exportModeStop (allocationModeStop
    { s with sck := stopClock s.sck, dcu := { s.dcu with channels := stopAll s.dcu.channels } }))
  rw [h]
  obtain ⟨_, u, l, _, h⟩ := exports_exportModeStop (allocationModeStop
    { s with sck := stopClock s.sck, dcu := { s.dcu with channels := stopAll s.dcu.channels } })
  rw [h]
  exact ⟨u, l, rfl⟩

/-- The position one step on lies in the schedule (R5). -/
theorem nextTag_inSchedule {c : Sck} (steps : 0 < stepsPerSlot c) (frame : c.pos.frame < 65536) :
    (nextTag c).frame < 65536 ∧ (nextTag c).step < stepsPerSlot c := by
  unfold nextTag lastOfSlot
  split
  · dsimp only
    split <;> omega
  · next h =>
    have : ¬ stepsPerSlot c ≤ c.pos.step + 1 := by simpa using h
    dsimp only
    omega

/-- A permitted slot has at least one permitted step (R1). -/
theorem stepsPerSlot_pos {c : Sck} (slotS : slotSPermitted c.slotS = true) (low : 2 ≤ c.stepS) (high : c.stepS ≤ 60) :
    0 < stepsPerSlot c := by
  have : 300 ≤ c.slotS := by
    simp only [slotSPermitted, Bool.or_eq_true, beq_iff_eq] at slotS
    omega
  exact Nat.div_pos (by omega) (by omega)

/-- The clock's invariant, from the clock and the mode. -/
theorem clockSound_of_eq {s t : State} (hs : t.sck = s.sck) (hm : t.lkp.mode = s.lkp.mode) (h : ClockSound s) :
    ClockSound t := by
  unfold ClockSound
  rw [hs, hm]
  exact h

theorem Retires.clockSound {s t : State} (r : Retires s t) (h : ClockSound s) : ClockSound t := by
  obtain ⟨_, _, _, _, rfl⟩ := r
  exact h

/-- Whole seconds of the elapsed count of a clock that runs (R3). -/
theorem elapsed_seconds {c : Sck} (running : c.running = true) (ticks : c.ticks < c.endCount)
    (phase : c.phaseMs < 1000) : elapsedCount c / 1000 = c.ticks := by
  unfold elapsedCount
  rw [if_pos running]
  omega

theorem trimTotal_bounds (c : Sck) (t : Int) : -5 ≤ trimTotal c t ∧ trimTotal c t ≤ 5 := by
  unfold trimTotal clampInt
  omega

/-- A trim leaves the step in progress within its end count (R8). -/
theorem trimmedEnd_bounds {c : Sck} {z : Int} (ticks : elapsedCount c / 1000 < c.endCount) (low : 2 ≤ c.endCount)
    (high : c.endCount ≤ c.stepS + 5) (hz : z ≤ 5) :
    2 ≤ trimmedEnd c z ∧ trimmedEnd c z ≤ c.stepS + 5 ∧ elapsedCount c / 1000 < trimmedEnd c z := by
  unfold trimmedEnd
  dsimp only
  split <;> omega

theorem advanceCursor_frame (p s) : ∃ a d, advanceCursor p s = { s with abu := a, cnu := d } := by
  unfold advanceCursor
  split <;> exact ⟨_, _, rfl⟩

/-- Emission changes the ABU and the conditions alone (R160). -/
theorem emitPlace_frame (s) : ∃ a d, emitPlace s = { s with abu := a, cnu := d } := by
  unfold emitPlace
  dsimp only
  split
  · exact advanceCursor_frame ..
  split
  · exact ⟨_, s.cnu, rfl⟩
  · obtain ⟨_, _, h⟩ := advanceCursor_frame (s.abu.closing.getD 0) (appendStatement _ _)
    rw [h]
    exact ⟨_, _, rfl⟩

theorem trimLow_zero : (-5 : Int) ≤ 0 := by decide
theorem trimHigh_zero : (0 : Int) ≤ 5 := by decide

/-- After a cold reset the clock is as R1 says. -/
theorem clockSound_cold (lsel levels q) : ClockSound { State.cold lsel levels with pending := q } := by
  have reset : ClockSound State.reset := by decide
  exact clockSound_of_eq rfl rfl reset

/-- MODE-STOP stops the clock with the mode, and abandons the step (R2). -/
theorem clockSound_modeStop {s} (h : ClockSound s) : ClockSound (modeStop s) := by
  obtain ⟨-, slotS, low, high, whole, frame, pos, -, -, -, -, -, -, phase, timers⟩ := h
  obtain ⟨u, l, hs⟩ := modeStop_sck s
  unfold ClockSound
  rw [hs, modeStop_mode]
  exact ⟨by simp [stopClock], slotS, low, high, whole, frame, pos, trimLow_zero, trimHigh_zero, low,
    Nat.le_add_right .., Nat.lt_of_lt_of_le Nat.zero_lt_two low, fun _ => rfl, phase, timers⟩

/-- A step that begins lasts STEP_S seconds, without a trim (R2, R4, R5). -/
theorem clockSound_startStep {c : Sck} (slotS : slotSPermitted c.slotS = true) (low : 2 ≤ c.stepS)
    (high : c.stepS ≤ 60) (whole : c.slotS % c.stepS = 0) {s : State} (hs : s.sck = startStep c)
    (running : c.running = true ↔ s.lkp.mode = .run) (frame : c.pos.frame < 65536)
    (pos : c.pos.step < stepsPerSlot c)
    (timers : ∀ n : Fin 4, c.timers[n].armed = true → c.timers[n].offset < stepsPerSlot c) : ClockSound s := by
  unfold ClockSound
  rw [hs]
  exact ⟨running, slotS, low, high, whole, frame, pos, trimLow_zero, trimHigh_zero, low, Nat.le_add_right ..,
    Nat.lt_of_lt_of_le Nat.zero_lt_two low, fun _ => rfl, Nat.zero_lt_succ _, timers⟩

/-- One effect keeps the clock's invariant. -/
theorem Effect.clockSound {s t : State} (e : Effect s t) (h : ClockSound s) : ClockSound t := by
  have sound := h
  obtain ⟨running, slotS, low, high, whole, frame, pos, trimLow, trimHigh, endLow, endHigh, ticks, stopped, phase,
    timers⟩ := sound
  have steps := stepsPerSlot_pos slotS low high
  cases e with
  | aside a => exact clockSound_of_eq a.sck a.mode h
  | cold lsel levels => exact clockSound_cold ..
  | start =>
    exact clockSound_startStep (c := { s.sck with running := true }) slotS low high whole rfl
      (by simp) frame pos timers
  | idle =>
    refine ⟨running, slotS, low, high, whole, frame, pos, trimLow_zero, trimHigh_zero, endLow, endHigh, ticks, stopped,
      phase, fun n armed => ?_⟩
    simp only [idleTimers, each_getElem, Bool.false_eq_true] at armed
  | clockSet f slot mode slotS' low' high' whole' frame' pos' fits =>
    have clock : s.sck.running = false := by simpa [mode] using running
    have zero := stopped clock
    exact ⟨running, slotS', low', high', whole', Nat.lt_succ_of_le frame', pos', trimLow_zero, trimHigh_zero,
      low', Nat.le_add_right .., by dsimp only [clockSetTo]; omega, stopped, phase, fits⟩
  | trim t mode =>
    have clock := running.2 mode
    have total := trimTotal_bounds s.sck t
    have seconds := elapsed_seconds clock ticks phase
    have last := trimmedEnd_bounds (by omega) endLow endHigh total.2
    exact ⟨running, slotS, low, high, whole, frame, pos, total.1, total.2, last.1, last.2.1,
      by dsimp only; omega, stopped, phase, timers⟩
  | timer n x fits =>
    refine ⟨running, slotS, low, high, whole, frame, pos, trimLow, trimHigh, endLow, endHigh, ticks, stopped, phase,
      fun m armed => ?_⟩
    dsimp only at armed ⊢
    by_cases hm : n = m
    · subst hm
      rw [put_getElem_self] at armed ⊢
      obtain fits | ⟨armed, offset⟩ := fits armed
      · exact fits
      · rw [offset]; exact timers n armed
    · rw [put_getElem_ne _ _ hm] at armed ⊢
      exact timers m armed
  | units v => exact h
  | captures l => exact h
  | slots l => exact h
  | tick within =>
    refine ⟨running, slotS, low, high, whole, frame, pos, trimLow, trimHigh, endLow, endHigh, ?_,
      fun clock => if_neg (Bool.eq_false_iff.1 clock), Nat.zero_lt_succ _, timers⟩
    dsimp only
    split
    · next clock =>
      have : ¬ s.sck.endCount ≤ s.sck.ticks + 1 := by simpa [boundaryDue, clock] using within
      omega
    · omega
  | advance =>
    obtain ⟨frame', pos'⟩ := nextTag_inSchedule steps frame
    exact clockSound_startStep (c := { s.sck with pos := nextTag s.sck }) slotS low high whole rfl running frame' pos'
      timers
  | quiet =>
    exact ⟨running, slotS, low, high, whole, frame, pos, trimLow, trimHigh, endLow, endHigh, ticks, stopped,
      Nat.lt_of_le_of_lt (Nat.min_le_right ..) (by decide), timers⟩
  | settle q => exact ((retires_setQueue ..).trans (retires_settleQueue _)).clockSound h
  | flush => exact (retires_flushQueue s).clockSound h
  | form r => exact h
  | mark p => exact (Retires.trans ⟨_, _, _, _, rfl⟩ (retires_retireRun _ _)).clockSound h
  | emit =>
    obtain ⟨a, d, hs⟩ := emitPlace_frame s
    rw [hs]
    exact h
  | fetch k => exact h
  | purge p => exact h

/-- Settles O55: every step is a chain of effects, each of which keeps the clock's invariant. -/
theorem clockStaysSound : Obligations.ClockStaysSound := by
  intro s t h
  exact step_keeps (P := ClockSound) (fun _ => clockSound_modeStop) (fun _ _ e => e.clockSound) h

end Sys2Proof.Machine
end

section
/-!
The invariant of the queues, the logs and the lookaside (R16, R122, R131, R137, R139, R143, R150, R160): what each
effect makes of them.
-/
namespace Sys2Proof.Machine

/-! ## The retire queue, settled -/

/-- A WAITING reading at position `k`. -/
def WaitsAt (q : List RetireEntry) (k : Nat) (r : Reading) : Prop := q[k]? = some (.reading r) ∧ r.finished = none

theorem waitsAt_zero {e q r} : WaitsAt (e :: q) 0 r ↔ e = .reading r ∧ r.finished = none := by simp [WaitsAt]
theorem waitsAt_succ {e q k r} : WaitsAt (e :: q) (k + 1) r ↔ WaitsAt q k r := by simp [WaitsAt]

/-- Every ready reading that is WAITING in the queue stands behind a WAITING one of its meter, or its meter is one of
`w`, the meters of the WAITING readings before the queue (R137). -/
def HeldBack : List (Fin 16) → List RetireEntry → Prop
  | _, [] => True
  | w, .marker _ :: q => HeldBack w q
  | w, .reading r :: q =>
    if r.finished.isSome then HeldBack w q else (r.ready = true → r.meter ∈ w) ∧ HeldBack (r.meter :: w) q

theorem heldBack_finished {w e q} (h : isWaiting e = false) : HeldBack w (e :: q) ↔ HeldBack w q := by
  cases e with
  | marker p => rfl
  | reading r =>
    have : r.finished.isSome = true := by simpa [isWaiting] using h
    simp [HeldBack, this]

theorem heldBack_waiting {w r q} (h : r.finished = none) :
    HeldBack w (.reading r :: q) ↔ (r.ready = true → r.meter ∈ w) ∧ HeldBack (r.meter :: w) q := by
  simp [HeldBack, h]

/-- `HeldBack` by positions. -/
theorem heldBack_iff {w : List (Fin 16)} {q : List RetireEntry} :
    HeldBack w q ↔ ∀ k r, WaitsAt q k r → r.ready = true →
      r.meter ∈ w ∨ ∃ j < k, ∃ r', WaitsAt q j r' ∧ r'.meter = r.meter := by
  induction q generalizing w with
  | nil => simp [HeldBack, WaitsAt]
  | cons e q ih =>
    cases he : isWaiting e with
    | false =>
      have notHead : ∀ r, ¬ WaitsAt (e :: q) 0 r := by
        rintro r h
        obtain ⟨rfl, hr⟩ := waitsAt_zero.1 h
        simp [isWaiting, hr] at he
      rw [heldBack_finished he, ih]
      constructor
      · rintro h (_ | k) r hk ready
        · exact absurd hk (notHead r)
        obtain hw | ⟨j, hj, r', hr', hm⟩ := h k r (waitsAt_succ.1 hk) ready
        · exact .inl hw
        · exact .inr ⟨j + 1, by omega, r', waitsAt_succ.2 hr', hm⟩
      · intro h k r hk ready
        obtain hw | ⟨_ | j, hj, r', hr', hm⟩ := h (k + 1) r (waitsAt_succ.2 hk) ready
        · exact .inl hw
        · exact absurd hr' (notHead r')
        · exact .inr ⟨j, by omega, r', waitsAt_succ.1 hr', hm⟩
    | true =>
      obtain ⟨r₀, rfl, h₀⟩ : ∃ r₀, e = .reading r₀ ∧ r₀.finished = none := by
        cases e with
        | marker p => simp [isWaiting] at he
        | reading r => exact ⟨r, rfl, by simpa [isWaiting] using he⟩
      rw [heldBack_waiting h₀, ih]
      constructor
      · rintro ⟨head, tail⟩ (_ | k) r hk ready
        · obtain ⟨heq, -⟩ := waitsAt_zero.1 hk
          cases heq
          exact .inl (head ready)
        obtain hw | ⟨j, hj, r', hr', hm⟩ := tail k r (waitsAt_succ.1 hk) ready
        · obtain hw | hw := List.mem_cons.1 hw
          · exact .inr ⟨0, by omega, r₀, waitsAt_zero.2 ⟨rfl, h₀⟩, hw.symm⟩
          · exact .inl hw
        · exact .inr ⟨j + 1, by omega, r', waitsAt_succ.2 hr', hm⟩
      · intro h
        refine ⟨fun ready => ?_, fun k r hk ready => ?_⟩
        · obtain hw | ⟨j, hj, -⟩ := h 0 r₀ (waitsAt_zero.2 ⟨rfl, h₀⟩) ready
          · exact hw
          · exact absurd hj (Nat.not_lt_zero j)
        · obtain hw | ⟨_ | j, hj, r', hr', hm⟩ := h (k + 1) r (waitsAt_succ.2 hk) ready
          · exact .inl (List.mem_cons_of_mem _ hw)
          · cases (waitsAt_zero.1 hr').1
            exact .inl (hm ▸ List.mem_cons_self ..)
          · exact .inr ⟨j, by omega, r', waitsAt_succ.1 hr', hm⟩

theorem waitsAt_iff {q k r} : WaitsAt q k r ↔ ∃ h : k < q.length, q[k] = .reading r ∧ r.finished = none := by
  simp [WaitsAt, List.getElem?_eq_some_iff]

/-- The settled queue of Safety.lean, by `HeldBack`. -/
theorem queueSettled_iff {q : List RetireEntry} :
    QueueSettled q ↔ (∀ e ∈ q.head?, isWaiting e = true) ∧ HeldBack [] q := by
  refine and_congr_right fun _ => heldBack_iff.trans ?_ |>.symm
  constructor
  · intro h i r hi hr ready
    obtain hw | ⟨j, hj, r', hr', hm⟩ := h i.1 r (waitsAt_iff.2 ⟨i.2, hi, hr⟩) ready
    · exact absurd hw List.not_mem_nil
    · obtain ⟨hlt, hr', hf⟩ := waitsAt_iff.1 hr'
      exact ⟨⟨j, hlt⟩, hj, r', hr', hf, hm⟩
  · intro h k r hk ready
    obtain ⟨hlt, hr, hf⟩ := waitsAt_iff.1 hk
    obtain ⟨j, hj, r', hr', hf', hm⟩ := h ⟨k, hlt⟩ r hr hf ready
    exact .inr ⟨j.1, hj, r', waitsAt_iff.2 ⟨j.2, hr', hf'⟩, hm⟩

/-- An entry appended that is not a ready WAITING reading leaves the others held back. -/
theorem heldBack_append {w q e} (h : HeldBack w q)
    (he : ∀ r, e = .reading r → r.finished = none → r.ready = false) : HeldBack w (q ++ [e]) := by
  induction q generalizing w with
  | nil =>
    cases e with
    | marker p => trivial
    | reading r =>
      cases hf : r.finished with
      | some f => exact (heldBack_finished (by simp [isWaiting, hf])).2 trivial
      | none => exact (heldBack_waiting hf).2 ⟨fun ready => absurd (he r rfl hf) (by simp [ready]), trivial⟩
  | cons x q ih =>
    cases hx : isWaiting x with
    | false => exact (heldBack_finished hx).2 (ih ((heldBack_finished hx).1 h))
    | true =>
      cases x with
      | marker p => simp [isWaiting] at hx
      | reading r =>
        have hr : r.finished = none := by simpa [isWaiting] using hx
        obtain ⟨head, tail⟩ := (heldBack_waiting hr).1 h
        exact (heldBack_waiting hr).2 ⟨head, ih tail⟩

/-- What leaves the head of the queue holds nothing back. -/
theorem heldBack_dropWhile {w q} (h : HeldBack w q) : HeldBack w (q.dropWhile fun e => !isWaiting e) := by
  induction q with
  | nil => exact h
  | cons e q ih =>
    cases he : isWaiting e with
    | true => rwa [List.dropWhile_cons_of_neg (by simp [he])]
    | false =>
      rw [List.dropWhile_cons_of_pos (by simp [he])]
      exact ih ((heldBack_finished he).1 h)

/-- A pass finishes every ready reading that no earlier WAITING one of its meter holds back (R137). -/
theorem heldBack_finishPass (q w s) : HeldBack w (finishPass false q w s).1 := by
  induction q generalizing w s with
  | nil => trivial
  | cons e q ih =>
    cases e with
    | marker p => exact ih w s
    | reading r =>
      unfold finishPass
      split
      · next hf => exact (heldBack_finished (by simp [isWaiting, hf])).2 (ih ..)
      split
      · exact (heldBack_finished (by simp [isWaiting])).2 (ih ..)
      · next hf hr =>
        have hr : ¬ (r.ready = true ∧ r.meter ∉ w) := by simpa using hr
        refine (heldBack_waiting (by simpa using hf)).2 ⟨fun ready => ?_, ih ..⟩
        exact by_contra fun hm => hr ⟨ready, hm⟩

/-- A flush finishes every reading (R140). -/
theorem finishPass_force (q w s) : ∀ e ∈ (finishPass true q w s).1, isWaiting e = false := by
  induction q generalizing w s with
  | nil => simp [finishPass]
  | cons e q ih =>
    cases e with
    | marker p =>
      unfold finishPass
      exact List.forall_mem_cons.2 ⟨rfl, ih _ _⟩
    | reading r =>
      unfold finishPass
      split
      · next hf => exact List.forall_mem_cons.2 ⟨by simp [isWaiting, hf], ih _ _⟩
      · rw [Bool.true_or, if_pos rfl]
        exact List.forall_mem_cons.2 ⟨by simp [isWaiting], ih _ _⟩

/-- A pass leaves the markers where they are. -/
theorem finishPass_markers (force q w s) : (finishPass force q w s).1.countP isMarker = q.countP isMarker := by
  induction q generalizing w s with
  | nil => rfl
  | cons e q ih =>
    cases e with
    | marker p => simp only [finishPass, List.countP_cons, ih]
    | reading r =>
      unfold finishPass
      repeat' split
      all_goals simp only [List.countP_cons, isMarker, ih, Bool.false_eq_true, if_false]

/-- The run that retires is the longest without a WAITING reading (R139). -/
theorem retireRun_queue_eq (q s) : (retireRun q s).hmu.queue = q.dropWhile fun e => !isWaiting e := by
  induction q generalizing s with
  | nil => rfl
  | cons e q ih =>
    cases e with
    | marker p => exact ih _
    | reading r =>
      unfold retireRun
      split
      · next f hf =>
        rw [List.dropWhile_cons_of_pos (by simp [isWaiting, hf])]
        exact ih _
      · next hf =>
        rw [List.dropWhile_cons_of_neg (by simp [isWaiting, hf])]
        rfl

theorem retireRun_settled {q : List RetireEntry} (h : HeldBack [] q) (s) : QueueSettled (retireRun q s).hmu.queue := by
  rw [queueSettled_iff]
  refine ⟨(retireRun_queue q s).2, ?_⟩
  rw [retireRun_queue_eq]
  exact heldBack_dropWhile h

/-! ## Markers and the close state -/

/-- The number of markers in the queue agrees with the close state (R131, R158). -/
def CloseSound (markers : Nat) (a : Abu) : Prop :=
  markers + (if emissionInProgress a then 1 else 0) ≤ 1 ∧ (markers = 1 ↔ a.close = .marked) ∧
  (a.closing.isSome ↔ emissionInProgress a = true)

theorem CloseSound.of_books {n a b} (h : CloseSound n a) (k : Books a b) : CloseSound n b := by
  obtain ⟨_, _, _, rfl⟩ := k
  exact h

theorem emissionInProgress_iff {a : Abu} : emissionInProgress a = true ↔ a.close = .emitting ∨ a.close = .paused := by
  simp [emissionInProgress]

/-- During an emission no marker is there (R131). -/
theorem closeSound_emission {n a} (h : emissionInProgress a = true) : CloseSound n a ↔ n = 0 ∧ a.closing.isSome := by
  have other : a.close ≠ .marked := by
    obtain h | h := emissionInProgress_iff.1 h <;> simp [h]
  simp only [CloseSound, h, if_true, other, iff_false, iff_true]
  constructor
  · rintro ⟨one, -, closing⟩
    exact ⟨by omega, closing⟩
  · rintro ⟨rfl, closing⟩
    exact ⟨Nat.le_refl 1, Nat.zero_ne_one, closing⟩

theorem closeSound_marked {a : Abu} (h : CloseSound 0 a) (idle : a.close = .idle) :
    CloseSound 1 { a with close := .marked } := by
  obtain ⟨-, -, closing⟩ := h
  simp only [emissionInProgress, idle] at closing
  simpa [CloseSound, emissionInProgress] using closing

/-- A marker that retires begins an emission; no other marker is there (R158, R159). -/
theorem closeSound_startClose {n p s} (h : CloseSound (n + 1) s.abu) : CloseSound n (startClose p s).abu := by
  obtain ⟨one, -, -⟩ := h
  exact (closeSound_emission rfl).2 ⟨by omega, rfl⟩

theorem closeSound_idle {n a} (h : CloseSound n a) (idle : a.close = .idle) : n = 0 := by
  obtain ⟨one, marked, -⟩ := h
  have : n ≠ 1 := fun e => by simp [idle] at marked; exact marked e
  omega

/-! ## The lookaside -/

theorem withoutKey_sublist (l key) : List.Sublist (withoutKey l key) l := List.filter_sublist

theorem lookasideSound_sublist {a : Abu} {l : List LookEntry} (h : LookasideSound a) (k : List.Sublist l a.lookaside) :
    LookasideSound { a with lookaside := l } :=
  ⟨k.length_le.trans h.1, h.2.sublist (k.map _)⟩

/-- A miss makes an entry in front of at most seven, none of which holds the key (R151). -/
theorem lookasideSound_resolveMiss {key a} (h : LookasideSound a) (absent : ∀ e ∈ a.lookaside, e.key ≠ key) :
    LookasideSound (resolveMiss key a).2 := by
  unfold resolveMiss
  split
  · exact h
  · obtain ⟨size, nodup⟩ := lookasideSound_sublist h (List.take_sublist (Config.lookasideSize - 1) a.lookaside)
    refine ⟨?_, ?_⟩
    · simp [Config.lookasideSize]
    · refine List.nodup_cons.2 ⟨?_, nodup⟩
      rintro hm
      obtain ⟨e, he, hk⟩ := List.mem_map.1 hm
      exact absent e (List.mem_of_mem_take he) hk

/-- A resolution keeps the lookaside within its size and without a double (R150, R151). -/
theorem lookasideSound_resolveKey {key a} (h : LookasideSound a) : LookasideSound (resolveKey key a).2 := by
  have absent : ∀ e ∈ withoutKey a.lookaside key, e.key ≠ key := by simp [withoutKey]
  unfold resolveKey
  split
  · next hn => exact lookasideSound_resolveMiss h (by simpa using hn)
  · next e he =>
    have hm := List.mem_of_find?_eq_some he
    have hk : e.key = key := by simpa using List.find?_some he
    obtain ⟨size, nodup⟩ := lookasideSound_sublist h (withoutKey_sublist a.lookaside key)
    split
    · refine ⟨?_, List.nodup_cons.2 ⟨?_, nodup⟩⟩
      · have shorter : (withoutKey a.lookaside key).length < a.lookaside.length :=
          List.length_filter_lt_length_iff_exists.2 ⟨e, hm, by simp [hk]⟩
        have := h.1
        rw [List.length_cons]
        omega
      · rintro hx
        obtain ⟨x, hx, hxk⟩ := List.mem_map.1 hx
        exact absent x hx (hxk.trans hk)
    · exact lookasideSound_resolveMiss ⟨size, nodup⟩ absent

/-- The lookaside after a booking: that of the resolution, where there is one (R155). -/
theorem bookReading_lookaside (r f s) : (bookReading r f s).abu.lookaside =
    if r.key = 0 then s.abu.lookaside else (resolveKey r.key s.abu).2.lookaside := by
  unfold bookReading
  split
  · rfl
  · dsimp only
    split
    · rfl
    · split <;> rfl

theorem lookasideSound_bookReading {r f s} (h : LookasideSound s.abu) : LookasideSound (bookReading r f s).abu := by
  unfold LookasideSound
  rw [bookReading_lookaside]
  split
  · exact h
  · exact lookasideSound_resolveKey h

/-! ## Retirement -/

/-- A run that retires keeps markers and close state in agreement, the lookaside sound and the statements as they
are. -/
theorem retireRun_abu {q s} (close : CloseSound (q.countP isMarker) s.abu) (look : LookasideSound s.abu) :
    let t := retireRun q s
    CloseSound (t.hmu.queue.countP isMarker) t.abu ∧ LookasideSound t.abu ∧ t.abu.statements = s.abu.statements := by
  induction q generalizing s with
  | nil => exact ⟨close, look, rfl⟩
  | cons e q ih =>
    cases e with
    | marker p =>
      rw [List.countP_cons_of_pos rfl] at close
      exact ih (closeSound_startClose close) look
    | reading r =>
      have still : List.countP isMarker (.reading r :: q) = q.countP isMarker :=
        List.countP_cons_of_neg (by simp [isMarker])
      unfold retireRun
      split
      · next f hf =>
        rw [still] at close
        obtain ⟨a, d, hb, hs⟩ := books_bookReading r f s
        have after : (bookReading r f s).abu = a := by rw [hs]
        obtain ⟨hc, hl, hst⟩ := ih (s := bookReading r f s) (by rw [after]; exact close.of_books hb)
          (lookasideSound_bookReading look)
        refine ⟨hc, hl, hst.trans ?_⟩
        obtain ⟨_, _, _, rfl⟩ := hb
        rw [after]
      · exact ⟨close, look, rfl⟩

/-- What a retirement keeps of the logs. -/
theorem Retires.logs {s t : State} (h : Retires s t) : t.sck = s.sck ∧ t.exs = s.exs := by
  obtain ⟨_, _, _, _, rfl⟩ := h; exact ⟨rfl, rfl⟩

/-- A run that retires leaves the queues sound, from a queue whose ready readings are held back. -/
theorem queuesSound_retireRun {q s} (size : q.length ≤ 64) (close : CloseSound (q.countP isMarker) s.abu)
    (held : HeldBack [] q) (logs : LogsSound s) (look : LookasideSound s.abu) : QueuesSound (retireRun q s) := by
  obtain ⟨close', look', statements⟩ := retireRun_abu close look
  obtain ⟨hsck, hexs⟩ := (retires_retireRun q s).logs
  refine ⟨⟨?_, close'⟩, retireRun_settled held s, ?_, look'⟩
  · rw [retireRun_queue_eq]
    exact (List.dropWhile_suffix _).length_le.trans size
  · unfold LogsSound
    rw [hsck, hexs, statements]
    exact logs

theorem queuesSound_settleQueue {s} (size : s.hmu.queue.length ≤ 64)
    (close : CloseSound (s.hmu.queue.countP isMarker) s.abu) (logs : LogsSound s)
    (look : LookasideSound s.abu) : QueuesSound (settleQueue s) := by
  obtain ⟨hsck, hexs⟩ := (retires_finishPass false s.hmu.queue [] s).logs
  have abu := finishPass_abu false s.hmu.queue [] s
  refine queuesSound_retireRun ?_ ?_ (heldBack_finishPass ..) ?_ ?_
  · rwa [finishPass_length]
  · rwa [finishPass_markers, abu]
  · unfold LogsSound; rw [hsck, hexs, abu]; exact logs
  · rwa [abu]

theorem heldBack_of_finished {w q} (h : ∀ e ∈ q, isWaiting e = false) : HeldBack w q := by
  induction q with
  | nil => trivial
  | cons e q ih =>
    obtain ⟨he, hq⟩ := List.forall_mem_cons.1 h
    exact (heldBack_finished he).2 (ih hq)

theorem queuesSound_flushQueue {s} (h : QueuesSound s) : QueuesSound (flushQueue s) := by
  obtain ⟨⟨size, close⟩, -, logs, look⟩ := h
  obtain ⟨hsck, hexs⟩ := (retires_finishPass true s.hmu.queue [] s).logs
  have abu := finishPass_abu true s.hmu.queue [] s
  refine queuesSound_retireRun ?_ ?_ (heldBack_of_finished (finishPass_force _ _ _)) ?_ ?_
  · rwa [finishPass_length]
  · rwa [finishPass_markers, abu]
  · unfold LogsSound; rw [hsck, hexs, abu]; exact logs
  · rwa [abu]

/-! ## Emission -/

/-- A place that gives a statement has its closing bank cleared, and nothing else changes (R160). -/
theorem placeAt_frame {a p t b} (h : placeAt a p = some (t, b)) :
    ∃ d u, b = { a with directory := d, suspense := u } := by
  unfold placeAt at h
  dsimp only at h
  split at h
  · split at h
    · cases h; exact ⟨_, _, rfl⟩
    · cases h
  · split at h
    · split at h
      · cases h; exact ⟨_, _, rfl⟩
      · cases h
    · cases h

/-- The cursor's advance goes on with the emission, or ends it at the last place (R160). -/
theorem queuesSound_advanceCursor {p s} (emitting : s.abu.close = .emitting) (h : QueuesSound s) :
    QueuesSound (advanceCursor p s) := by
  unfold advanceCursor
  split
  · exact h
  · obtain ⟨⟨size, close⟩, settled, logs, look⟩ := h
    obtain ⟨none, -⟩ := (closeSound_emission (emissionInProgress_iff.2 (.inl emitting))).1 close
    refine ⟨⟨size, ?_⟩, settled, logs, look⟩
    change CloseSound (s.hmu.queue.countP isMarker) _
    rw [none]
    simp [CloseSound, emissionInProgress]

theorem queuesSound_emitPlace {s} (emitting : s.abu.close = .emitting) (h : QueuesSound s) :
    QueuesSound (emitPlace s) := by
  unfold emitPlace
  dsimp only
  split
  · exact queuesSound_advanceCursor emitting h
  obtain ⟨⟨size, close⟩, settled, ⟨captures, slots, statements⟩, look⟩ := h
  next t b hp =>
  split
  · have close' := (closeSound_emission (emissionInProgress_iff.2 (.inl emitting))).1 close
    exact ⟨⟨size, (closeSound_emission (a := { s.abu with close := .paused }) rfl).2 close'⟩, settled,
      ⟨captures, slots, statements⟩, look⟩
  · next room =>
    obtain ⟨_, _, rfl⟩ := placeAt_frame hp
    refine queuesSound_advanceCursor emitting ⟨⟨size, close⟩, settled, ⟨captures, slots, ?_⟩, look⟩
    simp only [Config.statementQueueSize] at room
    simp only [appendStatement, State.follow_abu, List.length_append, List.length_singleton]
    omega

/-! ## Every effect -/

theorem queuesSound_aside {s t : State} (a : Aside s t) (h : QueuesSound s) : QueuesSound t := by
  unfold QueuesSound RetireSound LogsSound LookasideSound emissionInProgress
  rw [a.queue, a.close, a.closing, a.sck, a.exportLog, a.statements, a.lookaside]
  exact h

theorem queuesSound_cold (lsel levels q) : QueuesSound { State.cold lsel levels with pending := q } := by
  have close : CloseSound 0 Abu.cold := by simp [CloseSound, emissionInProgress, Abu.cold]
  exact ⟨⟨Nat.zero_le _, close⟩, queueSettled_iff.2 ⟨by simp [State.cold, Hmu.cold], trivial⟩,
    ⟨Nat.zero_le _, Nat.zero_le _, Nat.zero_le _⟩, Nat.zero_le _, List.nodup_nil⟩

/-- A fetch resumes an emission that is paused, and begins or ends none (R161). -/
theorem closeSound_resumeEmission {n a} (h : CloseSound n a) : CloseSound n (resumeEmission a) := by
  unfold resumeEmission
  split
  · next paused =>
    split
    · exact h
    · exact (closeSound_emission rfl).2 ((closeSound_emission (emissionInProgress_iff.2 (.inr paused))).1 h)
  · exact h

theorem resumeEmission_lookaside (a) : (resumeEmission a).lookaside = a.lookaside := by
  unfold resumeEmission
  repeat' split
  all_goals rfl

/-- One effect keeps the queues, the logs and the lookaside sound. -/
theorem Effect.queuesSound {s t : State} (e : Effect s t) (h : QueuesSound s) : QueuesSound t := by
  have sound := h
  obtain ⟨⟨size, close⟩, settled, ⟨captures, slots, statements⟩, look⟩ := sound
  cases e with
  | aside a => exact queuesSound_aside a h
  | cold lsel levels => exact queuesSound_cold ..
  | start => exact h
  | idle => exact h
  | clockSet => exact h
  | trim => exact h
  | timer => exact h
  | units => exact h
  | captures l size' => exact ⟨⟨size, close⟩, settled, ⟨size' captures, slots, statements⟩, look⟩
  | slots l size' => exact ⟨⟨size, close⟩, settled, ⟨captures, size' slots, statements⟩, look⟩
  | tick => exact h
  | advance => exact h
  | quiet => exact h
  | settle q size' markers =>
    refine queuesSound_settleQueue (s := setQueue q s) ?_ ?_ ⟨captures, slots, statements⟩ look
    · rw [setQueue_hmu, size']
      exact size
    · rw [setQueue_hmu, markers]
      exact close
  | flush => exact queuesSound_flushQueue h
  | form r room waiting early =>
    obtain ⟨head, held⟩ := queueSettled_iff.1 settled
    have held' := heldBack_append (e := .reading r) held (by rintro _ ⟨⟩ -; exact early)
    refine ⟨⟨?_, ?_⟩, queueSettled_iff.2 ⟨?_, held'⟩, ⟨captures, slots, statements⟩, look⟩
    · rw [setQueue_hmu, List.length_append, List.length_singleton]
      exact room
    · rw [setQueue_hmu, List.countP_append]
      exact close
    · rw [setQueue_hmu]
      cases hq : s.hmu.queue with
      | nil => simp [isWaiting, waiting]
      | cons x q => simpa [hq] using head
  | mark p idle room =>
    have none := closeSound_idle close idle
    obtain ⟨-, held⟩ := queueSettled_iff.1 settled
    refine queuesSound_retireRun ?_ ?_ (heldBack_append held (by rintro _ ⟨⟩)) ⟨captures, slots, statements⟩ look
    · rw [List.length_append, List.length_singleton]
      exact room
    · change CloseSound (s.hmu.queue.countP isMarker) s.abu at close
      rw [List.countP_append, none]
      rw [none] at close
      exact closeSound_marked close idle
  | emit emitting => exact queuesSound_emitPlace emitting h
  | fetch k =>
    refine ⟨⟨size, closeSound_resumeEmission close⟩, settled, ⟨captures, slots, ?_⟩, ?_⟩
    · rw [List.length_drop]
      omega
    · unfold LookasideSound
      rw [resumeEmission_lookaside]
      exact look
  | purge p =>
    exact ⟨⟨size, close⟩, settled, ⟨captures, slots, statements⟩, lookasideSound_sublist look List.filter_sublist⟩

/-- MODE-STOP flushes the queue, and the change to IDLE that it makes may trigger captures (R110, R140). -/
theorem queuesSound_modeStop {s} (h : QueuesSound s) : QueuesSound (modeStop s) := by
  have halted : QueuesSound (allocationModeStop
    { s with sck := stopClock s.sck, dcu := { s.dcu with channels := stopAll s.dcu.channels } }) := h
  exact queuesSound_flushQueue ((effects_exportModeStop _).keep (fun _ _ e => e.queuesSound) halted)

/-- Settles O58: every step is a chain of effects, each of which keeps the queues, the logs and the lookaside sound. -/
theorem queuesStaySound : Obligations.QueuesStaySound := by
  intro s t h
  exact step_keeps (P := QueuesSound) (fun _ => queuesSound_modeStop) (fun _ _ e => e.queuesSound) h

end Sys2Proof.Machine
end

section
/-!
The requests of Chapter 1: CLOCK-SET, CLOCK-TRIM, the slot timers and the capture units (R7, R8, R10, R13).
-/
namespace Sys2Proof.Machine

/-! ## How a judged request answers -/

section
variable {α : Type} {kind kind' : Byte} {parse : List Byte → Option α} {judge : α → State → Answer} {p q : List Byte}
  {s t : State} {f : α} {code : ResultCode} {c : Instr}

/-- A request whose rule does it is answered with what the rule leaves (R168). -/
theorem answers_of_done (hk : kind.toNat < 128 ∧ kind + 0x80 = kind') (hs : Heard s) (hp : parse p = some f)
    (hj : judge f s = .done code q t) (hc : exec c s = request kind parse judge p s) :
    Answers c s kind' code q t := by
  unfold Answers
  rw [hc, request_judged hs hp, hj, reply_done, ← hk.2, ← replyKind_known hk.1]
  rfl

/-- A request that its rule refuses is answered with the refusal (R169). -/
theorem declines_of_refuse (hk : kind.toNat < 128 ∧ kind + 0x80 = kind') (hs : Heard s) (hp : parse p = some f)
    (hj : judge f s = .refuse code q) (hc : exec c s = request kind parse judge p s) :
    Declines c s kind' code q := by
  unfold Declines Answers
  rw [hc, request_judged hs hp, hj, reply_refuse, ← hk.2, ← replyKind_known hk.1]
  rfl

end

/-! ## CLOCK-SET and CLOCK-TRIM -/

theorem slotSPermitted_iff {n : Nat} : slotSPermitted n = true ↔ n ∈ [300, 600, 900, 1800, 3600] := by
  simp [slotSPermitted, or_assoc]

theorem parseClockSet_frame {p f} (h : parseClockSet p = some f) : f.frame < 65536 := by
  simp only [parseClockSet, Option.bind_eq_bind, Option.bind_eq_some_iff, Prod.exists, u16_eq_some, ending_eq_some] at h
  obtain ⟨_, _, _, _, _, _, frame, _, ⟨hf, _⟩, _, _, _, _, _, _, rfl, _⟩ := h
  exact hf

/-- Whether an ARMED timer has an offset beyond a slot of `n` steps (Table 1-11). -/
theorem any_timer_iff {v : Vector SlotTimer 4} {n : Nat} :
    (v.toList.any fun t => t.armed && decide (n ≤ t.offset)) = true ↔
      ∃ i : Fin 4, v[i].armed = true ∧ n ≤ v[i].offset := by
  simp only [List.any_eq_true, Vector.mem_toList_iff, Bool.and_eq_true, decide_eq_true_eq]
  constructor
  · rintro ⟨t, ht, h⟩
    obtain ⟨i, hi, rfl⟩ := Vector.mem_iff_getElem.1 ht
    exact ⟨⟨i, hi⟩, h⟩
  · rintro ⟨i, h⟩
    exact ⟨_, Vector.getElem_mem i.2, h⟩

/-- CLOCK-SET in SETUP with permitted fields: what the ARMED timers decide (R7). -/
theorem judgeClockSet_permitted {s : State} {f : ClockSetFields} {slot : Fin 96} (mode : s.lkp.mode = .setup)
    (slotS : f.slotS ∈ [300, 600, 900, 1800, 3600]) (low : 2 ≤ f.stepS) (high : f.stepS ≤ 60)
    (whole : f.slotS % f.stepS = 0) (frame : f.frame < 65536) (hslot : f.slot = slot.1)
    (step : f.step < f.slotS / f.stepS) :
    judgeClockSet f s =
      if ∃ n : Fin 4, s.sck.timers[n].armed = true ∧ f.slotS / f.stepS ≤ s.sck.timers[n].offset then rangeItem 2
      else okWith [] { s with sck := clockSetTo f slot s.sck } := by
  unfold judgeClockSet
  rw [unlessRun_setup mode, slotSPermitted_iff.2 slotS, hslot, asFin_val]
  simp only [Bool.not_true, Bool.false_eq_true, if_false, any_timer_iff]
  rw [if_neg (by omega), if_neg (by omega), if_neg (by omega)]

/-- The result of a trim is OK exactly where neither clamp of R8 has cut anything. -/
theorem trim_exact_iff {total t : Int} :
    (clampInt (-5) 5 t = t ∧ clampInt (-5) 5 (total + clampInt (-5) 5 t) = total + clampInt (-5) 5 t) ↔
      (-5 ≤ t ∧ t ≤ 5) ∧ -5 ≤ total + t ∧ total + t ≤ 5 := by
  unfold clampInt
  omega

/-- The elapsed count lies within the second that its whole seconds name. -/
theorem elapsed_lt (c : Sck) : elapsedCount c < (elapsedCount c / 1000 + 1) * 1000 := by omega

/-- The end count that a trim leaves (R8, steps 3 to 5). -/
theorem trimmedEnd_spec (c : Sck) (z : Int) :
    ((elapsedCount c / 1000 : Nat) + 2 ≤ (c.stepS : Int) + z → (trimmedEnd c z : Int) = c.stepS + z) ∧
    ((c.stepS : Int) + z < (elapsedCount c / 1000 : Nat) + 2 →
      trimmedEnd c z = min (elapsedCount c / 1000 + 2) c.endCount) ∧
    (trimmedEnd c z = c.endCount ∨ elapsedCount c + 1000 ≤ trimmedEnd c z * 1000) ∧
    (2 ≤ c.endCount → 2 ≤ trimmedEnd c z) := by
  have := elapsed_lt c
  unfold trimmedEnd
  dsimp only
  split <;> omega

/-- Settles O12: CLOCK-SET by its guards, CLOCK-TRIM by the two clamps and the end count of R8. -/
theorem clockRequestsWrite : Obligations.ClockRequestsWrite := by
  refine ⟨?_, ?_⟩
  · intro s p f slot hs mode hp slotS low high whole hslot step
    have judged := judgeClockSet_permitted mode slotS low high whole (parseClockSet_frame hp) hslot step
    refine ⟨fun fits => ?_, fun misfit => ?_⟩
    · rw [if_neg fun ⟨n, armed, h⟩ => absurd (fits n armed) (by omega)] at judged
      exact answers_of_done (by decide) hs hp judged rfl
    · rw [if_pos misfit] at judged
      exact declines_of_refuse (by decide) hs hp judged rfl
  · intro s p t hs hp
    refine ⟨fun mode => ?_, fun mode endLow => ?_⟩
    · exact declines_of_refuse (by decide) hs hp (by simp only [judgeClockTrim, mode]; rfl) rfl
    · obtain ⟨long, short, late, low⟩ := trimmedEnd_spec s.sck (trimTotal s.sck t)
      refine ⟨trimTotal s.sck t, trimmedEnd s.sck (trimTotal s.sck t), _,
        answers_of_done (by decide) hs hp (by simp only [judgeClockTrim, mode]; rfl) rfl, rfl, ?_, ?_, low endLow, long,
        short, late⟩
      · rw [← trim_exact_iff]
        split
        · next h => exact ⟨fun _ => h, fun _ => rfl⟩
        · next h => exact ⟨nofun, fun k => absurd k h⟩
      · split
        · exact .inl rfl
        · exact .inr rfl

/-! ## Slot timers and capture units -/

theorem timerSlotOf_eq_some {k : Nat} (h : k ≤ 96) :
    ∃ slot, timerSlotOf k = some slot ∧ (slot = none ↔ k = 96) ∧ ∀ n ∈ slot, n.1 = k := by
  unfold timerSlotOf
  split
  · next any => exact ⟨none, rfl, by simp [any], nofun⟩
  · next named => exact ⟨some ⟨k, by omega⟩, by simp [asFin, show k < 96 by omega], by simp [named], by simp⟩

theorem timerRepeatOf_eq_some {k : Nat} (h : k < 3) :
    ∃ again, timerRepeatOf k = some again ∧ (again = .once ↔ k = 0) ∧ (again = .eachSlot ↔ k = 1) ∧
      (again = .eachFrame ↔ k = 2) := by
  obtain rfl | rfl | rfl : k = 0 ∨ k = 1 ∨ k = 2 := by omega
  · exact ⟨.once, rfl, by decide, by decide, by decide⟩
  · exact ⟨.eachSlot, rfl, by decide, by decide, by decide⟩
  · exact ⟨.eachFrame, rfl, by decide, by decide, by decide⟩

/-- A repeat misfits a named slot as EACH-SLOT, and ANY as EACH-FRAME (R10). -/
theorem repeatFits_eq_false {slot : Option (Fin 96)} {again : TimerRepeat} :
    repeatFits slot again = false ↔ slot ≠ none ∧ again = .eachSlot ∨ slot = none ∧ again = .eachFrame := by
  cases slot <;> cases again <;> simp [repeatFits]

theorem optIndex_eq_some {n : Nat} {k : Option Nat} (h : ∀ i ∈ k, i < n) :
    ∃ i : Option (Fin n), optIndex n k = some i ∧ i.map Fin.val = k := by
  cases k with
  | none => exact ⟨none, rfl, rfl⟩
  | some k => exact ⟨some ⟨k, h k rfl⟩, by simp [optIndex, asFin, h k rfl], rfl⟩

theorem edgeOf_eq_some {k : Nat} (h : k < 3) :
    ∃ edge, edgeOf k = some edge ∧ k = (match edge with | .rising => 0 | .falling => 1 | .both => 2) := by
  obtain rfl | rfl | rfl : k = 0 ∨ k = 1 ∨ k = 2 := by omega
  · exact ⟨.rising, rfl, rfl⟩
  · exact ⟨.falling, rfl, rfl⟩
  · exact ⟨.both, rfl, rfl⟩

/-- Line and edge are there where the trigger kind is EVENT (R13). -/
theorem parseCaptureSet_event {p f} (h : parseCaptureSet p = some f) (event : f.trigger = 0) :
    ∃ line edge, f.line = some line ∧ f.edge = some edge := by
  simp only [parseCaptureSet, Option.bind_eq_bind, Option.bind_eq_some_iff, Prod.exists,
    dependent_eq_some (fun _ _ _ => u8_eq_some), ending_eq_some] at h
  obtain ⟨_, _, _, trigger, _, _, line, _, ⟨hl, -⟩, edge, _, ⟨he, -⟩, _, _, _, _, _, _, rfl, _⟩ := h
  dsimp only at event
  subst event
  obtain ⟨l, rfl⟩ := Option.isSome_iff_exists.1 hl
  obtain ⟨e, rfl⟩ := Option.isSome_iff_exists.1 he
  exact ⟨l, e, rfl, rfl⟩

/-- The trigger that permitted fields name (R13). -/
theorem triggerOf_eq_ok {p f} (hp : parseCaptureSet p = some f) (kind : f.trigger < 4) (hline : ∀ l ∈ f.line, l < 8)
    (hedge : ∀ e ∈ f.edge, e < 3) : ∃ trigger, triggerOf f = .ok trigger ∧
      (f.trigger = 0 → ∃ (line : Fin 8) (edge : Edge), trigger = .event line edge ∧ f.line = some line.1 ∧
        f.edge = some (match edge with | .rising => 0 | .falling => 1 | .both => 2)) ∧
      (f.trigger = 1 → trigger = .timer) ∧ (f.trigger = 2 → trigger = .exportChange) ∧
      (f.trigger = 3 → trigger = .request) := by
  obtain h | h | h | h : f.trigger = 0 ∨ f.trigger = 1 ∨ f.trigger = 2 ∨ f.trigger = 3 := by omega
  · obtain ⟨l, e, hl, he⟩ := parseCaptureSet_event hp h
    obtain ⟨edge, hedge, rfl⟩ := edgeOf_eq_some (hedge e he)
    have hlt := hline l hl
    refine ⟨.event ⟨l, hlt⟩ edge, ?_, fun _ => ⟨_, _, rfl, hl, he⟩, by omega, by omega, by omega⟩
    simp [triggerOf, h, hl, he, hedge, asFin, hlt]
  · exact ⟨.timer, by simp [triggerOf, h], by omega, fun _ => rfl, by omega, by omega⟩
  · exact ⟨.exportChange, by simp [triggerOf, h], by omega, by omega, fun _ => rfl, by omega⟩
  · exact ⟨.request, by simp [triggerOf, h], by omega, by omega, by omega, fun _ => rfl⟩

section
variable {s : State} {f : TimerSetFields} {n : Fin 4} {slot : Option (Fin 96)} {again : TimerRepeat}

theorem judgeTimerSet_armed (hn : f.timer = n.1) (armed : s.sck.timers[n].armed = true) :
    judgeTimerSet f s = refused .state := by
  simp only [judgeTimerSet, hn, asFin_val, armed, if_true]

/-- TIMER-SET of an IDLE timer, up to its repeat (R10). -/
theorem judgeTimerSet_misfit (hn : f.timer = n.1) (idle : s.sck.timers[n].armed = false)
    (hslot : timerSlotOf f.slot = some slot) (offset : f.offset < stepsPerSlot s.sck)
    (hagain : timerRepeatOf f.again = some again) (misfit : repeatFits slot again = false) :
    judgeTimerSet f s = rangeItem 4 := by
  simp only [judgeTimerSet, hn, asFin_val, idle, hslot, if_neg (Nat.not_le_of_lt offset), hagain, misfit,
    Bool.not_false, Bool.false_eq_true, if_false, if_true]

theorem judgeTimerSet_fits {unit : Option (Fin 4)} (hn : f.timer = n.1) (idle : s.sck.timers[n].armed = false)
    (hslot : timerSlotOf f.slot = some slot) (offset : f.offset < stepsPerSlot s.sck)
    (hagain : timerRepeatOf f.again = some again) (fits : repeatFits slot again = true)
    (hunit : optIndex 4 f.unit = some unit) :
    judgeTimerSet f s = okWith []
      { s with sck := { s.sck with
        timers := put s.sck.timers n
          { slot := slot, offset := f.offset, again := again, unit := unit, armed := true } } } := by
  simp only [judgeTimerSet, hn, asFin_val, idle, hslot, if_neg (Nat.not_le_of_lt offset), hagain, fits, hunit,
    Bool.not_true, Bool.false_eq_true, if_false]

end

section
variable {s : State} {f : CaptureSetFields} {u : Fin 4}

theorem judgeCaptureSet_armed (hu : f.unit = u.1) (armed : s.sck.units[u].armed = true) :
    judgeCaptureSet f s = refused .state := by
  simp only [judgeCaptureSet, hu, asFin_val, armed, if_true]

theorem judgeCaptureSet_fits {trigger : Trigger} {snapshot : Option (Fin 24)} (hu : f.unit = u.1)
    (idle : s.sck.units[u].armed = false) (htrigger : triggerOf f = .ok trigger)
    (hsnapshot : optIndex 24 f.snapshot = some snapshot) (mode : f.mode < 2) :
    judgeCaptureSet f s = okWith []
      { s with sck := { s.sck with
        units := put s.sck.units u
          { trigger := trigger, snapshot := snapshot, continuous := f.mode == 1, armed := true } } } := by
  simp only [judgeCaptureSet, hu, asFin_val, idle, htrigger, hsnapshot, if_neg (show ¬ 1 < f.mode by omega),
    Bool.false_eq_true, if_false]

end

/-- Settles O13: each request by the guards of its rule, in their order. -/
theorem timersAndUnitsSet : Obligations.TimersAndUnitsSet := by
  refine ⟨fun s n hs => ⟨fun p f hp hn => ⟨fun armed => ?_, fun idle hslot offset hagain => ?_⟩, fun p hp => ?_⟩,
    fun s u hs => ⟨fun p f hp hu => ⟨fun armed => ?_, fun idle kind hline hedge hsnapshot mode => ?_⟩, fun p hp => ?_⟩⟩
  · exact declines_of_refuse (by decide) hs hp (judgeTimerSet_armed hn armed) rfl
  · obtain ⟨slot, slotOf, any, named⟩ := timerSlotOf_eq_some hslot
    obtain ⟨again, againOf, once, eachSlot, eachFrame⟩ := timerRepeatOf_eq_some hagain
    refine ⟨fun misfit => ?_, fun fits unitLt => ?_⟩
    · have misfit : repeatFits slot again = false := by
        rw [repeatFits_eq_false, Ne, any, eachSlot, eachFrame]
        omega
      exact declines_of_refuse (by decide) hs hp (judgeTimerSet_misfit hn idle slotOf offset againOf misfit) rfl
    · have fits : repeatFits slot again = true := by
        rw [← Bool.not_eq_false, repeatFits_eq_false, Ne, any, eachSlot, eachFrame]
        omega
      obtain ⟨unit, unitOf, hunit⟩ := optIndex_eq_some unitLt
      exact ⟨_, answers_of_done (by decide) hs hp (judgeTimerSet_fits hn idle slotOf offset againOf fits unitOf) rfl,
        rfl, rfl, hunit, any, named, once, eachSlot⟩
  · exact answers_of_done (by decide) hs hp (by rw [judgeTimerDisarm, asFin_val]; rfl) rfl
  · exact declines_of_refuse (by decide) hs hp (judgeCaptureSet_armed hu armed) rfl
  · obtain ⟨trigger, triggerOf, event, timer, exportChange, request⟩ := triggerOf_eq_ok hp kind hline hedge
    obtain ⟨snapshot, snapshotOf, hs'⟩ := optIndex_eq_some hsnapshot
    exact ⟨_, answers_of_done (by decide) hs hp (judgeCaptureSet_fits hu idle triggerOf snapshotOf mode) rfl, rfl, rfl,
      hs', event, timer, exportChange, request⟩
  · exact answers_of_done (by decide) hs hp (by rw [judgeCaptureDisarm, asFin_val]; rfl) rfl

end Sys2Proof.Machine
end

section
/-!
Captures (R14 to R16): what one record, and what the records of several units, make of the log, the units and the
conditions.
-/
namespace Sys2Proof.Machine

/-! ## One record -/

/-- The capture log with a record appended: of a full log the oldest goes (R16). -/
def pushLog (l : List CaptureRecord) (r : CaptureRecord) : List CaptureRecord :=
  (if l.length < 16 then l else l.tail) ++ [r]

/-- A record taken by a log with room makes CAPTURE-READY active, and no other condition changes (R16). -/
theorem appendCapture_room (r s) (room : s.sck.log.length < 16) :
    appendCapture r s = { s with
      sck := { s.sck with log := pushLog s.sck.log r }
      cnu := followCond condCaptureReady true r.unit.1 s.sck.pos s.cnu } := by
  unfold appendCapture pushLog Config.captureLogSize
  rw [if_pos room, if_pos room]
  rfl

/-- One taken by a full log raises CAPTURE-OVERWRITE as well (R16). -/
theorem appendCapture_full (r s) (full : 16 ≤ s.sck.log.length) :
    appendCapture r s = { s with
      sck := { s.sck with log := pushLog s.sck.log r }
      cnu := raiseCond condCaptureOverwrite r.unit.1 s.sck.pos
        (followCond condCaptureReady true r.unit.1 s.sck.pos s.cnu) } := by
  have noRoom : ¬ s.sck.log.length < 16 := by omega
  unfold appendCapture pushLog Config.captureLogSize
  rw [if_neg noRoom, if_neg noRoom]
  rfl

theorem appendCapture_frame (r s) :
    ∃ d, appendCapture r s = { s with sck := { s.sck with log := pushLog s.sck.log r }, cnu := d } := by
  obtain room | full := Nat.lt_or_ge s.sck.log.length 16
  · exact ⟨_, appendCapture_room r s room⟩
  · exact ⟨_, appendCapture_full r s full⟩

theorem appendCapture_sck (r s) : (appendCapture r s).sck = { s.sck with log := pushLog s.sck.log r } := by
  obtain ⟨d, h⟩ := appendCapture_frame r s
  rw [h]

theorem pushLog_length {l} (h : l.length ≤ 16) (r) : (pushLog l r).length = min (l.length + 1) 16 := by
  unfold pushLog
  split
  · rw [List.length_append, List.length_singleton]
    omega
  · rw [List.length_append, List.length_tail, List.length_singleton]
    omega

theorem appendCapture_ready (r s) : (appendCapture r s).cnu.records[condCaptureReady].active = true := by
  obtain room | full := Nat.lt_or_ge s.sck.log.length 16
  · rw [appendCapture_room r s room]
    exact followCond_active ..
  · rw [appendCapture_full r s full]
    dsimp only
    rw [raiseCond_others _ _ _ _ condCaptureReady (by decide)]
    exact followCond_active ..

theorem appendCapture_others (r s) :
    OthersStand [condCaptureReady, condCaptureOverwrite] s.cnu (appendCapture r s).cnu := by
  obtain room | full := Nat.lt_or_ge s.sck.log.length 16
  · rw [appendCapture_room r s room]
    exact fun n hn => followCond_others _ _ _ _ _ n fun h => hn (List.mem_cons.2 (.inl (List.mem_singleton.1 h)))
  · rw [appendCapture_full r s full]
    exact others_trans (followCond_others _ _ _ _ _) (raiseCond_others _ _ _ _)

/-! ## One trigger -/

/-- The capture units replaced. -/
def setUnits (v : Vector CaptureUnit 4) (s : State) : State := { s with sck := { s.sck with units := v } }

/-- An ARMED unit that is triggered forms a record and applies its mode (R14). -/
theorem triggerUnit_armed {u c s} (h : s.sck.units[u].armed = true) :
    triggerUnit u c s = setUnits (put s.sck.units u { s.sck.units[u] with armed := s.sck.units[u].continuous })
      (appendCapture (captureRecord u c s) s) := by
  obtain ⟨d, ha⟩ := appendCapture_frame (captureRecord u c s) s
  unfold triggerUnit
  rw [if_pos h]
  dsimp only
  rw [ha]
  rfl

theorem triggerUnit_idle {u c s} (h : s.sck.units[u].armed = false) : triggerUnit u c s = s := by
  unfold triggerUnit
  rw [if_neg (Bool.eq_false_iff.1 h)]

theorem triggerUnit_others (u c s) :
    OthersStand [condCaptureReady, condCaptureOverwrite] s.cnu (triggerUnit u c s).cnu := by
  cases armed : s.sck.units[u].armed with
  | false =>
    rw [triggerUnit_idle armed]
    exact fun _ _ => rfl
  | true =>
    rw [triggerUnit_armed armed]
    exact appendCapture_others (captureRecord u c s) s

/-- Settles O14: the record, the mode and the conditions of one trigger. -/
theorem captureTriggered : Obligations.CaptureTriggered := by
  intro s p u hs hp
  have judged : judgeCaptureTrigger u.1 s =
      if s.sck.units[u].armed then okWith [] (triggerUnit u .request s) else refused .state := by
    rw [judgeCaptureTrigger, asFin_val]
  refine ⟨fun idle => ?_, fun armed => ?_⟩
  · rw [if_neg (Bool.eq_false_iff.1 idle)] at judged
    exact declines_of_refuse (by decide) hs hp judged rfl
  rw [if_pos armed, triggerUnit_armed armed] at judged
  have ready := appendCapture_ready (captureRecord u .request s) s
  obtain room | full := Nat.lt_or_ge s.sck.log.length 16
  · rw [appendCapture_room _ s room] at judged ready
    refine ⟨_, ?_, ready, fun _ => followCond_others _ _ _ _ _, fun h => absurd h (by omega)⟩
    exact answers_of_done (by decide) hs hp judged rfl
  · rw [appendCapture_full _ s full] at judged ready
    refine ⟨_, ?_, ready, fun h => absurd h (by omega), fun _ =>
      ⟨_, followCond_others _ _ _ _ _, raisedOnce_raiseCond ..⟩⟩
    exact answers_of_done (by decide) hs hp judged rfl

end Sys2Proof.Machine
end

section
/-!
What the blocks beside the slot timers do at a tick, as timers and capture units see it (R5): the clock, the pulse
channels, the units that wait for a timer and the timers' conditions stand, and few records enter the capture log.
-/
namespace Sys2Proof.Machine

/-! ## Conditions -/

/-- CAPTURE-READY and the conditions TIMER0 to HOST-B stand. -/
structure Spares (s t : State) : Prop where
  stands : ∀ n : Fin 32, n = condCaptureReady ∨ 26 ≤ n.1 → t.cnu.records[n] = s.cnu.records[n]

theorem Spares.same {s t : State} (h : t.cnu = s.cnu) : Spares s t := ⟨fun _ _ => by rw [h]⟩
theorem Spares.refl (s : State) : Spares s s := .same rfl
theorem Spares.trans {s t u : State} (h : Spares s t) (k : Spares t u) : Spares s u :=
  ⟨fun n hn => (k.stands n hn).trans (h.stands n hn)⟩

/-- An operation spares these conditions whatever it starts from beside them. -/
theorem Spares.after {s t u : State} (k : Spares t u) (h : t.cnu = s.cnu) : Spares s u := .trans (.same h) k

theorem spares_setRecord {n : Fin 32} (h : n ≠ condCaptureReady ∧ n.1 < 26) (r : CondRecord) (s : State) :
    Spares s { s with cnu := setRecord n r s.cnu } := by
  refine ⟨fun m hm => setRecord_others n r s.cnu m fun hmn => ?_⟩
  obtain rfl := List.mem_singleton.1 hmn
  omega

theorem spares_raise {n : Fin 32} (h : n ≠ condCaptureReady ∧ n.1 < 26) (k t s) : Spares s (State.raise n k t s) :=
  spares_setRecord h _ s
theorem spares_follow {n : Fin 32} (h : n ≠ condCaptureReady ∧ n.1 < 26) (b k t s) :
    Spares s (State.follow n b k t s) := spares_setRecord h _ s

/-- A fold of operations that each spare these conditions. -/
theorem spares_foldl {α : Type} {f : State → α → State} (h : ∀ s x, Spares s (f s x)) (l : List α) (s : State) :
    Spares s (l.foldl f s) :=
  foldl_related .refl .trans h l s

theorem spares_agePoints (s) : Spares s (agePoints s) :=
  .after (.trans (spares_follow (by decide) _ _ _ _) (spares_follow (by decide) _ _ _ _)) rfl

/-! ## The gas balance -/

theorem spares_reportClamp (c t s) : Spares s (reportClamp c t s) := by
  unfold reportClamp
  repeat' split
  · exact spares_raise (by decide) ..
  · exact .refl _
  · exact .refl _

theorem spares_evaluateGrade (b s g) : Spares s (evaluateGrade b s g) := by
  unfold evaluateGrade
  dsimp only
  split
  · exact .same rfl
  · refine .trans ?_ (spares_reportClamp ..)
    exact .after (spares_reportClamp ..) rfl

theorem spares_raiseReleased (x w t s) : Spares s (raiseReleased x w t s) :=
  spares_foldl (fun s n => by
    split
    · exact spares_raise (by decide) ..
    · exact .refl _) _ s

theorem spares_raiseShort (x w t s) : Spares s (raiseShort x w t s) := by
  unfold raiseShort
  split
  · exact spares_raise (by decide) ..
  · exact .refl _

theorem spares_followFlaring (f t s) : Spares s (followFlaring f t s) := spares_follow (n := condFlaring) (by decide) ..
theorem spares_followBlocked (t s) : Spares s (followBlocked t s) :=
  spares_follow (n := condConsumerBlocked) (by decide) ..

theorem spares_writeAllocation (b x w f r s) : Spares s (writeAllocation b x w f r s) := .same rfl

theorem spares_allocate (b s) : Spares s (allocate b s) := by
  unfold allocate
  refine .trans ?_ (spares_followFlaring ..)
  refine .trans ?_ (spares_writeAllocation ..)
  refine .trans ?_ (spares_raiseShort ..)
  refine .trans ?_ (spares_raiseReleased ..)
  exact .after (spares_followBlocked b.ended (setConsumers _ s)) rfl

theorem spares_followHolders (t s) : Spares s (followHolders t s) :=
  .trans (spares_follow (by decide) _ _ _ _) (spares_follow (by decide) _ _ _ _)

theorem spares_balanceBoundary (b s) : Spares s (balanceBoundary b s) :=
  .trans (.trans (spares_foldl (spares_evaluateGrade b) _ s) (spares_followHolders ..)) (spares_allocate ..)

/-! ## The retire queue -/

theorem spares_finishReading (r s) : Spares s (finishReading r s).2 := by
  unfold finishReading
  dsimp only
  split
  · exact .after (spares_raise (n := condDeltaTReverse) (by decide) ..) rfl
  · exact .same rfl

theorem spares_finishPass (force q w s) : Spares s (finishPass force q w s).2 := by
  induction q generalizing w s with
  | nil => exact .refl _
  | cons e q ih =>
    cases e with
    | marker p => exact ih ..
    | reading r =>
      unfold finishPass
      repeat' split
      · exact ih ..
      · exact .trans (spares_finishReading r s) (ih ..)
      · exact ih ..

theorem spares_bookSuspense (r f s) : Spares s (bookSuspense r f s) := .after (spares_raise (by decide) ..) rfl

theorem spares_bookReading (r f s) : Spares s (bookReading r f s) := by
  unfold bookReading
  dsimp only
  repeat' split
  · exact spares_bookSuspense ..
  · exact .after (spares_bookSuspense ..) rfl
  · exact .after (spares_bookSuspense ..) rfl
  · exact .same rfl

theorem spares_retireRun (q s) : Spares s (retireRun q s) := by
  induction q generalizing s with
  | nil => exact .same rfl
  | cons e q ih =>
    cases e with
    | marker p => exact .after (ih _) rfl
    | reading r =>
      unfold retireRun
      split
      · exact .trans (spares_bookReading ..) (ih _)
      · exact .same rfl

theorem spares_settleQueue (s) : Spares s (settleQueue s) := by
  unfold settleQueue
  exact .trans (spares_finishPass false s.hmu.queue [] s) (spares_retireRun ..)

theorem spares_countDownQueue (n s) : Spares s (countDownQueue n s) := .after (spares_settleQueue _) rfl

theorem spares_meterBoundaries (b s) : Spares s (meterBoundaries b s) :=
  spares_foldl (fun s m => by
    unfold meterBoundary
    dsimp only
    repeat' split
    · exact .same rfl
    · exact .same rfl
    · exact .after (spares_raise (by decide) ..) rfl
    · exact .same rfl) _ s

/-! ## What a timer sees -/

/-- What the capture units can be after a trigger: the mode applied (R14). -/
def CaptureUnit.fired (x : CaptureUnit) : CaptureUnit := { x with armed := x.continuous }

/-- What the slot timers `ms` and the blocks beside them can do at a boundary, with at most `k` records for the capture
log: the other timers and their conditions stand, and a unit that waits for a timer fires at most, and only for one of
these timers that names it. -/
structure Passes (ms : List (Fin 4)) (k : Nat) (s t : State) : Prop where
  clock : ∃ x u l, t.sck = { s.sck with timers := x, units := u, log := l }
  pulses : t.fiu.pulses = s.fiu.pulses
  timer : ∀ n : Fin 4, n ∉ ms → t.sck.timers[n] = s.sck.timers[n]
  condition : ∀ n : Fin 4, n ∉ ms → t.cnu.records[condTimer n] = s.cnu.records[condTimer n]
  names : ∀ n : Fin 4, t.sck.timers[n].unit = s.sck.timers[n].unit
  units : ∀ i : Fin 4, s.sck.units[i].trigger = .timer → t.sck.units[i] = s.sck.units[i] ∨
    t.sck.units[i] = s.sck.units[i].fired ∧ t.cnu.records[condCaptureReady].active = true
  unnamed : ∀ i : Fin 4, s.sck.units[i].trigger = .timer → (∀ n ∈ ms, s.sck.timers[n].unit ≠ some i) →
    t.sck.units[i] = s.sck.units[i]
  ready : s.cnu.records[condCaptureReady].active = true → t.cnu.records[condCaptureReady].active = true
  log : ∃ rs : List CaptureRecord, rs.length ≤ k ∧ t.sck.log = rs.foldl pushLog s.sck.log

theorem Passes.trans {ms ns : List (Fin 4)} {j k : Nat} {a b c : State} (h : Passes ms j a b) (h' : Passes ns k b c) :
    Passes (ms ++ ns) (j + k) a c := by
  obtain ⟨⟨_, _, _, hs⟩, pulses, timer, condition, names, units, unnamed, ready, rs, size, log⟩ := h
  obtain ⟨⟨_, _, _, hs'⟩, pulses', timer', condition', names', units', unnamed', ready', rs', size', log'⟩ := h'
  refine ⟨⟨_, _, _, by rw [hs', hs]⟩, pulses'.trans pulses, fun n hn => ?_, fun n hn => ?_,
    fun n => (names' n).trans (names n), fun i hi => ?_, fun i hi hn => ?_, fun h => ready' (ready h),
    rs ++ rs', ?_, ?_⟩
  · rw [List.mem_append, not_or] at hn
    exact (timer' n hn.2).trans (timer n hn.1)
  · rw [List.mem_append, not_or] at hn
    exact (condition' n hn.2).trans (condition n hn.1)
  · obtain same | ⟨once, active⟩ := units i hi
    · have later := units' i (by rw [same]; exact hi)
      rwa [same] at later
    · obtain same' | ⟨again, active'⟩ := units' i (by rw [once]; exact hi)
      · exact .inr ⟨same'.trans once, ready' active⟩
      · exact .inr ⟨by rw [again, once]; rfl, active'⟩
  · have same := unnamed i hi fun n hm => hn n (List.mem_append.2 (.inl hm))
    rw [unnamed' i (by rw [same]; exact hi) fun n hm => by rw [names n]; exact hn n (List.mem_append.2 (.inr hm)), same]
  · rw [List.length_append]
    omega
  · rw [log', log, List.foldl_append]

theorem Passes.mono {ms : List (Fin 4)} {j k : Nat} {s t : State} (h : Passes ms j s t) (hk : j ≤ k) :
    Passes ms k s t := by
  obtain ⟨rs, size, log⟩ := h.log
  exact { h with log := ⟨rs, size.trans hk, log⟩ }

/-- What the blocks beside the slot timers can do, with at most `k` records for the capture log. -/
abbrev Besides (k : Nat) : State → State → Prop := Passes [] k

theorem Besides.of_spares {s t : State} (hs : t.sck = s.sck) (hp : t.fiu.pulses = s.fiu.pulses)
    (hc : Spares s t) : Besides 0 s t where
  clock := ⟨_, _, _, hs⟩
  pulses := hp
  timer _ _ := by rw [hs]
  condition _ _ := hc.stands _ (.inr (Nat.le_add_right ..))
  names _ := by rw [hs]
  units _ _ := .inl (by rw [hs])
  unnamed _ _ _ := by rw [hs]
  ready h := by rw [hc.stands _ (.inl rfl)]; exact h
  log := ⟨[], Nat.le_refl 0, by rw [hs]; rfl⟩

theorem Besides.trans {j k : Nat} {a b c : State} (h : Besides j a b) (h' : Besides k b c) : Besides (j + k) a c :=
  Passes.trans h h'

theorem Besides.mono {j k : Nat} {s t : State} (h : Besides j s t) (hk : j ≤ k) : Besides k s t := Passes.mono h hk

theorem besides_agePoints (s) : Besides 0 s (agePoints s) := by
  obtain ⟨_, _, h⟩ := ages_agePoints s
  exact .of_spares (by rw [h]) (by rw [h]) (spares_agePoints s)

theorem besides_countDownQueue (n s) : Besides 0 s (countDownQueue n s) := by
  obtain ⟨_, _, _, _, h⟩ := retires_countDownQueue n s
  exact .of_spares (by rw [h]) (by rw [h]) (spares_countDownQueue n s)

theorem besides_meterBoundaries (b s) : Besides 0 s (meterBoundaries b s) := by
  obtain ⟨_, _, _, _, h⟩ := retires_meterBoundaries b s
  exact .of_spares (by rw [h]) (by rw [h]) (spares_meterBoundaries b s)

theorem besides_balanceBoundary (b s) : Besides 0 s (balanceBoundary b s) := by
  obtain ⟨_, _, _, _, h⟩ := balances_balanceBoundary b s
  exact .of_spares (by rw [h]) (by rw [h]) (spares_balanceBoundary b s)

/-! ## Export -/

theorem condTimer_not_capture : ∀ n : Fin 4, condTimer n ∉ [condCaptureReady, condCaptureOverwrite] := by decide

/-- A unit that watches for something else than a timer, triggered. -/
theorem besides_triggerUnit {u c s} (hu : s.sck.units[u].trigger ≠ .timer) : Besides 1 s (triggerUnit u c s) := by
  cases armed : s.sck.units[u].armed with
  | false =>
    rw [triggerUnit_idle armed]
    exact Besides.mono (.of_spares rfl rfl (.same rfl)) (Nat.zero_le 1)
  | true =>
    have others := appendCapture_others (captureRecord u c s) s
    have ready := appendCapture_ready (captureRecord u c s) s
    have stands : ∀ i : Fin 4, s.sck.units[i].trigger = .timer →
        (put s.sck.units u s.sck.units[u].fired)[i] = s.sck.units[i] := fun i hi =>
      put_getElem_ne _ _ fun e => hu (e ▸ hi)
    rw [triggerUnit_armed armed]
    obtain ⟨d, h⟩ := appendCapture_frame (captureRecord u c s) s
    rw [h] at others ready ⊢
    exact {
      clock := ⟨_, _, _, rfl⟩
      pulses := rfl
      timer := fun _ _ => rfl
      condition := fun n _ => others _ (condTimer_not_capture n)
      names := fun _ => rfl
      units := fun i hi => .inl (stands i hi)
      unnamed := fun i hi _ => stands i hi
      ready := fun _ => ready
      log := ⟨[_], Nat.le_refl 1, rfl⟩ }

theorem besides_foldl {α : Type} {f : State → α → State} {k : Nat} (h : ∀ s x, Besides k s (f s x)) (l : List α) (s) :
    Besides (l.length * k) s (l.foldl f s) := by
  induction l generalizing s with
  | nil => exact .mono (.of_spares rfl rfl (.same rfl)) (Nat.zero_le _)
  | cons x l ih =>
    refine ((h s x).trans (ih _)).mono ?_
    rw [List.length_cons, Nat.add_mul, Nat.one_mul, Nat.add_comm]

theorem besides_triggerUnits {p : Trigger → Bool} (hp : ∀ r, p r → r ≠ .timer) (c s) :
    Besides 4 s (triggerUnits p c s) :=
  besides_foldl (k := 1) (fun s u => by
    split
    · next h => exact besides_triggerUnit (hp _ h)
    · exact .mono (.of_spares rfl rfl (.same rfl)) (Nat.zero_le 1)) (List.finRange 4) s

theorem besides_changeExport (st k t s) : Besides 4 s (changeExport st k t s) := by
  unfold changeExport
  split
  · exact .mono (.of_spares rfl rfl (.same rfl)) (Nat.zero_le 4)
  · dsimp only
    refine Besides.trans (j := 0) ?_ (besides_triggerUnits (fun r h => ?_) _ _)
    · refine .of_spares rfl rfl ?_
      refine .trans ?_ (spares_follow (by decide) ..)
      refine .trans ?_ (spares_follow (by decide) ..)
      exact .after (spares_follow (by decide) ..) rfl
    · rw [of_decide_eq_true h]
      decide

theorem besides_changePlan (p t s) : Besides 0 s (changePlan p t s) :=
  .of_spares rfl rfl (by
    unfold changePlan
    refine .trans ?_ (spares_follow (n := condPlanStarved) (by decide) ..)
    exact .after (spares_follow (n := condPlanGrace) (by decide) ..) rfl)

theorem besides_exs (s e) : Besides 0 s { s with exs := e } := .of_spares rfl rfl (.same rfl)

theorem besides_updatePlan (t s) : Besides 0 s (updatePlan t s) := by
  have swap : Besides 0 s (swapTables t s) := .trans (besides_exs s _) (besides_changePlan ..)
  unfold updatePlan
  split
  · exact besides_exs s s.exs
  · split
    · exact swap
    · exact besides_exs s s.exs
  · split
    · exact swap
    · dsimp only
      split
      · exact .trans (besides_exs s _) (besides_changePlan ..)
      · exact besides_exs s _

theorem besides_rolloverPlan (t s) : Besides 0 s (rolloverPlan t s) := by
  unfold rolloverPlan
  split
  · exact .trans (besides_exs s _) (besides_changePlan ..)
  split
  · split
    · exact besides_changePlan ..
    · exact .trans (besides_exs s _) (besides_changePlan ..)
  · exact besides_updatePlan ..
  · exact besides_exs s s.exs

theorem besides_countDeviation (b v s) : Besides 4 s (countDeviation b v s) := by
  have counted : Besides 0 s (({ s with exs := { s.exs with deviations := s.exs.deviations + 1 } }).raise
      condSlotDeviant b.ended.slot.1 b.ended) := .of_spares rfl rfl (.after (spares_raise (by decide) ..) rfl)
  unfold countDeviation
  split
  · exact (besides_exs s _).mono (Nat.zero_le 4)
  · dsimp only
    split
    · exact counted.trans (besides_changeExport ..)
    · exact counted.mono (Nat.zero_le 4)
  · exact (besides_exs s s.exs).mono (Nat.zero_le 4)
  · exact (besides_exs s s.exs).mono (Nat.zero_le 4)

theorem besides_closeSlot (b s) : Besides 4 s (closeSlot b s) := by
  have record : ∀ r s, Besides 0 s (appendSlotRecord r s) := fun r s =>
    .of_spares rfl rfl (.after (spares_follow (n := condExportLogReady) (by decide) ..) rfl)
  unfold closeSlot
  dsimp only
  refine Besides.trans (k := 0) ?_ (record ..)
  refine Besides.trans (k := 0) ?_ (besides_exs ..)
  refine Besides.trans (j := 0) ?_ (besides_countDeviation ..)
  split
  · exact .of_spares rfl rfl (.after (spares_raise (n := condCountImplausible) (by decide) ..) rfl)
  · exact besides_exs ..

theorem besides_judgeExportState (t s) : Besides 4 s (judgeExportState t s) := by
  have stands : Besides 4 s s := (besides_exs s s.exs).mono (Nat.zero_le 4)
  have active : Besides 4 s (enterActive t s) := Besides.trans (j := 0) (besides_exs s _) (besides_changeExport ..)
  unfold judgeExportState
  repeat' split
  · exact active
  · exact stands
  · exact besides_changeExport ..
  · exact stands
  · exact active
  · exact stands
  · exact stands
  · exact stands

theorem besides_prepareSlot (b s) : Besides 4 s (prepareSlot b s) := by
  unfold prepareSlot
  dsimp only
  refine Besides.trans (k := 0) ?_ (besides_exs ..)
  refine Besides.trans (k := 0) ?_ (besides_exs ..)
  refine Besides.trans (j := 0) ?_ (besides_judgeExportState ..)
  refine Besides.trans (k := 0) ?_ (besides_exs ..)
  split
  · exact besides_rolloverPlan ..
  · exact besides_updatePlan ..

/-- Two changes of the EXS state, each of which may trigger four units, are the most that a boundary brings. -/
theorem besides_exportBoundary (b s) : Besides 8 s (exportBoundary b s) := by
  unfold exportBoundary
  dsimp only
  split
  · exact Besides.trans (j := 0) (besides_exs s _) (Besides.trans (besides_closeSlot ..) (besides_prepareSlot ..))
  · exact (besides_exs s _).mono (Nat.zero_le 8)

theorem besides_balanceAndExport (o b s) : Besides 8 s (balanceAndExport o b s) := by
  unfold balanceAndExport
  split
  · exact Besides.trans (besides_exportBoundary b s) (besides_balanceBoundary ..)
  · exact Besides.trans (k := 8) (besides_balanceBoundary b s) (besides_exportBoundary ..)

end Sys2Proof.Machine
end

section
/-!
The tick that ends a step (R4, R5): where the clock stands after it, and which timers and capture units it sets off
(R11).
-/
namespace Sys2Proof.Machine

/-! ## One slot timer -/

theorem Passes.wider {ms ns : List (Fin 4)} {k : Nat} {s t : State} (h : Passes ms k s t) (sub : ms ⊆ ns) :
    Passes ns k s t :=
  { h with
    timer := fun n hn => h.timer n fun hm => hn (sub hm)
    condition := fun n hn => h.condition n fun hm => hn (sub hm)
    unnamed := fun i hi hn => h.unnamed i hi fun n hm => hn n (sub hm) }

theorem passes_nothing (ms : List (Fin 4)) (k : Nat) (s : State) : Passes ms k s s :=
  ((Besides.of_spares rfl rfl (.same rfl)).mono (Nat.zero_le k)).wider (List.nil_subset ms)

theorem condTimer_inj : ∀ m n : Fin 4, m ≠ n → condTimer m ∉ [condTimer n] := by decide
theorem ready_not_condTimer : ∀ n : Fin 4, condCaptureReady ∉ [condTimer n] := by decide

theorem passes_raiseTimer (n : Fin 4) (k t s) : Passes [n] 0 s (s.raise (condTimer n) k t) where
  clock := ⟨_, _, _, rfl⟩
  pulses := rfl
  timer _ _ := rfl
  condition m hm := raiseCond_others _ _ _ _ _ (condTimer_inj m n fun e => hm (List.mem_singleton.2 e))
  names _ := rfl
  units _ _ := .inl rfl
  unnamed _ _ _ := rfl
  ready h := by
    have same := raiseCond_others (condTimer n) k t s.cnu condCaptureReady (ready_not_condTimer n)
    exact (congrArg CondRecord.active same).trans h
  log := ⟨[], Nat.le_refl 0, rfl⟩

/-- A slot timer replaced by one that names the same unit. -/
theorem passes_setTimer {n : Fin 4} {x : SlotTimer} {s : State} (named : x.unit = s.sck.timers[n].unit) :
    Passes [n] 0 s { s with sck := { s.sck with timers := put s.sck.timers n x } } where
  clock := ⟨_, _, _, rfl⟩
  pulses := rfl
  timer m hm := put_getElem_ne _ _ fun e => hm (List.mem_singleton.2 e.symm)
  condition _ _ := rfl
  names m := by
    by_cases h : m = n
    · subst h
      exact (congrArg SlotTimer.unit (put_getElem_self _ _ _)).trans named
    · exact congrArg SlotTimer.unit (put_getElem_ne _ _ (Ne.symm h))
  units _ _ := .inl rfl
  unnamed _ _ _ := rfl
  ready h := h
  log := ⟨[], Nat.le_refl 0, rfl⟩

/-- What a trigger makes of a unit (R14). -/
theorem triggerUnit_unit (u c s) : (triggerUnit u c s).sck.units[u] =
    { s.sck.units[u] with armed := s.sck.units[u].armed && s.sck.units[u].continuous } := by
  cases armed : s.sck.units[u].armed with
  | false =>
    rw [triggerUnit_idle armed, Bool.false_and, ← armed]
  | true =>
    rw [triggerUnit_armed armed, Bool.true_and]
    exact put_getElem_self ..

/-- The unit that an expiring timer names is triggered if it waits for a timer (R11). -/
theorem passes_triggerNamed {n u : Fin 4} {c : CaptureCause} {s : State} (named : s.sck.timers[n].unit = some u) :
    Passes [n] 1 s (triggerUnit u c s) := by
  cases armed : s.sck.units[u].armed with
  | false =>
    rw [triggerUnit_idle armed]
    exact passes_nothing ..
  | true =>
    have others := appendCapture_others (captureRecord u c s) s
    have ready := appendCapture_ready (captureRecord u c s) s
    rw [triggerUnit_armed armed]
    obtain ⟨d, h⟩ := appendCapture_frame (captureRecord u c s) s
    rw [h] at others ready ⊢
    exact {
      clock := ⟨_, _, _, rfl⟩
      pulses := rfl
      timer := fun _ _ => rfl
      condition := fun m _ => others _ (condTimer_not_capture m)
      names := fun _ => rfl
      units := fun i _ => by
        by_cases hi : i = u
        · subst hi
          exact .inr ⟨put_getElem_self .., ready⟩
        · exact .inl (put_getElem_ne _ _ (Ne.symm hi))
      unnamed := fun i _ hn => put_getElem_ne _ _ fun e =>
        hn n (List.mem_singleton.2 rfl) (by rw [named, e])
      ready := fun _ => ready
      log := ⟨[_], Nat.le_refl 1, rfl⟩ }

theorem passes_signalled (n s) : Passes [n] 1 s (signalled n s) := by
  have raised := passes_raiseTimer n n.1 s.sck.pos s
  unfold signalled
  split
  · next u named =>
    split
    · exact (raised.trans (passes_triggerNamed (n := n) named)).wider (by simp)
    · exact raised.mono (Nat.zero_le 1)
  · exact raised.mono (Nat.zero_le 1)

theorem passes_expireTimer (n s) : Passes [n] 1 s (expireTimer n s) := by
  have first := passes_signalled n s
  have last : Passes [n] 0 (signalled n s) (expireTimer n s) := passes_setTimer (first.names n).symm
  exact (first.trans last).wider (by simp)

/-- One timer judged at the start of a step. -/
def visitTimer (s : State) (n : Fin 4) : State :=
  if timerMatches s.sck.timers[n] s.sck.pos then expireTimer n s else s

theorem passes_visitTimer (s n) : Passes [n] 1 s (visitTimer s n) := by
  unfold visitTimer
  split
  · exact passes_expireTimer ..
  · exact passes_nothing ..

theorem passes_visits (ms s) : Passes ms ms.length s (ms.foldl visitTimer s) := by
  induction ms generalizing s with
  | nil => exact passes_nothing ..
  | cons n ms ih => exact ((passes_visitTimer s n).trans (ih _)).mono (by rw [List.length_cons]; omega)

/-! ## The timer that expires -/

theorem expireTimer_timer (n s) : (expireTimer n s).sck.timers[n] = expired s.sck.timers[n] := put_getElem_self ..

theorem expireTimer_condition (n s) : (expireTimer n s).cnu.records[condTimer n] =
    raiseRecord n.1 s.sck.pos s.cnu.records[condTimer n] := by
  have raised : (s.raise (condTimer n) n.1 s.sck.pos).cnu.records[condTimer n] =
      raiseRecord n.1 s.sck.pos s.cnu.records[condTimer n] := put_getElem_self ..
  rw [expireTimer_eq]
  dsimp only
  unfold signalled
  split
  · next u _ =>
    split
    · exact (triggerUnit_others u _ _ _ (condTimer_not_capture n)).trans raised
    · exact raised
  · exact raised

/-- The unit that an expiring timer names is triggered if it waits for a timer. -/
theorem signalled_named {n u : Fin 4} {s : State} (named : s.sck.timers[n].unit = some u)
    (waits : s.sck.units[u].trigger = .timer) :
    signalled n s = triggerUnit u (.timer n) (s.raise (condTimer n) n.1 s.sck.pos) := by
  simp only [signalled, named, waits, if_pos]

theorem expireTimer_unit {n u : Fin 4} {s : State} (named : s.sck.timers[n].unit = some u)
    (waits : s.sck.units[u].trigger = .timer) : (expireTimer n s).sck.units[u] =
      { s.sck.units[u] with armed := s.sck.units[u].armed && s.sck.units[u].continuous } := by
  rw [expireTimer_eq, signalled_named named waits]
  exact triggerUnit_unit ..

/-- The record of an expiry (R11, R14). -/
theorem expireTimer_captures {n u : Fin 4} {s : State} (named : s.sck.timers[n].unit = some u)
    (waits : s.sck.units[u].trigger = .timer) (armed : s.sck.units[u].armed = true) :
    (expireTimer n s).sck.log = pushLog s.sck.log (captureRecord u (.timer n) s) ∧
    (expireTimer n s).cnu.records[condCaptureReady].active = true := by
  have fires : signalled n s = _ := (signalled_named named waits).trans (triggerUnit_armed armed)
  rw [expireTimer_eq, fires]
  refine ⟨?_, appendCapture_ready _ _⟩
  exact congrArg Sck.log (appendCapture_sck _ (s.raise (condTimer n) n.1 s.sck.pos))

/-! ## The capture log -/

/-- A record with so few after it stays in the log (R16). -/
theorem mem_foldl_pushLog {r : CaptureRecord} (rs : List CaptureRecord) {a b : List CaptureRecord}
    (few : b.length + rs.length ≤ 15) : r ∈ rs.foldl pushLog (a ++ r :: b) := by
  induction rs generalizing a b with
  | nil => exact List.mem_append.2 (.inr List.mem_cons_self)
  | cons x rs ih =>
    rw [List.length_cons] at few
    have later : (b ++ [x]).length + rs.length ≤ 15 := by
      rw [List.length_append, List.length_singleton]
      omega
    rw [List.foldl_cons, pushLog]
    split
    · rw [List.append_assoc, List.cons_append]
      exact ih later
    · next full =>
      cases a with
      | nil =>
        rw [List.nil_append, List.length_cons] at full
        omega
      | cons y a =>
        rw [List.cons_append, List.tail_cons, List.append_assoc, List.cons_append]
        exact ih later

theorem mem_log_after_push {r : CaptureRecord} {l rs : List CaptureRecord} (few : rs.length ≤ 15) :
    r ∈ rs.foldl pushLog (pushLog l r) :=
  mem_foldl_pushLog rs (b := []) (by rw [List.length_nil]; omega)

/-! ## The boundary -/

/-- The state as the blocks receive a boundary: the clock has moved on (R5). -/
def beginNext (s : State) : State := { s with sck := advanceClock s.sck }

theorem passes_beginNext {ms k s t} (h : Passes ms k s t) : Passes ms k (beginNext s) (beginNext t) := by
  obtain ⟨x, u, l, clock⟩ := h.clock
  exact { h with clock := ⟨x, u, l, by unfold beginNext; rw [clock]; rfl⟩ }

/-- The timers below `n`, and those above it. -/
def timersBelow (n : Fin 4) : List (Fin 4) := (List.finRange 4).filter (· < n)
def timersAbove (n : Fin 4) : List (Fin 4) := (List.finRange 4).filter (n < ·)

theorem timers_split : ∀ n : Fin 4, List.finRange 4 = timersBelow n ++ n :: timersAbove n := by decide
theorem timers_few : ∀ n : Fin 4, (timersBelow n).length ≤ 3 ∧ (timersAbove n).length ≤ 3 := by decide
theorem mem_timersBelow {m n : Fin 4} : m ∈ timersBelow n ↔ m < n := by simp [timersBelow]
theorem mem_timersAbove {m n : Fin 4} : m ∈ timersAbove n ↔ n < m := by simp [timersAbove]

theorem stepStart_split (n s) :
    stepStart s = (timersAbove n).foldl visitTimer (visitTimer ((timersBelow n).foldl visitTimer s) n) := by
  change (List.finRange 4).foldl visitTimer s = _
  rw [timers_split n, List.foldl_append, List.foldl_cons]

/-- What surrounds the visit of timer `n` in a change from `s` to `t`: the timers below it and those above it, and the
blocks, of which few records come. -/
def Surrounds (n : Fin 4) (s t : State) : Prop :=
  ∃ a, Passes (timersBelow n) 11 s a ∧ Passes (timersAbove n) 11 (visitTimer a n) t

theorem Surrounds.after {n s s' t} (h : Surrounds n s' t) (before : Besides 0 s s') : Surrounds n s t := by
  obtain ⟨a, below, above⟩ := h
  exact ⟨a, (Passes.trans before below).mono (by omega), above⟩

theorem Surrounds.before {n s t t'} (h : Surrounds n s t) (after : Besides 0 t t') : Surrounds n s t' := by
  obtain ⟨a, below, above⟩ := h
  exact ⟨a, below, (Passes.trans above after).wider (by simp)⟩

theorem surrounds_timersAndBlocks (n o b s) : Surrounds n s (timersAndBlocks o b s) := by
  obtain ⟨fewBelow, fewAbove⟩ := timers_few n
  unfold timersAndBlocks
  split
  · rw [stepStart_split n]
    refine ⟨_, (passes_visits (timersBelow n) s).mono (by omega), ?_⟩
    exact ((Passes.trans (passes_visits ..) (besides_balanceAndExport ..)).wider (by simp)).mono (by omega)
  · rw [stepStart_split n]
    refine ⟨_, ?_, (passes_visits (timersAbove n) _).mono (by omega)⟩
    exact (Passes.trans (besides_balanceAndExport ..) (passes_visits (timersBelow n) _)).mono (by omega)

theorem surrounds_boundaryTick (n o s) : Surrounds n (beginNext s) (boundaryTick o s) := by
  unfold boundaryTick
  dsimp only
  have aged : Besides 0 s (if o.fiuFirst then agePoints s else s) := by
    split
    · exact besides_agePoints s
    · exact passes_nothing ..
  generalize (if o.fiuFirst then agePoints s else s) = s1 at aged ⊢
  have counted : Besides 0 s1 (if o.hmuFirst then countDownQueue s1.hmu.queue.length s1 else s1) := by
    split
    · exact besides_countDownQueue ..
    · exact passes_nothing ..
  generalize (if o.hmuFirst then countDownQueue s1.hmu.queue.length s1 else s1) = s2 at counted ⊢
  have taken : Surrounds n (beginNext s) (takeBoundary o s2) :=
    ((surrounds_timersAndBlocks n o (boundaryOf s2.sck) (beginNext s2)).after
      (passes_beginNext (aged.trans counted))).before (besides_meterBoundaries ..)
  have countedLater : Surrounds n (beginNext s)
      (if o.hmuFirst then takeBoundary o s2 else countDownQueue s2.hmu.queue.length (takeBoundary o s2)) := by
    split
    · exact taken
    · exact taken.before (besides_countDownQueue ..)
  split
  · exact countedLater
  · exact countedLater.before (besides_agePoints _)

theorem boundaryTick_sck (o s) :
    ∃ x u l, (boundaryTick o s).sck = { advanceClock s.sck with timers := x, units := u, log := l } := by
  obtain ⟨a, below, above⟩ := surrounds_boundaryTick 0 o s
  exact (below.trans ((passes_visitTimer a 0).trans above)).clock

theorem boundaryDue_iff (c : Sck) : boundaryDue c = true ↔ c.running = true ∧ c.endCount ≤ c.ticks + 1 := by
  simp [boundaryDue]

theorem nextTag_cases (c : Sck) : nextTag c =
    if c.pos.step + 1 < stepsPerSlot c then { c.pos with step := c.pos.step + 1 }
    else { frame := if c.pos.slot.1 = 95 then (c.pos.frame + 1) % 65536 else c.pos.frame,
           slot := c.pos.slot + 1, step := 0 } := by
  have last : lastOfSlot c = true ↔ ¬ c.pos.step + 1 < stepsPerSlot c := by simp [lastOfSlot]
  have frameEnd : c.pos.slot = 95 ↔ c.pos.slot.1 = 95 := Fin.ext_iff
  by_cases h : c.pos.step + 1 < stepsPerSlot c
  · rw [if_pos h, nextTag, if_neg fun hl => last.1 hl h]
  · rw [if_neg h, nextTag, if_pos (last.2 h)]
    simp only [frameEnd]

/-- Settles O15: a boundary is due or not; where it is, the tick is the boundary's, which leaves the advanced clock. -/
theorem stepBoundaryAdvances : Obligations.StepBoundaryAdvances := by
  intro s o
  refine ⟨fun due => ?_, fun quiet => ?_⟩
  · have ends := (boundaryDue_iff s.sck).2 due
    have ticked : tick o s = boundaryTick o s := if_pos ends
    obtain ⟨pending, lkp, fiu⟩ := ticks_tick o s
    obtain ⟨x, u, l, clock⟩ := boundaryTick_sck o s
    rw [← ticked] at clock
    refine ⟨tick o s, congrArg Host.Outcome.next (if_pos ends), rfl, ?_⟩
    rw [clock, fiu]
    exact ⟨nextTag_cases s.sck, rfl, rfl, rfl, rfl, due.1, rfl, rfl, lkp, rfl, rfl, rfl, pending⟩
  · exact congrArg Host.Outcome.next (if_neg fun ends => quiet ((boundaryDue_iff s.sck).1 ends))

/-! ## The expiry of a timer -/

theorem timerMatches_iff (x : SlotTimer) (p : Tag) :
    timerMatches x p = true ↔ x.armed = true ∧ (x.slot = none ∨ x.slot = some p.slot) ∧ x.offset = p.step := by
  unfold timerMatches
  cases x.slot with
  | none => simp
  | some n => simp [and_assoc]

/-- Timer `n`'s visit, which the timers below and above it surround, finds it as the tick does and lets it expire. -/
theorem boundaryTick_visits {n : Fin 4} {o s} (matched : timerMatches s.sck.timers[n] (nextTag s.sck) = true) :
    ∃ a, Passes (timersBelow n) 11 (beginNext s) a ∧ Passes (timersAbove n) 11 (expireTimer n a) (boundaryTick o s) ∧
      a.sck.timers[n] = s.sck.timers[n] ∧ a.sck.pos = nextTag s.sck := by
  obtain ⟨a, below, above⟩ := surrounds_boundaryTick n o s
  have timer : a.sck.timers[n] = s.sck.timers[n] := below.timer n fun h => (mem_timersBelow.1 h).false
  have pos : a.sck.pos = nextTag s.sck := by
    obtain ⟨_, _, _, clock⟩ := below.clock
    rw [clock]
    rfl
  have visited : visitTimer a n = expireTimer n a := if_pos (by rw [timer, pos, matched])
  rw [visited] at above
  exact ⟨a, below, above, timer, pos⟩

/-- What the boundary leaves of timer `n` and of its condition, when the timer matches the step that begins (R11). -/
theorem boundaryTick_expires {n : Fin 4} {o s} (matched : timerMatches s.sck.timers[n] (nextTag s.sck) = true) :
    (boundaryTick o s).sck.timers[n] = expired s.sck.timers[n] ∧
    (boundaryTick o s).cnu.records[condTimer n] =
      (raiseCond (condTimer n) n.1 (nextTag s.sck) s.cnu).records[condTimer n] := by
  obtain ⟨a, below, above, timer, pos⟩ := boundaryTick_visits (o := o) matched
  have notBelow : n ∉ timersBelow n := fun h => (mem_timersBelow.1 h).false
  have notAbove : n ∉ timersAbove n := fun h => (mem_timersAbove.1 h).false
  constructor
  · rw [above.timer n notAbove, expireTimer_timer, timer]
  · rw [above.condition n notAbove, expireTimer_condition, pos, below.condition n notBelow, raiseCond_records,
      put_getElem_self]
    rfl

/-- The unit that the timer names fires if it waits for a timer, whether or not a lower timer has set it off (R14). -/
theorem boundaryTick_fires {n u : Fin 4} {o s} (matched : timerMatches s.sck.timers[n] (nextTag s.sck) = true)
    (named : s.sck.timers[n].unit = some u) (waits : s.sck.units[u].trigger = .timer)
    (armed : s.sck.units[u].armed = true) :
    (boundaryTick o s).sck.units[u] = s.sck.units[u].fired ∧
    (boundaryTick o s).cnu.records[condCaptureReady].active = true := by
  obtain ⟨a, below, above, timer, -⟩ := boundaryTick_visits (o := o) matched
  have namedThen : a.sck.timers[n].unit = some u := by rw [timer, named]
  have atExpiry : (expireTimer n a).sck.units[u] = s.sck.units[u].fired ∧
      (expireTimer n a).cnu.records[condCaptureReady].active = true := by
    obtain same | ⟨once, ready⟩ := below.units u waits
    · have same : a.sck.units[u] = s.sck.units[u] := same
      refine ⟨?_, (expireTimer_captures namedThen (by rw [same, waits]) (by rw [same, armed])).2⟩
      rw [expireTimer_unit namedThen (by rw [same, waits]), same, armed, Bool.true_and]
      rfl
    · have once : a.sck.units[u] = s.sck.units[u].fired := once
      refine ⟨?_, (passes_expireTimer n a).ready ready⟩
      rw [expireTimer_unit namedThen (by rw [once]; exact waits), once]
      simp only [CaptureUnit.fired, Bool.and_self]
  obtain ⟨fired, ready⟩ := atExpiry
  refine ⟨?_, above.ready ready⟩
  obtain same | ⟨again, -⟩ := above.units u (by rw [fired]; exact waits)
  · rw [same, fired]
  · rw [again, fired]
    rfl

/-- The record of the expiry is in the log, if no lower timer names the same unit (R11). -/
theorem boundaryTick_captures {n u : Fin 4} {o s} (running : s.sck.running = true)
    (matched : timerMatches s.sck.timers[n] (nextTag s.sck) = true)
    (named : s.sck.timers[n].unit = some u) (waits : s.sck.units[u].trigger = .timer)
    (armed : s.sck.units[u].armed = true) (first : ∀ m < n, s.sck.timers[m].unit ≠ some u) :
    { unit := u, cause := .timer n, pos := nextTag s.sck, ms := 0, running := true,
      snapshot := s.sck.units[u].snapshot.map fun ch => (ch, countOf s.fiu.pulses ch) : CaptureRecord } ∈
      (boundaryTick o s).sck.log := by
  obtain ⟨a, below, above, timer, pos⟩ := boundaryTick_visits (o := o) matched
  have same : a.sck.units[u] = s.sck.units[u] := below.unnamed u waits fun m hm => first m (mem_timersBelow.1 hm)
  have pulses : a.fiu.pulses = s.fiu.pulses := below.pulses
  have clock : a.sck.running = true ∧ elapsedCount a.sck = 0 := by
    obtain ⟨x, v, l, h⟩ := below.clock
    rw [h]
    exact ⟨running, by simp [elapsedCount, beginNext, advanceClock, startStep]⟩
  have record : captureRecord u (.timer n) a =
      { unit := u, cause := .timer n, pos := nextTag s.sck, ms := 0, running := true,
        snapshot := s.sck.units[u].snapshot.map fun ch => (ch, countOf s.fiu.pulses ch) } := by
    rw [captureRecord, pos, clock.1, clock.2, same, pulses]
  obtain ⟨rs, few, log⟩ := above.log
  have taken := (expireTimer_captures (s := a) (by rw [timer, named]) (by rw [same, waits]) (by rw [same, armed])).1
  rw [log, taken, ← record]
  exact mem_log_after_push (by omega)

/-- Settles O16: the tick is the boundary's, and the visit of the timer in it stands between those of the
timers below and above it. -/
theorem timerExpires : Obligations.TimerExpires := by
  intro s o n
  have event : exec (.timerExpiry n o) s =
      .next (if boundaryDue s.sck && timerMatches s.sck.timers[n] (nextTag s.sck) then tick o s else s) := rfl
  refine ⟨fun ⟨running, ends, matched⟩ => ?_, fun quiet => ?_⟩
  · have due := (boundaryDue_iff s.sck).2 ⟨running, ends⟩
    have matched := (timerMatches_iff s.sck.timers[n] (nextTag s.sck)).2 matched
    have ticked : tick o s = boundaryTick o s := if_pos due
    rw [due, matched, Bool.and_self, if_pos rfl, ticked] at event
    obtain ⟨timer, condition⟩ := boundaryTick_expires (o := o) matched
    obtain ⟨active, count, inactive, -⟩ := raisedOnce_raiseCond (condTimer n) n.1 (nextTag s.sck) s.cnu
    rw [← condition] at active count inactive
    refine ⟨_, event, timer, active, count, inactive, fun u named waits armed => ?_⟩
    obtain ⟨fired, ready⟩ := boundaryTick_fires (o := o) matched named waits armed
    exact ⟨fired, ready, boundaryTick_captures running matched named waits armed⟩
  · rw [event]
    refine congrArg Host.Outcome.next (if_neg fun h => quiet ?_)
    obtain ⟨due, matched⟩ := Bool.and_eq_true_iff.1 h
    obtain ⟨running, ends⟩ := (boundaryDue_iff s.sck).1 due
    exact ⟨running, ends, (timerMatches_iff ..).1 matched⟩

end Sys2Proof.Machine
end

section
/-!
What a sample of the event lines makes of the capture units, the capture log and the demand record (R14, R16, R25, R26,
R116).
-/
namespace Sys2Proof.Machine

/-! ## Several records -/

/-- One record and the log and conditions that take it (R16). -/
def logCapture (pos : Tag) (p : List CaptureRecord × Cnu) (r : CaptureRecord) : List CaptureRecord × Cnu :=
  let d := followCond condCaptureReady true r.unit.1 pos p.2
  (pushLog p.1 r, if p.1.length < 16 then d else raiseCond condCaptureOverwrite r.unit.1 pos d)

theorem logCapture_room {pos p r} (room : p.1.length < 16) :
    logCapture pos p r = (pushLog p.1 r, followCond condCaptureReady true r.unit.1 pos p.2) :=
  congrArg (Prod.mk _) (if_pos room)

theorem logCapture_full {pos p r} (full : 16 ≤ p.1.length) : logCapture pos p r = (pushLog p.1 r,
    raiseCond condCaptureOverwrite r.unit.1 pos (followCond condCaptureReady true r.unit.1 pos p.2)) :=
  congrArg (Prod.mk _) (if_neg (Nat.not_lt.2 full))

/-- The record that a state appends changes the log and the conditions in this way. -/
theorem appendCapture_logged (r s) :
    ((appendCapture r s).sck.log, (appendCapture r s).cnu) = logCapture s.sck.pos (s.sck.log, s.cnu) r := by
  obtain room | full := Nat.lt_or_ge s.sck.log.length 16
  · rw [appendCapture_room r s room, logCapture_room room]
  · rw [appendCapture_full r s full, logCapture_full full]

theorem logCapture_others (pos p r) :
    OthersStand [condCaptureReady, condCaptureOverwrite] p.2 (logCapture pos p r).2 := by
  have ready := followCond_others condCaptureReady true r.unit.1 pos p.2
  obtain room | full := Nat.lt_or_ge p.1.length 16
  · rw [logCapture_room room]
    exact others_trans (ms := [condCaptureReady]) (ns := [condCaptureOverwrite]) ready fun _ _ => rfl
  · rw [logCapture_full full]
    exact others_trans ready (raiseCond_others _ _ _ _)

theorem logCapture_ready (pos p r) : (logCapture pos p r).2.records[condCaptureReady].active = true := by
  obtain room | full := Nat.lt_or_ge p.1.length 16
  · rw [logCapture_room room]
    exact followCond_active ..
  · rw [logCapture_full full, raiseCond_others _ _ _ _ condCaptureReady (by decide)]
    exact followCond_active ..

theorem logCapture_overwrite_room (pos p r) (room : p.1.length < 16) :
    (logCapture pos p r).2.records[condCaptureOverwrite] = p.2.records[condCaptureOverwrite] := by
  rw [logCapture_room room]
  exact followCond_others _ _ _ _ _ condCaptureOverwrite (by decide)

theorem logCapture_overwrite_full (pos p r) (full : 16 ≤ p.1.length) :
    (logCapture pos p r).2.records[condCaptureOverwrite].active = true ∧
    (logCapture pos p r).2.records[condCaptureOverwrite].count =
      min (p.2.records[condCaptureOverwrite].count + 1) 255 := by
  rw [logCapture_full full]
  obtain ⟨active, count, -⟩ := raisedOnce_raiseCond condCaptureOverwrite r.unit.1 pos
    (followCond condCaptureReady true r.unit.1 pos p.2)
  rw [followCond_others _ _ _ _ _ condCaptureOverwrite (by decide)] at count
  exact ⟨active, count⟩

/-- The log keeps the last 16 of its records and the new ones (R16). -/
theorem foldl_logCapture_log (pos) (rs : List CaptureRecord) (p : List CaptureRecord × Cnu) (size : p.1.length ≤ 16) :
    (rs.foldl (logCapture pos) p).1 = (p.1 ++ rs).drop (p.1.length + rs.length - 16) := by
  induction rs generalizing p with
  | nil =>
    rw [List.length_nil, Nat.add_zero, Nat.sub_eq_zero_of_le size, List.append_nil]
    rfl
  | cons r rs ih =>
    have grown : (logCapture pos p r).1 = pushLog p.1 r := rfl
    rw [List.foldl_cons, ih _ (by rw [grown, pushLog_length size]; omega), grown, pushLog_length size, pushLog]
    split
    · next room =>
      rw [List.append_assoc, List.singleton_append, List.length_cons, Nat.min_eq_left (Nat.succ_le_of_lt room),
        show p.1.length + 1 + rs.length = p.1.length + (rs.length + 1) by omega]
    · next full =>
      obtain ⟨old, log, hp⟩ := List.exists_cons_of_ne_nil (l := p.1) fun h => full (by rw [h]; decide)
      have length : (old :: log).length = 16 := by rw [← hp]; omega
      rw [hp, length, List.length_cons, List.tail_cons, List.append_assoc, List.singleton_append, List.cons_append,
        show min (16 + 1) 16 + rs.length - 16 = rs.length by omega,
        show 16 + (rs.length + 1) - 16 = rs.length + 1 by omega, List.drop_succ_cons]

theorem foldl_logCapture_others (pos) (rs : List CaptureRecord) (p : List CaptureRecord × Cnu) :
    OthersStand [condCaptureReady, condCaptureOverwrite] p.2 (rs.foldl (logCapture pos) p).2 := by
  induction rs generalizing p with
  | nil => exact fun _ _ => rfl
  | cons r rs ih => exact fun n hn => (ih _ n hn).trans (logCapture_others pos p r n hn)

theorem foldl_logCapture_ready (pos) (rs : List CaptureRecord) (p : List CaptureRecord × Cnu) (new : rs ≠ []) :
    (rs.foldl (logCapture pos) p).2.records[condCaptureReady].active = true := by
  induction rs using List.reverseRecOn with
  | nil => exact absurd rfl new
  | append_singleton rs r _ =>
    rw [List.foldl_append]
    exact logCapture_ready ..

/-- CAPTURE-OVERWRITE counts the records that the log has lost (R16, R177). -/
theorem foldl_logCapture_overwrite (pos) (rs : List CaptureRecord) (p : List CaptureRecord × Cnu)
    (size : p.1.length ≤ 16) :
    (p.1.length + rs.length - 16 = 0 →
      (rs.foldl (logCapture pos) p).2.records[condCaptureOverwrite] = p.2.records[condCaptureOverwrite]) ∧
    (0 < p.1.length + rs.length - 16 →
      (rs.foldl (logCapture pos) p).2.records[condCaptureOverwrite].active = true ∧
      (rs.foldl (logCapture pos) p).2.records[condCaptureOverwrite].count =
        min (p.2.records[condCaptureOverwrite].count + (p.1.length + rs.length - 16)) 255) := by
  induction rs generalizing p with
  | nil => exact ⟨fun _ => rfl, fun h => by rw [List.length_nil] at h; omega⟩
  | cons r rs ih =>
    have length : (logCapture pos p r).1.length = min (p.1.length + 1) 16 := pushLog_length size r
    obtain ⟨kept, counted⟩ := ih (logCapture pos p r) (by omega)
    rw [length] at kept counted
    rw [List.foldl_cons, List.length_cons]
    obtain room | full := Nat.lt_or_ge p.1.length 16
    · have same := logCapture_overwrite_room pos p r room
      have lost : min (p.1.length + 1) 16 + rs.length - 16 = p.1.length + (rs.length + 1) - 16 := by omega
      rw [same, lost] at kept counted
      exact ⟨kept, counted⟩
    · obtain ⟨active, count⟩ := logCapture_overwrite_full pos p r full
      refine ⟨fun h => by omega, fun _ => ?_⟩
      rcases Nat.eq_zero_or_pos rs.length with none | more
      · rw [kept (by omega)]
        refine ⟨active, count.trans ?_⟩
        rw [show p.1.length + (rs.length + 1) - 16 = 1 by omega]
      · obtain ⟨active', count'⟩ := counted (by omega)
        refine ⟨active', count'.trans ?_⟩
        rw [count]
        omega

/-! ## Several triggers -/

/-- The units `hit` are triggered, and the records `rs` come of it, from `s` to `t`. -/
structure Triggers (hit : Fin 4 → Bool) (rs : List CaptureRecord) (s t : State) : Prop where
  clock : ∃ u l, t.sck = { s.sck with units := u, log := l }
  pulses : t.fiu.pulses = s.fiu.pulses
  units : ∀ u : Fin 4, t.sck.units[u] = { s.sck.units[u] with
    armed := s.sck.units[u].armed && (!hit u || s.sck.units[u].continuous) }
  logged : (t.sck.log, t.cnu) = rs.foldl (logCapture s.sck.pos) (s.sck.log, s.cnu)

theorem Triggers.none {s t : State} (clock : t.sck = s.sck) (pulses : t.fiu.pulses = s.fiu.pulses)
    (conditions : t.cnu = s.cnu) : Triggers (fun _ => false) [] s t where
  clock := ⟨_, _, clock⟩
  pulses := pulses
  units u := by rw [clock, Bool.not_false, Bool.true_or, Bool.and_true]
  logged := by rw [clock, conditions]; rfl

theorem Triggers.trans {h k : Fin 4 → Bool} {rs qs : List CaptureRecord} {a b c : State} (x : Triggers h rs a b)
    (y : Triggers k qs b c) : Triggers (fun u => h u || k u) (rs ++ qs) a c := by
  obtain ⟨⟨_, _, clock⟩, pulses, units, logged⟩ := x
  obtain ⟨⟨_, _, clock'⟩, pulses', units', logged'⟩ := y
  have pos : b.sck.pos = a.sck.pos := by rw [clock]
  refine ⟨⟨_, _, by rw [clock', clock]⟩, pulses'.trans pulses, fun u => ?_, ?_⟩
  · rw [units' u, units u]
    dsimp only
    rw [Bool.and_assoc, ← Bool.or_and_distrib_right, ← Bool.not_or]
  · rw [logged', logged, pos, List.foldl_append]

theorem Triggers.congr {h k : Fin 4 → Bool} {rs qs : List CaptureRecord} {s t : State} (x : Triggers h rs s t)
    (same : ∀ u, h u = k u) (records : rs = qs) : Triggers k qs s t := by
  obtain rfl : h = k := funext same
  exact records ▸ x

/-- A unit that is not triggered stands. -/
theorem Triggers.stands {h : Fin 4 → Bool} {rs s t} (x : Triggers h rs s t) {u : Fin 4} (spared : h u = false) :
    t.sck.units[u] = s.sck.units[u] := by
  rw [x.units u, spared, Bool.not_false, Bool.true_or, Bool.and_true]

theorem Triggers.trigger {h : Fin 4 → Bool} {rs s t} (x : Triggers h rs s t) (u : Fin 4) :
    t.sck.units[u].trigger = s.sck.units[u].trigger := by
  rw [x.units u]

/-- A trigger changes nothing that a record of another unit tells. -/
theorem Triggers.record {h : Fin 4 → Bool} {rs s t} (x : Triggers h rs s t) (u : Fin 4) (c : CaptureCause) :
    captureRecord u c t = captureRecord u c s := by
  obtain ⟨_, _, clock⟩ := x.clock
  have snapshot : t.sck.units[u].snapshot = s.sck.units[u].snapshot := by rw [x.units u]
  unfold captureRecord
  rw [snapshot, x.pulses, clock]
  rfl

theorem triggers_triggerUnit (u c s) :
    Triggers (fun v => decide (v = u)) (if s.sck.units[u].armed then [captureRecord u c s] else []) s
      (triggerUnit u c s) := by
  cases armed : s.sck.units[u].armed with
  | false =>
    rw [triggerUnit_idle armed, if_neg Bool.false_ne_true]
    refine { Triggers.none rfl rfl rfl with units := fun v => ?_ }
    by_cases h : v = u
    · rw [h, armed, Bool.false_and, ← armed]
    · rw [decide_eq_false h, Bool.not_false, Bool.true_or, Bool.and_true]
  | true =>
    rw [triggerUnit_armed armed, if_pos rfl]
    have logged := appendCapture_logged (captureRecord u c s) s
    obtain ⟨d, h⟩ := appendCapture_frame (captureRecord u c s) s
    rw [h] at logged ⊢
    refine ⟨⟨_, _, rfl⟩, rfl, fun v => ?_, logged⟩
    by_cases hv : v = u
    · subst hv
      rw [armed, decide_eq_true rfl, Bool.not_true, Bool.false_or, Bool.true_and]
      exact put_getElem_self ..
    · rw [decide_eq_false hv, Bool.not_false, Bool.true_or, Bool.and_true]
      exact put_getElem_ne _ _ (Ne.symm hv)

/-- The records that the units `us` form at a trigger: those of the ARMED ones whose trigger is meant. -/
def recordsOf (p : Trigger → Bool) (c : CaptureCause) (us : List (Fin 4)) (s : State) : List CaptureRecord :=
  (us.filter fun u => p s.sck.units[u].trigger && s.sck.units[u].armed).map fun u => captureRecord u c s

theorem recordsOf_cons (p c u us s) : recordsOf p c (u :: us) s =
    (if p s.sck.units[u].trigger && s.sck.units[u].armed then [captureRecord u c s] else []) ++ recordsOf p c us s := by
  unfold recordsOf
  rw [List.filter_cons]
  split
  · rfl
  · rfl

/-- Where the units `us` stand, so do their records. -/
theorem recordsOf_congr {p : Trigger → Bool} {c : CaptureCause} {us : List (Fin 4)} {h rs s t}
    (x : Triggers h rs s t) (stand : ∀ u ∈ us, p s.sck.units[u].trigger → h u = false) :
    recordsOf p c us t = recordsOf p c us s := by
  have armed : us.filter (fun u => p t.sck.units[u].trigger && t.sck.units[u].armed) =
      us.filter fun u => p s.sck.units[u].trigger && s.sck.units[u].armed :=
    List.filter_congr fun u hu => by
      rw [x.trigger u]
      cases meant : p s.sck.units[u].trigger with
      | false => rfl
      | true => rw [x.stands (stand u hu meant)]
  unfold recordsOf
  rw [armed]
  exact List.map_congr_left fun u _ => x.record u c

/-- One unit of several: triggered where its trigger is meant. -/
def triggerMeant (p : Trigger → Bool) (c : CaptureCause) (s : State) (u : Fin 4) : State :=
  if p s.sck.units[u].trigger then triggerUnit u c s else s

theorem triggers_triggerMeant (p c s u) :
    Triggers (fun v => decide (v = u) && p s.sck.units[v].trigger) (recordsOf p c [u] s) s (triggerMeant p c s u) := by
  unfold triggerMeant
  cases meant : p s.sck.units[u].trigger with
  | false =>
    refine (Triggers.none rfl rfl rfl).congr (fun v => ?_) (by rw [recordsOf_cons, meant]; rfl)
    by_cases h : v = u
    · rw [h, meant, Bool.and_false]
    · rw [decide_eq_false h, Bool.false_and]
  | true =>
    refine (triggers_triggerUnit u c s).congr (fun v => ?_) ?_
    · by_cases h : v = u
      · rw [h, meant, Bool.and_true]
      · rw [decide_eq_false h, Bool.false_and]
    · rw [recordsOf_cons, meant, Bool.true_and]
      exact (List.append_nil _).symm

theorem triggers_foldl (p c us s) (once : us.Nodup) :
    Triggers (fun v => decide (v ∈ us) && p s.sck.units[v].trigger) (recordsOf p c us s) s
      (us.foldl (triggerMeant p c) s) := by
  induction us generalizing s with
  | nil => exact (Triggers.none rfl rfl rfl).congr (fun v => by simp) rfl
  | cons u us ih =>
    obtain ⟨other, once⟩ := List.nodup_cons.1 once
    have first := triggers_triggerMeant p c s u
    refine (first.trans (ih _ once)).congr (fun v => ?_) ?_
    · rw [first.trigger v, ← Bool.and_or_distrib_right]
      simp [List.mem_cons]
    · rw [recordsOf_congr first fun v hv _ => by simp [show v ≠ u from fun e => other (e ▸ hv)]]
      rw [recordsOf_cons p c u [], recordsOf_cons p c u us]
      simp only [recordsOf, List.filter_nil, List.map_nil, List.append_nil]

theorem triggers_triggerUnits (p c s) :
    Triggers (fun v => p s.sck.units[v].trigger) (recordsOf p c (List.finRange 4) s) s (triggerUnits p c s) :=
  (triggers_foldl p c (List.finRange 4) s (List.nodup_finRange 4)).congr (fun v => by simp) rfl

end Sys2Proof.Machine
end

section
/-! A sample of the event lines, line by line (R25, R26). -/
namespace Sys2Proof.Machine

/-! ## One line -/

/-- Whether the sample takes a change of the line. -/
def takes (levels : BitVec 8) (s : State) (l : Fin 8) : Bool := changeDue (levelOf levels l) s.fiu.lines[l]

/-- The state with one line sampled, before a change of it is handed to its users. -/
def sampled (levels : BitVec 8) (s : State) (l : Fin 8) : State :=
  { s with fiu := { s.fiu with lines := put s.fiu.lines l (sampleLine (levelOf levels l) s.fiu.lines[l]) } }

theorem sampleStep_quiet {levels s l} (quiet : takes levels s l = false) : sampleStep levels s l = sampled levels s l :=
  if_neg (Bool.eq_false_iff.1 quiet)

theorem sampleStep_takes {levels s l} (taken : takes levels s l = true) :
    sampleStep levels s l = reportChange l (levelOf levels l) (sampled levels s l) := if_pos taken

/-- The users of a change: the capture units, then the channels whose permissive the line is, then the demand record
(R26). -/
theorem reportChange_users (l level s) : ∃ u g d r,
    triggerUnits (watchesChange l level) (.event l (decide (level = .high))) s =
      { s with sck := { s.sck with units := u, log := g }, cnu := d } ∧
    reportChange l level s = { s with
      sck := { s.sck with units := u, log := g }
      cnu := d
      dcu := { s.dcu with channels := permissiveChanges s.fiu.lines l s.dcu.channels }
      exs := { s.exs with record := r } } ∧
    r = if s.exs.config.gridHold = some l then formedRecord s else s.exs.record := by
  obtain ⟨u, g, d, h⟩ := captures_triggerUnits (watchesChange l level) (.event l (decide (level = .high))) s
  refine ⟨u, g, d, _, h, ?_, rfl⟩
  unfold reportChange gridHoldChange
  rw [h]
  by_cases grid : s.exs.config.gridHold = some l
  · simp only [if_pos grid]
    rfl
  · simp only [if_neg grid]

theorem sampleStep_lines (levels s l) : (sampleStep levels s l).fiu.lines =
    put s.fiu.lines l (sampleLine (levelOf levels l) s.fiu.lines[l]) := by
  cases taken : takes levels s l with
  | false => rw [sampleStep_quiet taken]; rfl
  | true =>
    obtain ⟨u, g, d, r, -, h, -⟩ := reportChange_users l (levelOf levels l) (sampled levels s l)
    rw [sampleStep_takes taken, h]
    rfl

theorem sampleStep_line (levels s l) :
    (sampleStep levels s l).fiu.lines[l] = sampleLine (levelOf levels l) s.fiu.lines[l] := by
  simp only [sampleStep_lines, put_getElem_self]

theorem sampleStep_otherLine (levels s) {l k : Fin 8} (h : l ≠ k) :
    (sampleStep levels s l).fiu.lines[k] = s.fiu.lines[k] := by
  simp only [sampleStep_lines, put_getElem_ne _ _ h]

theorem sampleStep_takes_other (levels s) {l k : Fin 8} (h : l ≠ k) :
    takes levels (sampleStep levels s l) k = takes levels s k := by
  rw [takes, sampleStep_otherLine levels s h]
  rfl

theorem sampleStep_channels (levels s l) : (sampleStep levels s l).dcu.channels =
    if takes levels s l then permissiveChanges (sampleStep levels s l).fiu.lines l s.dcu.channels
    else s.dcu.channels := by
  cases taken : takes levels s l with
  | false => rw [sampleStep_quiet taken]; rfl
  | true =>
    obtain ⟨u, g, d, r, -, h, -⟩ := reportChange_users l (levelOf levels l) (sampled levels s l)
    rw [sampleStep_takes taken, h, if_pos rfl]
    dsimp only [sampled]

/-- Whether the sample hands the change of a line to a capture unit. -/
def strikes (levels : BitVec 8) (s : State) (l : Fin 8) (u : Fin 4) : Bool :=
  takes levels s l && watchesChange l (levelOf levels l) s.sck.units[u].trigger

/-- The capture records that come of the change of a line (R26). -/
def lineRecords (levels : BitVec 8) (s : State) (l : Fin 8) : List CaptureRecord :=
  if takes levels s l then
    recordsOf (watchesChange l (levelOf levels l)) (.event l (decide (levelOf levels l = .high))) (List.finRange 4) s
  else []

theorem triggers_sampleStep (levels s l) :
    Triggers (strikes levels s l) (lineRecords levels s l) s (sampleStep levels s l) := by
  unfold strikes lineRecords
  cases taken : takes levels s l with
  | false =>
    rw [sampleStep_quiet taken]
    exact (Triggers.none (s := s) (t := sampled levels s l) rfl rfl rfl).congr (fun _ => rfl) rfl
  | true =>
    obtain ⟨u, g, d, r, triggered, reported, -⟩ := reportChange_users l (levelOf levels l) (sampled levels s l)
    have captures := triggers_triggerUnits (watchesChange l (levelOf levels l))
      (.event l (decide (levelOf levels l = .high))) (sampled levels s l)
    rw [triggered] at captures
    rw [sampleStep_takes taken, reported]
    exact ⟨captures.clock, captures.pulses, captures.units, captures.logged⟩

/-- A record formed from the same figures and the same GRID-HOLD level is the same (R112). -/
theorem formedRecord_congr {s t : State} {r : DemandRecord} (exs : t.exs = { s.exs with record := r })
    (gbu : t.gbu = s.gbu) (hold : ∀ l ∈ s.exs.config.gridHold, t.fiu.lines[l] = s.fiu.lines[l]) :
    formedRecord t = formedRecord s := by
  have asserted : holdAsserted t.fiu.lines s.exs.config = holdAsserted s.fiu.lines s.exs.config := by
    unfold holdAsserted
    split
    · rfl
    · next l h => rw [hold l h]
  unfold formedRecord
  rw [exs, gbu]
  dsimp only
  rw [asserted]
  rfl

theorem sampleStep_record (levels s l) : (sampleStep levels s l).exs.record =
    if s.exs.config.gridHold = some l ∧ takes levels s l then formedRecord (sampleStep levels s l)
    else s.exs.record := by
  cases taken : takes levels s l with
  | false =>
    rw [sampleStep_quiet taken, if_neg fun h => Bool.false_ne_true h.2]
    rfl
  | true =>
    obtain ⟨u, g, d, r, -, reported, record⟩ := reportChange_users l (levelOf levels l) (sampled levels s l)
    rw [sampleStep_takes taken, reported]
    simp only [and_true]
    rw [record]
    rfl

/-! ## The lines in their order -/

/-- What a sample of the lines `ls` leaves of the state. -/
def samples (levels : BitVec 8) (ls : List (Fin 8)) (s : State) : State := ls.foldl (sampleStep levels) s

theorem reports_samples (levels ls s) : Reports s (samples levels ls s) :=
  foldl_related .refl .trans (reports_sampleStep levels) ls s

theorem samples_otherLine (levels ls s) {l : Fin 8} (other : l ∉ ls) :
    (samples levels ls s).fiu.lines[l] = s.fiu.lines[l] := by
  induction ls generalizing s with
  | nil => rfl
  | cons k ls ih =>
    rw [List.mem_cons, not_or] at other
    exact (ih _ other.2).trans (sampleStep_otherLine levels s (Ne.symm other.1))

theorem samples_line (levels s) {ls : List (Fin 8)} (once : ls.Nodup) {l : Fin 8} (mem : l ∈ ls) :
    (samples levels ls s).fiu.lines[l] = sampleLine (levelOf levels l) s.fiu.lines[l] := by
  induction ls generalizing s with
  | nil => exact absurd mem List.not_mem_nil
  | cons k ls ih =>
    obtain ⟨other, once⟩ := List.nodup_cons.1 once
    rcases List.mem_cons.1 mem with rfl | mem
    · exact (samples_otherLine levels ls _ other).trans (sampleStep_line levels s l)
    · refine (ih _ once mem).trans ?_
      rw [sampleStep_otherLine levels s (l := k) fun e => other (by rw [e]; exact mem)]

/-- Which triggers watch a change of a line to a level (R26). -/
theorem watchesChange_iff {l level t} : watchesChange l level t = true ↔
    t = .event l .both ∨ level = .high ∧ t = .event l .rising ∨ level = .low ∧ t = .event l .falling := by
  cases t with
  | event k e => cases e <;> cases level <;> simp [watchesChange, edgeMatches]
  | timer => simp [watchesChange]
  | exportChange => simp [watchesChange]
  | request => simp [watchesChange]

/-- A unit watches one line. -/
theorem watchesChange_line {l k : Fin 8} {a b t} (h : watchesChange l a t = true) (k' : watchesChange k b t = true) :
    l = k := by
  cases t with
  | event j e =>
    have first : j = l := of_decide_eq_true (Bool.and_eq_true_iff.1 h).1
    have second : j = k := of_decide_eq_true (Bool.and_eq_true_iff.1 k').1
    exact first.symm.trans second
  | timer => exact absurd h Bool.false_ne_true
  | exportChange => exact absurd h Bool.false_ne_true
  | request => exact absurd h Bool.false_ne_true

theorem lineRecords_other (levels s) {l k : Fin 8} (h : l ≠ k) :
    lineRecords levels (sampleStep levels s l) k = lineRecords levels s k := by
  unfold lineRecords
  rw [sampleStep_takes_other levels s h, recordsOf_congr (triggers_sampleStep levels s l) fun u _ watches => ?_]
  rw [strikes, Bool.and_eq_false_iff]
  exact .inr (Bool.eq_false_iff.2 fun struck => h (watchesChange_line struck watches))

theorem triggers_samples (levels s) {ls : List (Fin 8)} (once : ls.Nodup) :
    Triggers (fun u => ls.any fun l => strikes levels s l u) (ls.flatMap (lineRecords levels s)) s
      (samples levels ls s) := by
  induction ls generalizing s with
  | nil => exact (Triggers.none rfl rfl rfl).congr (fun _ => rfl) rfl
  | cons l ls ih =>
    obtain ⟨other, once⟩ := List.nodup_cons.1 once
    have apart : ∀ k ∈ ls, l ≠ k := fun k hk e => other (e ▸ hk)
    have first := triggers_sampleStep levels s l
    refine (first.trans (ih (sampleStep levels s l) once)).congr (fun u => ?_) ?_
    · rw [List.any_cons]
      congr 1
      rw [Bool.eq_iff_iff, List.any_eq_true, List.any_eq_true]
      refine exists_congr fun k => and_congr_right fun hk => ?_
      rw [strikes, strikes, sampleStep_takes_other levels s (apart k hk), first.trigger u]
    · rw [List.flatMap_cons]
      congr 1
      exact List.flatMap_congr fun k hk => lineRecords_other levels s (apart k hk)

/-- The demand record is formed at the change of the GRID-HOLD line, and the later lines leave what it tells (R116). -/
theorem samples_record (levels s) {ls : List (Fin 8)} (once : ls.Nodup) : (samples levels ls s).exs.record =
    if ∃ l ∈ s.exs.config.gridHold, l ∈ ls ∧ takes levels s l = true then formedRecord (samples levels ls s)
    else s.exs.record := by
  induction ls generalizing s with
  | nil =>
    rw [if_neg (by simp)]
    rfl
  | cons l ls ih =>
    obtain ⟨other, once⟩ := List.nodup_cons.1 once
    have later := ih (sampleStep levels s l) once
    have config : (sampleStep levels s l).exs.config = s.exs.config := by
      obtain ⟨_, _, _, _, _, _, h⟩ := reports_sampleStep levels s l
      rw [h]
    rw [config] at later
    by_cases formed : s.exs.config.gridHold = some l ∧ takes levels s l = true
    · obtain ⟨grid, taken⟩ := formed
      have noOther : ¬ ∃ k ∈ s.exs.config.gridHold, k ∈ ls ∧ takes levels (sampleStep levels s l) k = true :=
        fun ⟨k, hk, mem, _⟩ => other (Option.some.inj (grid.symm.trans hk) ▸ mem)
      have same : formedRecord (samples levels ls (sampleStep levels s l)) = formedRecord (sampleStep levels s l) := by
        obtain ⟨_, _, r, _, _, _, h⟩ := reports_samples levels ls (sampleStep levels s l)
        refine formedRecord_congr (r := r) (by rw [h]) (by rw [h]) fun k hk => samples_otherLine levels ls _ ?_
        rw [config, grid] at hk
        exact Option.some.inj hk ▸ other
      rw [if_neg noOther, sampleStep_record, if_pos ⟨grid, taken⟩] at later
      rw [if_pos ⟨l, grid, List.mem_cons_self, taken⟩]
      exact later.trans same.symm
    · have shared : (∃ k ∈ s.exs.config.gridHold, k ∈ ls ∧ takes levels (sampleStep levels s l) k = true) ↔
          ∃ k ∈ s.exs.config.gridHold, k ∈ l :: ls ∧ takes levels s k = true := by
        refine exists_congr fun k => and_congr_right fun hk => ?_
        rw [List.mem_cons]
        by_cases e : k = l
        · subst e
          exact ⟨fun h => absurd h.1 other, fun h => absurd ⟨hk, h.2⟩ formed⟩
        · rw [sampleStep_takes_other levels s (Ne.symm e), or_iff_right e]
      rw [sampleStep_record, if_neg formed] at later
      rw [← if_congr shared rfl rfl]
      exact later

end Sys2Proof.Machine
end

section
/-!
What the changes of the event lines make of the drive channels (R87): a channel reacts to its permissive alone, and a
member is touched only at its pin.
-/
namespace Sys2Proof.Machine

/-! ## One channel -/

/-- The reaction of a channel to a change of its permissive, which is met or not (R87). -/
def react (met : Bool) (v : Vector DriveChannel 16) (ch : Fin 16) : Vector DriveChannel 16 :=
  match v[ch].state with
  | .stopped => v
  | .running => if met then v else blockChannel v ch
  | .blocked => if met then runChannel v ch else v

theorem permissiveChange_eq (lines line v ch) : permissiveChange lines line v ch =
    if isMember v ch || !watchesLine line v[ch] then v else react (permissiveMet lines v[ch]) v ch := by
  unfold permissiveChange react
  cases v[ch].state <;> rfl

/-- A pair that returns judges its staged target from AT-REST (R87). -/
def rejudged (c : DriveChannel) : DriveChannel :=
  judgePair { c with state := .running, active := c.staged, sub := .atRest }

/-- What the reaction makes of the channel itself. -/
def reacted (met : Bool) (c : DriveChannel) : DriveChannel :=
  match c.state, met with
  | .running, false => { abandonPair c with state := .blocked, divider := 0, pin := c.idle }
  | .blocked, true =>
    if c.mode = .raise then { rejudged c with pin := levelWhen (raiseDriven (rejudged c)) (rejudged c) }
    else startPeriod true { c with state := .running }
  | _, _ => c

/-- What the reaction makes of the pin of the odd partner. -/
def partnerPin (met : Bool) (c : DriveChannel) (pin : Level) : Level :=
  match c.state, met with
  | .running, false => if c.mode.takesPartner then c.idle else pin
  | .blocked, true => if c.mode = .raise then levelWhen (lowerDriven (rejudged c)) (rejudged c) else pin
  | _, _ => pin

theorem next_ne (ch : Fin 16) : ch + 1 ≠ ch := by simp

theorem putIdle_next (v : Vector DriveChannel 16) (ch) (c : DriveChannel) : (putIdle v ch c)[ch + 1] =
    { v[ch + 1] with pin := if c.mode.takesPartner then c.idle else v[ch + 1].pin } := by
  unfold putIdle
  dsimp only
  split
  · rw [put_getElem_self, put_getElem_ne _ _ (Ne.symm (next_ne ch))]
  · rw [put_getElem_ne _ _ (Ne.symm (next_ne ch))]

theorem putPair_next (v : Vector DriveChannel 16) (ch) (c : DriveChannel) :
    (putPair v ch c)[ch + 1] = { v[ch + 1] with pin := levelWhen (lowerDriven c) c } := by
  unfold putPair
  exact put_getElem_self ..

theorem runChannel_raise {v : Vector DriveChannel 16} {ch} (raise : v[ch].mode = .raise) :
    runChannel v ch = putPair v ch (rejudged v[ch]) := by
  unfold runChannel
  dsimp only
  split
  · rfl
  · next other => exact absurd raise other

theorem runChannel_period {v : Vector DriveChannel 16} {ch} (period : v[ch].mode ≠ .raise) :
    runChannel v ch = put v ch (startPeriod true { v[ch] with state := .running }) := by
  unfold runChannel
  dsimp only
  split
  · next raise => exact absurd raise period
  · rfl

theorem react_self (met v ch) : (react met v ch)[ch] = reacted met v[ch] := by
  unfold react reacted
  cases v[ch].state with
  | stopped => rfl
  | running =>
    cases met with
    | true => rfl
    | false => exact putIdle_self ..
  | blocked =>
    cases met with
    | false => rfl
    | true =>
      by_cases raise : v[ch].mode = .raise
      · simp only [if_true, if_pos raise, runChannel_raise raise]
        exact putPair_self ..
      · simp only [if_true, if_neg raise, runChannel_period raise]
        exact put_getElem_self ..

theorem react_next (met v ch) : (react met v ch)[ch + 1] =
    { v[ch + 1] with pin := partnerPin met v[ch] v[ch + 1].pin } := by
  unfold react partnerPin
  cases v[ch].state with
  | stopped => rfl
  | running =>
    cases met with
    | true => rfl
    | false => exact putIdle_next ..
  | blocked =>
    cases met with
    | false => rfl
    | true =>
      by_cases raise : v[ch].mode = .raise
      · simp only [if_true, if_pos raise, runChannel_raise raise]
        exact putPair_next ..
      · simp only [if_true, if_neg raise, runChannel_period raise]
        exact put_getElem_ne _ _ (Ne.symm (next_ne ch))

theorem react_ne (met v) {ch k : Fin 16} (own : k ≠ ch) (next : k ≠ ch + 1) : (react met v ch)[k] = v[k] := by
  unfold react
  repeat' split
  · rfl
  · rfl
  · exact putIdle_ne _ _ own next
  · by_cases raise : v[ch].mode = .raise
    · rw [runChannel_raise raise]
      exact putPair_ne _ _ own next
    · rw [runChannel_period raise]
      exact put_getElem_ne _ _ (Ne.symm own)
  · rfl

/-- What judging a pair can do (R94). -/
theorem judgePair_cases (c : DriveChannel) :
    (c.est + c.deadband < c.active ∧ judgePair c = startMove .raising c) ∨
    (c.active + c.deadband < c.est ∧ judgePair c = startMove .lowering c) ∨
    (¬ c.est + c.deadband < c.active ∧ ¬ c.active + c.deadband < c.est ∧ judgePair c = { c with sub := .atRest }) := by
  unfold judgePair
  dsimp only
  split
  · exact .inl ⟨by omega, rfl⟩
  split
  · exact .inr (.inl ⟨by omega, rfl⟩)
  · exact .inr (.inr ⟨by omega, by omega, rfl⟩)

/-- The configuration of a channel stands in its reaction. -/
theorem reacted_config (met c) : (reacted met c).mode = c.mode ∧ (reacted met c).permissive = c.permissive := by
  unfold reacted
  split
  · exact ⟨rfl, rfl⟩
  · split
    · obtain ⟨-, h⟩ | ⟨-, h⟩ | ⟨-, -, h⟩ :=
        judgePair_cases { c with state := .running, active := c.staged, sub := .atRest }
      all_goals rw [rejudged, h]; exact ⟨rfl, rfl⟩
    · exact ⟨rfl, rfl⟩
  · exact ⟨rfl, rfl⟩

/-! ## All channels -/

/-- No odd channel is in a mode that takes a partner (R79). -/
def EvenPairs (v : Vector DriveChannel 16) : Prop := ∀ k : Fin 16, v[k].mode.takesPartner = true → k.1 % 2 = 0

theorem odd_next : ∀ k : Fin 16, k.1 % 2 = 0 → (k + 1).1 % 2 = 1 := by decide

theorem takesPartner_eq (m : DriveMode) : m.takesPartner = (decide (m = .cascade) || decide (m = .raise)) := by
  cases m <;> rfl

theorem member_of_takesPartner {v : Vector DriveChannel 16} (even : EvenPairs v) {k : Fin 16}
    (takes : v[k].mode.takesPartner = true) : isMember v (k + 1) = true := by
  have odd : (k + 1).1 % 2 = 1 := odd_next k (even k takes)
  have back : k + 1 - 1 = k := add_sub_cancel_right k 1
  unfold isMember
  simp only [back, decide_eq_true odd, Bool.true_and]
  exact (takesPartner_eq _).symm.trans takes

theorem partnerPin_alone {met c pin} (alone : c.mode.takesPartner = false) : partnerPin met c pin = pin := by
  unfold partnerPin
  split
  · rw [alone, if_neg Bool.false_ne_true]
  · rw [if_neg fun raise => by rw [raise] at alone; exact absurd alone (by decide)]
  · rfl

/-- The channels `hit` have reacted, each according to `met`, from `v` to `w`. -/
structure Reacts (hit met : Fin 16 → Bool) (v w : Vector DriveChannel 16) : Prop where
  mode : ∀ k : Fin 16, w[k].mode = v[k].mode
  permissive : ∀ k : Fin 16, w[k].permissive = v[k].permissive
  member : ∀ k : Fin 16, isMember v k = true → w[k] = { v[k] with pin := w[k].pin }
  own : ∀ k : Fin 16, isMember v k = false → w[k] = if hit k then reacted (met k) v[k] else v[k]
  partner : ∀ k : Fin 16, isMember v k = false → v[k].mode.takesPartner = true →
    w[k + 1].pin = if hit k then partnerPin (met k) v[k] v[k + 1].pin else v[k + 1].pin

theorem Reacts.refl (met v) : Reacts (fun _ => false) met v v :=
  ⟨fun _ => rfl, fun _ => rfl, fun _ _ => rfl, fun _ _ => rfl, fun _ _ _ => rfl⟩

theorem isMember_congr {v w : Vector DriveChannel 16} (mode : ∀ k : Fin 16, w[k].mode = v[k].mode) (k : Fin 16) :
    isMember w k = isMember v k := by
  unfold isMember
  rw [mode]

theorem EvenPairs.congr {v w : Vector DriveChannel 16} (h : EvenPairs v) (mode : ∀ k : Fin 16, w[k].mode = v[k].mode) :
    EvenPairs w := fun k hk => h k (by rw [← mode k]; exact hk)

theorem Reacts.trans {hit hit' met : Fin 16 → Bool} {u v w : Vector DriveChannel 16} (x : Reacts hit met u v)
    (y : Reacts hit' met v w) (once : ∀ k, hit k = true → hit' k = false) :
    Reacts (fun k => hit k || hit' k) met u w where
  mode k := (y.mode k).trans (x.mode k)
  permissive k := (y.permissive k).trans (x.permissive k)
  member k hk := by
    rw [y.member k (by rw [isMember_congr x.mode, hk]), x.member k hk]
  own k hk := by
    rw [y.own k (by rw [isMember_congr x.mode, hk]), x.own k hk]
    cases first : hit k with
    | false => rfl
    | true => rw [once k first]; rfl
  partner k hk takes := by
    rw [y.partner k (by rw [isMember_congr x.mode, hk]) (by rw [x.mode, takes]), x.partner k hk takes, x.own k hk]
    cases first : hit k with
    | false => rfl
    | true => rw [once k first]; rfl

theorem Reacts.congr {hit hit' met : Fin 16 → Bool} {v w : Vector DriveChannel 16} (x : Reacts hit met v w)
    (same : ∀ k, isMember v k = false → hit k = hit' k) : Reacts hit' met v w :=
  { x with
    own := fun k hk => by rw [← same k hk]; exact x.own k hk
    partner := fun k hk => by rw [← same k hk]; exact x.partner k hk }

theorem reacts_react {v : Vector DriveChannel 16} (even : EvenPairs v) (met : Fin 16 → Bool) {ch : Fin 16}
    (free : isMember v ch = false) : Reacts (fun k => decide (k = ch)) met v (react (met ch) v ch) := by
  have config : ∀ k : Fin 16, (react (met ch) v ch)[k].mode = v[k].mode ∧
      (react (met ch) v ch)[k].permissive = v[k].permissive := fun k => by
    by_cases own : k = ch
    · rw [own, react_self]
      exact reacted_config ..
    by_cases next : k = ch + 1
    · rw [next, react_next]
      exact ⟨rfl, rfl⟩
    · rw [react_ne _ _ own next]
      exact ⟨rfl, rfl⟩
  have free_ne : ∀ k, isMember v k = true → k ≠ ch := fun k hk e => by
    rw [e, free] at hk
    exact absurd hk Bool.false_ne_true
  refine ⟨fun k => (config k).1, fun k => (config k).2, fun k hk => ?_, fun k hk => ?_, fun k hk takes => ?_⟩
  · by_cases next : k = ch + 1
    · rw [next, react_next]
    · rw [react_ne _ _ (free_ne k hk) next]
  · by_cases own : k = ch
    · rw [decide_eq_true own, if_pos rfl, own, react_self]
    rw [decide_eq_false own, if_neg Bool.false_ne_true]
    by_cases next : k = ch + 1
    · have alone : v[ch].mode.takesPartner = false := Bool.eq_false_iff.2 fun takes => by
        rw [next, member_of_takesPartner even takes] at hk
        exact absurd hk.symm Bool.false_ne_true
      rw [next, react_next, partnerPin_alone alone]
    · exact react_ne _ _ own next
  · by_cases own : k = ch
    · rw [decide_eq_true own, if_pos rfl, own, react_next]
    · rw [decide_eq_false own, if_neg Bool.false_ne_true,
        react_ne _ _ (free_ne _ (member_of_takesPartner even takes)) fun e => own (add_right_cancel e)]

theorem watchesLine_iff {l : Fin 8} {c : DriveChannel} : watchesLine l c = true ↔ ∃ x ∈ c.permissive, x.1 = l := by
  unfold watchesLine
  cases h : c.permissive <;> simp

/-- Whether the channel's permissive would be met at these levels of the lines. -/
def metBy (level : Fin 8 → Level) (c : DriveChannel) : Bool :=
  match c.permissive with
  | none => true
  | some x => decide (level x.1 = x.2)

theorem metBy_iff {level : Fin 8 → Level} {c : DriveChannel} :
    metBy level c = true ↔ ∀ x ∈ c.permissive, level x.1 = x.2 := by
  unfold metBy
  cases h : c.permissive <;> simp

/-- A change of a line finds its watchers' permissives as they are met once the line has its level. -/
theorem permissiveMet_eq {lines : Vector EventLine 8} {level : Fin 8 → Level} {l : Fin 8} {c : DriveChannel}
    (now : lines[l].debounced = level l) (watches : watchesLine l c = true) :
    permissiveMet lines c = metBy level c := by
  obtain ⟨x, hx, rfl⟩ := watchesLine_iff.1 watches
  have hx : c.permissive = some x := hx
  unfold permissiveMet metBy
  rw [hx]
  dsimp only
  rw [now]

/-- What each channel finds its permissive to be. -/
def metAt (level : Fin 8 → Level) (v : Vector DriveChannel 16) (k : Fin 16) : Bool := metBy level v[k]

theorem metAt_congr {level : Fin 8 → Level} {v w : Vector DriveChannel 16}
    (permissive : ∀ k : Fin 16, w[k].permissive = v[k].permissive) : metAt level w = metAt level v := by
  funext k
  unfold metAt metBy
  rw [permissive k]

theorem watchesLine_congr {l : Fin 8} {c d : DriveChannel} (permissive : d.permissive = c.permissive) :
    watchesLine l d = watchesLine l c := by
  unfold watchesLine
  rw [permissive]

theorem reacts_permissiveChange {lines : Vector EventLine 8} {level : Fin 8 → Level} {l : Fin 8}
    {v : Vector DriveChannel 16} (even : EvenPairs v) (now : lines[l].debounced = level l) (ch : Fin 16) :
    Reacts (fun k => decide (k = ch) && watchesLine l v[k]) (metAt level v) v (permissiveChange lines l v ch) := by
  have stands (h : ∀ k, isMember v k = false → (decide (k = ch) && watchesLine l v[k]) = false) :
      Reacts (fun k => decide (k = ch) && watchesLine l v[k]) (metAt level v) v v :=
    (Reacts.refl _ v).congr fun k hk => (h k hk).symm
  rw [permissiveChange_eq]
  cases free : isMember v ch with
  | true =>
    refine stands fun k hk => ?_
    rw [decide_eq_false fun e => by rw [e, free] at hk; exact absurd hk.symm Bool.false_ne_true, Bool.false_and]
  | false =>
    cases watches : watchesLine l v[ch] with
    | false =>
      refine stands fun k _ => ?_
      by_cases own : k = ch
      · rw [own, watches, Bool.and_false]
      · rw [decide_eq_false own, Bool.false_and]
    | true =>
      rw [permissiveMet_eq now watches]
      refine (reacts_react even (metAt level v) free).congr fun k _ => ?_
      by_cases own : k = ch
      · rw [own, watches, Bool.and_true]
      · rw [decide_eq_false own, Bool.false_and]

theorem reacts_foldl {lines : Vector EventLine 8} {level : Fin 8 → Level} {l : Fin 8}
    (now : lines[l].debounced = level l) {ks : List (Fin 16)} (once : ks.Nodup) {v : Vector DriveChannel 16}
    (even : EvenPairs v) :
    Reacts (fun k => decide (k ∈ ks) && watchesLine l v[k]) (metAt level v) v
      (ks.foldl (permissiveChange lines l) v) := by
  induction ks generalizing v with
  | nil => exact (Reacts.refl _ v).congr fun k _ => by simp
  | cons ch ks ih =>
    obtain ⟨other, once⟩ := List.nodup_cons.1 once
    have first := reacts_permissiveChange even now ch
    have later := ih once (even.congr first.mode)
    rw [metAt_congr first.permissive] at later
    refine (first.trans later fun k hk => ?_).congr fun k _ => ?_
    · obtain ⟨own, -⟩ := Bool.and_eq_true_iff.1 hk
      rw [of_decide_eq_true own, decide_eq_false other, Bool.false_and]
    · rw [watchesLine_congr (first.permissive k), ← Bool.and_or_distrib_right]
      simp only [List.mem_cons, Bool.decide_or]

theorem reacts_permissiveChanges {lines : Vector EventLine 8} {level : Fin 8 → Level} {l : Fin 8}
    (now : lines[l].debounced = level l) {v : Vector DriveChannel 16} (even : EvenPairs v) :
    Reacts (fun k => watchesLine l v[k]) (metAt level v) v (permissiveChanges lines l v) :=
  (reacts_foldl now (List.nodup_finRange 16) even).congr fun k _ => by
    rw [decide_eq_true (List.mem_finRange k), Bool.true_and]

/-! ## A sample -/

/-- The debounced level of each line once the sample has been taken. -/
def sampledLevel (levels : BitVec 8) (s : State) (l : Fin 8) : Level :=
  (sampleLine (levelOf levels l) s.fiu.lines[l]).debounced

/-- Whether a change that the sample takes is one of the channel's permissive. -/
def alerts (levels : BitVec 8) (s : State) (l : Fin 8) (k : Fin 16) : Bool :=
  takes levels s l && watchesLine l s.dcu.channels[k]

theorem reacts_sampleStep {levels s} (level : Fin 8 → Level) {l} (now : sampledLevel levels s l = level l)
    (even : EvenPairs s.dcu.channels) :
    Reacts (alerts levels s l) (metAt level s.dcu.channels) s.dcu.channels (sampleStep levels s l).dcu.channels := by
  have line : (sampleStep levels s l).fiu.lines[l].debounced = level l := by
    rw [sampleStep_line]
    exact now
  rw [sampleStep_channels]
  unfold alerts
  cases takes levels s l with
  | false => exact Reacts.refl ..
  | true => exact reacts_permissiveChanges line even

/-- Each channel reacts to the one line that its permissive names, as it finds that line after the sample. -/
theorem reacts_samples {levels s} (level : Fin 8 → Level) {ls : List (Fin 8)} (once : ls.Nodup)
    (now : ∀ l ∈ ls, sampledLevel levels s l = level l) (even : EvenPairs s.dcu.channels) :
    Reacts (fun k => ls.any fun l => alerts levels s l k) (metAt level s.dcu.channels) s.dcu.channels
      (samples levels ls s).dcu.channels := by
  induction ls generalizing s with
  | nil => exact Reacts.refl ..
  | cons l ls ih =>
    obtain ⟨other, once⟩ := List.nodup_cons.1 once
    have apart : ∀ k ∈ ls, l ≠ k := fun k hk e => other (e ▸ hk)
    have first := reacts_sampleStep level (now l List.mem_cons_self) even
    have later := ih (s := sampleStep levels s l) once (fun k hk => by
      rw [sampledLevel, sampleStep_otherLine levels s (apart k hk)]
      exact now k (List.mem_cons_of_mem _ hk)) (even.congr first.mode)
    rw [metAt_congr first.permissive] at later
    have same : ∀ j, ∀ k ∈ ls, alerts levels (sampleStep levels s l) k j = alerts levels s k j := fun j k hk => by
      rw [alerts, sampleStep_takes_other levels s (apart k hk), watchesLine_congr (first.permissive j)]
      rfl
    refine (first.trans later fun j hj => ?_).congr fun j _ => ?_
    · refine List.any_eq_false.2 fun k hk alerted => apart k hk ?_
      rw [same j k hk] at alerted
      obtain ⟨x, hx, hl⟩ := watchesLine_iff.1 (Bool.and_eq_true_iff.1 hj).2
      obtain ⟨y, hy, hk⟩ := watchesLine_iff.1 (Bool.and_eq_true_iff.1 alerted).2
      rw [← hl, ← hk, Option.some.inj (Eq.trans hx.symm hy)]
    · rw [List.any_cons]
      congr 1
      rw [Bool.eq_iff_iff, List.any_eq_true, List.any_eq_true]
      exact exists_congr fun k => and_congr_right fun hk => by rw [same j k hk]

end Sys2Proof.Machine
end

section
/-! A sample of all the event lines, as its users see it, and EVENT-SET (R25 to R27, R87, R116). -/
namespace Sys2Proof.Machine

/-! ## The lines -/

theorem sampleLines_line (levels s) (l : Fin 8) :
    (sampleLines levels s).fiu.lines[l] = sampleLine (levelOf levels l) s.fiu.lines[l] :=
  samples_line levels s (List.nodup_finRange 8) (List.mem_finRange l)

/-- A change that is taken is a new debounced level, which is the raw one. -/
theorem takes_iff {levels s l} : takes levels s l = true ↔
    (sampleLines levels s).fiu.lines[l].debounced ≠ s.fiu.lines[l].debounced := by
  rw [sampleLines_line, takes, sampleLine]
  split
  · next same => simp [changeDue, same]
  split
  · next differs due => exact iff_of_true due differs
  · next quiet => exact iff_of_false quiet fun h => h rfl

theorem takes_level {levels s l} (taken : takes levels s l = true) :
    (sampleLines levels s).fiu.lines[l].debounced = levelOf levels l := by
  have due : changeDue (levelOf levels l) s.fiu.lines[l] = true := taken
  rw [sampleLines_line, sampleLine, if_pos due]
  split
  · next same => exact same.symm
  · rfl

/-- A line after a sample, with the steady count bounded by the debounce (R25). -/
theorem sampleLine_bounded (raw : Level) (old : EventLine) : sampleLine raw old =
    let steady := if old.steady < old.debounce then old.steady + 1 else old.steady
    if raw = old.debounced then { old with raw := raw, steady := 0 }
    else if old.debounce ≤ steady then { old with raw := raw, debounced := raw, steady := 0 }
    else { old with raw := raw, steady := steady } := by
  unfold sampleLine changeDue
  by_cases same : raw = old.debounced
  · rw [if_pos same]
    exact (if_pos same).symm
  by_cases counting : old.steady < old.debounce
  · simp [same, counting]
  · simp [same, counting, Nat.not_lt.1 counting]

theorem exec_eventLineChange (l levels s) : exec (.eventLineChange l levels) s =
    .next (if (sampleLines levels s).fiu.lines[l].debounced = s.fiu.lines[l].debounced then s
      else sampleLines levels s) := by
  have event : exec (.eventLineChange l levels) s = .next (if takes levels s l then sampleLines levels s else s) := rfl
  rw [event]
  split
  · next taken => rw [if_neg (takes_iff.1 taken)]
  · next quiet => rw [if_pos (not_not.1 fun h => quiet (takes_iff.2 h))]

/-! ## The capture units -/

/-- Which units a change of a line triggers (R26). -/
theorem strikes_iff {levels s} {l : Fin 8} {u : Fin 4} : strikes levels s l u = true ↔
    (sampleLines levels s).fiu.lines[l].debounced ≠ s.fiu.lines[l].debounced ∧
    (s.sck.units[u].trigger = .event l .both ∨
      (sampleLines levels s).fiu.lines[l].debounced = .high ∧ s.sck.units[u].trigger = .event l .rising ∨
      ¬ (sampleLines levels s).fiu.lines[l].debounced = .high ∧ s.sck.units[u].trigger = .event l .falling) := by
  have falls : ∀ x : Level, ¬ x = .high ↔ x = .low := fun x => by cases x <;> decide
  rw [strikes, Bool.and_eq_true, ← takes_iff, watchesChange_iff, falls]
  exact and_congr_right fun taken => by rw [takes_level taken]

/-- The records of the change of a line, in the order of the units. -/
theorem lineRecords_eq (levels s) (l : Fin 8) : lineRecords levels s l =
    ((List.finRange 4).filter fun u => strikes levels s l u && s.sck.units[u].armed).map fun u =>
      captureRecord u (.event l (decide ((sampleLines levels s).fiu.lines[l].debounced = .high))) s := by
  unfold lineRecords strikes
  cases taken : takes levels s l with
  | false => simp only [Bool.false_and, List.filter_false, List.map_nil, if_neg Bool.false_ne_true]
  | true =>
    rw [takes_level taken]
    simp only [Bool.true_and, if_true]
    rfl

theorem triggers_sampleLines (levels s) : Triggers (fun u => (List.finRange 8).any fun l => strikes levels s l u)
    ((List.finRange 8).flatMap (lineRecords levels s)) s (sampleLines levels s) :=
  triggers_samples levels s (List.nodup_finRange 8)

theorem Triggers.cnu {hit rs s t} (x : Triggers hit rs s t) :
    t.cnu = (rs.foldl (logCapture s.sck.pos) (s.sck.log, s.cnu)).2 := congrArg Prod.snd x.logged

theorem Triggers.log {hit rs s t} (x : Triggers hit rs s t) (size : s.sck.log.length ≤ 16) :
    t.sck.log = (s.sck.log ++ rs).drop (s.sck.log.length + rs.length - 16) :=
  (congrArg Prod.fst x.logged).trans (foldl_logCapture_log _ _ (s.sck.log, s.cnu) size)

/-- What the records of several triggers make of the conditions (R16). -/
theorem Triggers.conditions {hit rs s t} (x : Triggers hit rs s t) (size : s.sck.log.length ≤ 16) :
    (rs = [] → t.cnu = s.cnu) ∧ (rs ≠ [] → t.cnu.records[condCaptureReady].active = true) ∧
    OthersStand [condCaptureReady, condCaptureOverwrite] s.cnu t.cnu ∧
    (s.sck.log.length + rs.length - 16 = 0 →
      t.cnu.records[condCaptureOverwrite] = s.cnu.records[condCaptureOverwrite]) ∧
    (0 < s.sck.log.length + rs.length - 16 → t.cnu.records[condCaptureOverwrite].active = true ∧
      t.cnu.records[condCaptureOverwrite].count =
        min (s.cnu.records[condCaptureOverwrite].count + (s.sck.log.length + rs.length - 16)) 255) := by
  obtain ⟨kept, counted⟩ := foldl_logCapture_overwrite s.sck.pos rs (s.sck.log, s.cnu) size
  have others := foldl_logCapture_others s.sck.pos rs (s.sck.log, s.cnu)
  have ready := foldl_logCapture_ready s.sck.pos rs (s.sck.log, s.cnu)
  rw [← x.cnu] at kept counted others ready
  exact ⟨fun none => by rw [x.cnu, none]; rfl, ready, others, kept, counted⟩

/-! ## The demand record -/

theorem sampleLines_record (levels s) : (sampleLines levels s).exs.record =
    if ∃ l ∈ s.exs.config.gridHold,
      (sampleLines levels s).fiu.lines[l].debounced ≠ s.fiu.lines[l].debounced then formedRecord (sampleLines levels s)
    else s.exs.record := by
  have formed : (∃ l ∈ s.exs.config.gridHold, l ∈ List.finRange 8 ∧ takes levels s l = true) ↔
      ∃ l ∈ s.exs.config.gridHold, (sampleLines levels s).fiu.lines[l].debounced ≠ s.fiu.lines[l].debounced :=
    exists_congr fun l => and_congr_right fun _ => by rw [takes_iff, and_iff_right (List.mem_finRange l)]
  rw [← if_congr formed rfl rfl]
  exact samples_record levels s (List.nodup_finRange 8)

/-! ## The drive channels -/

theorem reacts_sampleLines {levels s} (even : EvenPairs s.dcu.channels) :
    Reacts (fun k => (List.finRange 8).any fun l => alerts levels s l k)
      (metAt (sampledLevel levels s) s.dcu.channels) s.dcu.channels (sampleLines levels s).dcu.channels :=
  reacts_samples _ (List.nodup_finRange 8) (fun _ _ => rfl) even

theorem alerted_iff {levels s} {k : Fin 16} : ((List.finRange 8).any fun l => alerts levels s l k) = true ↔
    ∃ x ∈ s.dcu.channels[k].permissive,
      (sampleLines levels s).fiu.lines[x.1].debounced ≠ s.fiu.lines[x.1].debounced := by
  simp only [List.any_eq_true, List.mem_finRange, true_and, alerts, Bool.and_eq_true, takes_iff, watchesLine_iff]
  constructor
  · rintro ⟨_, changed, x, hx, rfl⟩
    exact ⟨x, hx, changed⟩
  · rintro ⟨x, hx, changed⟩
    exact ⟨x.1, changed, x, hx, rfl⟩

theorem metAt_iff {levels s} {k : Fin 16} : metAt (sampledLevel levels s) s.dcu.channels k = true ↔
    ∀ x ∈ s.dcu.channels[k].permissive, (sampleLines levels s).fiu.lines[x.1].debounced = x.2 := by
  simp only [metAt, metBy_iff, sampledLevel, sampleLines_line]

/-- A channel that neither is blocked nor returns stands. -/
theorem reacted_stands {met c} (blocks : ¬ (c.state = .running ∧ met = false))
    (returns : ¬ (c.state = .blocked ∧ met = true)) (pin) : reacted met c = c ∧ partnerPin met c pin = pin := by
  unfold reacted partnerPin
  cases state : c.state <;> cases met
  · exact ⟨rfl, rfl⟩
  · exact ⟨rfl, rfl⟩
  · exact absurd ⟨state, rfl⟩ blocks
  · exact ⟨rfl, rfl⟩
  · exact ⟨rfl, rfl⟩
  · exact absurd ⟨state, rfl⟩ returns

/-- A RUNNING channel whose permissive is met no longer (R87). -/
theorem reacted_blocks {c} (running : c.state = .running) :
    reacted false c = { c with
      state := .blocked, pin := c.idle, divider := 0, sub := .atRest, est0 := 0, moved := 0, length := 0,
      remaining := 0 } ∧
    ∀ pin, c.mode.takesPartner = true → partnerPin false c pin = c.idle := by
  unfold reacted partnerPin
  rw [running]
  exact ⟨rfl, fun _ takes => if_pos takes⟩

/-- A period starts with the active level where it has any active time (R91). -/
theorem startPeriod_pin (fresh c) : (startPeriod fresh c).pin =
    if 0 < activeTime (startPeriod fresh c) then activeLevel c else c.idle := by
  have time : activeTime (startPeriod fresh c) = activeTime { startPeriod fresh c with pin := c.pin } := rfl
  rw [time]
  unfold startPeriod levelWhen
  simp only [decide_eq_true_iff]
  rfl

/-- A BLOCKED channel whose permissive is met starts a fresh period (R87, R90). -/
theorem reacted_period {c} (blocked : c.state = .blocked) (period : c.mode ≠ .raise) :
    reacted true c = startPeriod true { c with state := .running } := by
  unfold reacted
  rw [blocked]
  exact if_neg period

/-- A BLOCKED pair whose permissive is met judges its staged target (R87, R94). -/
theorem reacted_pair {c} (blocked : c.state = .blocked) (raise : c.mode = .raise) (pin) :
    reacted true c = { rejudged c with pin := levelWhen (raiseDriven (rejudged c)) (rejudged c) } ∧
    partnerPin true c pin = levelWhen (lowerDriven (rejudged c)) (rejudged c) := by
  unfold reacted partnerPin
  rw [blocked]
  exact ⟨if_pos raise, if_pos raise⟩

/-- What a return gives, whatever the mode. -/
theorem reacted_returns {c} (blocked : c.state = .blocked) :
    (reacted true c).state = .running ∧ (reacted true c).active = c.staged ∧ (reacted true c).staged = c.staged ∧
    (reacted true c).est = c.est := by
  by_cases raise : c.mode = .raise
  · rw [(reacted_pair blocked raise .low).1]
    obtain ⟨-, h⟩ | ⟨-, h⟩ | ⟨-, -, h⟩ :=
      judgePair_cases { c with state := .running, active := c.staged, sub := .atRest }
    all_goals rw [rejudged, h]; exact ⟨rfl, rfl, rfl, rfl⟩
  · rw [reacted_period blocked raise]
    exact ⟨rfl, rfl, rfl, rfl⟩

/-- The move that a pair starts when it returns, and its two lines (R88, R94). -/
theorem reacted_judged {c} (blocked : c.state = .blocked) (raise : c.mode = .raise) (pin : Level) :
    ((reacted true c).sub = .raising ↔ c.est + c.deadband < c.staged) ∧
    ((reacted true c).sub = .lowering ↔ c.staged + c.deadband < c.est) ∧ (reacted true c).sub ≠ .reversalPause ∧
    (reacted true c).sub ≠ .seating ∧
    (reacted true c).pin = (if (reacted true c).sub = .raising then activeLevel c else c.idle) ∧
    partnerPin true c pin = if (reacted true c).sub = .lowering then activeLevel c else c.idle := by
  obtain ⟨own, partner⟩ := reacted_pair blocked raise pin
  rw [own, partner]
  obtain ⟨up, h⟩ | ⟨down, h⟩ | ⟨notUp, notDown, h⟩ :=
    judgePair_cases { c with state := .running, active := c.staged, sub := .atRest }
  all_goals
    dsimp only at *
    rw [rejudged, h]
  · exact ⟨iff_of_true rfl up, iff_of_false nofun (by omega), nofun, nofun, rfl, rfl⟩
  · exact ⟨iff_of_false nofun (by omega), iff_of_true rfl down, nofun, nofun, rfl, rfl⟩
  · exact ⟨iff_of_false nofun notUp, iff_of_false nofun notDown, nofun, nofun, rfl, rfl⟩

/-! ## The whole -/

theorem parse88_second_lt {p : List Byte} {a b : Nat} (h : parse88 p = some (a, b)) : b < 256 := by
  simp only [parse88, Option.bind_eq_bind, Option.bind_eq_some_iff, Prod.exists, u8_eq_some, ending_eq_some] at h
  obtain ⟨_, _, -, _, _, ⟨small, -⟩, h, -⟩ := h
  rw [← (Prod.mk.inj h).2]
  exact small

/-- EVENT-SET writes the debounce (R27). -/
theorem eventSet_answers (s : State) (p : List Byte) (l : Fin 8) (debounce : Nat) (heard : Heard s)
    (setup : s.lkp.mode = .setup) (parsed : parse88 p = some (l.1, debounce)) :
    Answers (.eventSet p) s 0x91 .ok []
      { s with fiu := { s.fiu with lines := put s.fiu.lines l { s.fiu.lines[l] with debounce := debounce } } } := by
  have fits : ¬ 255 < debounce := by
    have := parse88_second_lt parsed
    omega
  have judged : judgeEventSet (l.1, debounce) s = okWith []
      { s with fiu := { s.fiu with lines := put s.fiu.lines l { s.fiu.lines[l] with debounce := debounce } } } := by
    rw [judgeEventSet, unlessRun_setup setup, asFin_val]
    exact if_neg fits
  exact answers_of_done (by decide) heard parsed judged rfl

/-- Settles O20: a sample is a fold over the lines, of which every user reads its own; the lines, the records of the
capture units, the demand record and the channels are each followed through it on their own. -/
theorem linesDebounced : Obligations.LinesDebounced := by
  refine ⟨fun s levels => ⟨sampleLines levels s, rfl, fun l => ?_, ?_⟩,
    fun s levels => ⟨sampleLines levels s, rfl, ?_⟩, ?_, eventSet_answers⟩
  · exact (sampleLines_line levels s l).trans (sampleLine_bounded _ _)
  · obtain ⟨_, _, _, _, _, _, frame⟩ := reports_sampleLines levels s
    exact ⟨by rw [frame], by rw [frame], by rw [frame], by rw [frame], by rw [frame], by rw [frame], by rw [frame],
      by rw [frame], fun l => exec_eventLineChange l levels s⟩
  · beta_reduce
    intro changed rising hit new lost overwrite
    have struck : ∀ l u, strikes levels s l u = true ↔ hit l u := fun l u => strikes_iff
    have records : (List.finRange 8).flatMap (lineRecords levels s) = new := by
      refine List.flatMap_congr fun l _ => ?_
      rw [lineRecords_eq]
      have same : (fun u => strikes levels s l u && s.sck.units[u].armed) =
          fun u => decide (hit l u ∧ s.sck.units[u].armed = true) := by
        funext u
        rw [Bool.eq_iff_iff, Bool.and_eq_true, decide_eq_true_iff, struck]
      rw [same]
      rfl
    have triggers := triggers_sampleLines levels s
    rw [records] at triggers
    refine ⟨fun u => ?_, fun size => ⟨triggers.log size, triggers.conditions size⟩, sampleLines_record levels s⟩
    have spared : (!(List.finRange 8).any fun l => strikes levels s l u) = decide (∀ l, ¬ hit l u) := by
      rw [Bool.eq_iff_iff, decide_eq_true_iff, Bool.not_eq_true', List.any_eq_false]
      simp only [List.mem_finRange, true_implies, struck]
    rw [triggers.units u, spared]
  · intro s levels v odd
    refine ⟨sampleLines levels s, rfl, ?_⟩
    beta_reduce
    intro w ch c changed met blocks returns
    have even : EvenPairs v := fun k takes => by
      by_contra h
      obtain ⟨cascade, raise⟩ := odd k (Nat.mod_two_ne_zero.1 h)
      simp only [takesPartner_eq, cascade, raise, decide_false, Bool.or_false] at takes
      exact absurd takes Bool.false_ne_true
    have reacts := reacts_sampleLines (levels := levels) even
    refine ⟨reacts.member ch, fun free => ?_⟩
    have takes : c.mode = .cascade ∨ c.mode = .raise → c.mode.takesPartner = true := by
      rw [takesPartner_eq, Bool.or_eq_true, decide_eq_true_iff, decide_eq_true_iff]
      exact id
    have own := reacts.own ch free
    have partner := reacts.partner ch free
    have next := fun h => reacts.member (ch + 1) (member_of_takesPartner even (takes h))
    by_cases alerted : changed
    · rw [if_pos (alerted_iff.2 alerted)] at own partner
      refine ⟨fun notBlocks notReturns => ?_, fun ⟨_, running, unmet⟩ => ?_, fun ⟨_, blocked, isMet⟩ => ?_⟩
      · obtain ⟨stands, pin⟩ := reacted_stands (met := metAt (sampledLevel levels s) v ch) (c := c)
          (fun ⟨running, unmet⟩ => notBlocks ⟨alerted, running, fun h => by
            rw [metAt_iff.2 h] at unmet
            exact Bool.noConfusion unmet⟩)
          (fun ⟨blocked, isMet⟩ => notReturns ⟨alerted, blocked, metAt_iff.1 isMet⟩) v[ch + 1].pin
        exact ⟨own.trans stands, fun h => by rw [next h, partner (takes h), pin]⟩
      · rw [Bool.eq_false_iff.2 fun h => unmet (metAt_iff.1 h)] at own partner
        obtain ⟨blocked, pin⟩ := reacted_blocks running
        exact ⟨own.trans blocked, fun h => (partner (takes h)).trans (pin _ (takes h))⟩
      · rw [metAt_iff.2 isMet] at own partner
        obtain ⟨state, active, staged, est⟩ := reacted_returns blocked
        rw [own]
        refine ⟨state, active, staged, est, fun period => ?_, fun raise => ?_⟩
        · rw [reacted_period blocked period]
          exact ⟨rfl, rfl, rfl, startPeriod_pin true { c with state := .running }⟩
        · rw [partner (takes (.inr raise))]
          exact reacted_judged blocked raise _
    · rw [if_neg fun h => alerted (alerted_iff.1 h)] at own partner
      refine ⟨fun _ _ => ⟨own, fun h => ?_⟩, fun h => absurd h.1 alerted, fun h => absurd h.1 alerted⟩
      rw [next h, partner (takes h)]

end Sys2Proof.Machine
end

section
/-!
The ranges of the drive channels (R78, R84, R93): every operation on a channel, and every change of the channels, keeps
them.
-/
namespace Sys2Proof.Machine

/-! ## One channel -/

/-- A drive channel in range, item by item (R78, R84, R93). -/
structure DriveSafe (c : DriveChannel) : Prop where
  base : c.baseTick ∈ [1, 10, 100]
  period : periodFits c.mode c.period = true
  wmin : wminFits c.mode c.period c.wmin = true
  staged : c.staged ≤ 10000
  active : c.active ≤ 10000
  count : c.count ≤ 65535
  tick : ∀ n ∈ c.period, c.tick < n
  divider : c.divider < c.baseTick
  rest : c.state = .stopped → c.staged = c.active
  ttrLow : 10 ≤ c.ttr
  ttr : c.ttr ≤ 65535
  deadband : c.deadband ≤ 500
  reversalLow : 1 ≤ c.reversal
  reversal : c.reversal ≤ 65535
  minMove : c.minMove ≤ c.ttr
  seatRun : c.seatRun ≤ 65535
  est : c.est ≤ 10000
  est0 : c.est0 ≤ 10000
  moved : c.moved ≤ 65535
  length : c.length ≤ 65535
  remaining : c.remaining ≤ 65535

theorem driveInRange_iff {c : DriveChannel} : DriveInRange c ↔ DriveSafe c := by
  constructor
  · rintro ⟨base, period, wmin, staged, active, count, tick, divider, rest, ttrLow, ttr, deadband, reversalLow, reversal,
      minMove, seatRun, est, est0, moved, length, remaining⟩
    exact ⟨base, period, wmin, staged, active, count, tick, divider, rest, ttrLow, ttr, deadband, reversalLow, reversal,
      minMove, seatRun, est, est0, moved, length, remaining⟩
  · rintro ⟨base, period, wmin, staged, active, count, tick, divider, rest, ttrLow, ttr, deadband, reversalLow, reversal,
      minMove, seatRun, est, est0, moved, length, remaining⟩
    exact ⟨base, period, wmin, staged, active, count, tick, divider, rest, ttrLow, ttr, deadband, reversalLow, reversal,
      minMove, seatRun, est, est0, moved, length, remaining⟩

section
variable {c d : DriveChannel}

theorem baseTick_pos {n : Nat} (h : n ∈ [1, 10, 100]) : 0 < n := by
  simp only [List.mem_cons, List.not_mem_nil, or_false] at h
  omega

/-- A permitted period is not empty (Table 5-2, item 4). -/
theorem periodFits_pos {m : DriveMode} {period : Option Nat} (h : periodFits m period = true) : ∀ n ∈ period, 0 < n := by
  rintro n hn
  obtain rfl : period = some n := hn
  cases m <;> simp only [periodFits, decide_eq_true_eq, Bool.false_eq_true] at h <;> omega

theorem DriveSafe.base_pos (h : DriveSafe c) : 0 < c.baseTick := baseTick_pos h.base

theorem DriveSafe.period_pos (h : DriveSafe c) : ∀ n ∈ c.period, 0 < n := periodFits_pos h.period

/-- The change of a channel that stands in its mode and its state and stays in range. -/
structure Moves (c d : DriveChannel) : Prop where
  mode : d.mode = c.mode
  state : d.state = c.state
  safe : DriveSafe c → DriveSafe d

theorem Moves.refl (c : DriveChannel) : Moves c c := ⟨rfl, rfl, id⟩
theorem Moves.trans {e : DriveChannel} (h : Moves c d) (k : Moves d e) : Moves c e :=
  ⟨k.mode.trans h.mode, k.state.trans h.state, k.safe ∘ h.safe⟩

theorem moves_pin (c) (pin : Level) : Moves c { c with pin := pin } := ⟨rfl, rfl, fun h => { h with }⟩
theorem moves_atRest (c) : Moves c { c with sub := .atRest } := ⟨rfl, rfl, fun h => { h with }⟩
theorem moves_clearMove (c) : Moves c (clearMove c) := ⟨rfl, rfl, fun h =>
  { h with est0 := Nat.zero_le _, moved := Nat.zero_le _, length := Nat.zero_le _ }⟩

theorem moves_active (c) {p : Nat} (hp : p ≤ 10000) : Moves c { c with staged := p, active := p } :=
  ⟨rfl, rfl, fun h => { h with staged := hp, active := hp, rest := fun _ => rfl }⟩

theorem moves_staged {p : Nat} (hp : p ≤ 10000) (started : c.state ≠ .stopped) : Moves c { c with staged := p } :=
  ⟨rfl, rfl, fun h => { h with staged := hp, rest := fun stopped => absurd stopped started }⟩

theorem moves_est {e : Nat} (he : e ≤ 10000) (c) : Moves c { c with est := e } :=
  ⟨rfl, rfl, fun h => { h with est := he }⟩

/-! ## Raise and lower pairs -/

/-- No move is longer than Ttr (R94). -/
theorem moveLength_le (h : DriveSafe c) : moveLength c ≤ c.ttr := by
  have way : ((c.active : Int) - c.est).natAbs ≤ 10000 := by
    have := h.active
    have := h.est
    omega
  have travel := Nat.mul_le_mul_right c.ttr way
  have := h.minMove
  unfold moveLength
  omega

theorem moves_startMove (sub c) : Moves c (startMove sub c) := ⟨rfl, rfl, fun h =>
  { h with
    est0 := h.est, moved := Nat.zero_le _, length := (moveLength_le h).trans h.ttr, divider := h.base_pos }⟩

theorem moves_startPause (c) : Moves c (startPause c) := ⟨rfl, rfl, fun h =>
  { h with
    est0 := Nat.zero_le _, moved := Nat.zero_le _, length := Nat.zero_le _, remaining := h.reversal
    divider := h.base_pos }⟩

theorem moves_judgePair (c) : Moves c (judgePair c) := by
  obtain ⟨-, h⟩ | ⟨-, h⟩ | ⟨-, -, h⟩ := judgePair_cases c <;> rw [h]
  · exact moves_startMove ..
  · exact moves_startMove ..
  · exact moves_atRest c

theorem moves_retarget (c) : Moves c (retarget c) := by
  unfold retarget
  dsimp only
  generalize (if c.sub = .raising then _ else _ : Int) = toward
  split
  · exact moves_startMove ..
  split
  · exact (moves_clearMove c).trans (moves_atRest _)
  · exact moves_startPause c

theorem moves_pairSetpoint {p : Nat} (hp : p ≤ 10000) (started : c.state ≠ .stopped) : Moves c (pairSetpoint p c) := by
  have staged := moves_staged (c := c) hp started
  unfold pairSetpoint
  split
  · exact staged
  · exact staged
  · split
    · exact staged
    · exact (moves_active c hp).trans (moves_judgePair _)
  · split
    · exact staged
    · exact (moves_active c hp).trans (moves_retarget _)
  · split
    · exact staged
    · exact (moves_active c hp).trans (moves_retarget _)

theorem estimateAfter_le (h : DriveSafe c) (t : Nat) : estimateAfter c t ≤ 10000 := by
  unfold estimateAfter
  dsimp only
  split
  · exact Nat.min_le_left ..
  · exact (Nat.sub_le ..).trans h.est0

theorem moves_moveTick (c) : Moves c (moveTick c) := by
  unfold moveTick
  dsimp only
  split
  · split
    · exact (moves_clearMove c).trans ⟨rfl, rfl, fun h =>
        { h with est := Nat.zero_le _, remaining := h.seatRun, divider := h.base_pos }⟩
    · exact ⟨rfl, rfl, fun h =>
        { (moves_clearMove c).safe h with est := estimateAfter_le h _, divider := h.base_pos }⟩
  · next going =>
    exact ⟨rfl, rfl, fun h => { h with
      est := estimateAfter_le h _, divider := h.base_pos
      moved := by
        have := h.length
        dsimp only
        omega }⟩

theorem moves_pauseTick (c) : Moves c (pauseTick c) := by
  unfold pauseTick
  dsimp only
  split
  · exact ⟨rfl, rfl, fun h => { h with
      remaining := (Nat.sub_le ..).trans h.remaining, divider := h.base_pos }⟩
  have ended : Moves c { c with active := c.staged, remaining := 0, divider := 0 } :=
    ⟨rfl, rfl, fun h => { h with
      active := h.staged, remaining := Nat.zero_le _, divider := h.base_pos, rest := fun _ => rfl }⟩
  split
  · exact ended.trans (moves_startPause _)
  · exact ended.trans ((moves_atRest _).trans (moves_judgePair _))

theorem moves_pairBaseTick (c) : Moves c (pairBaseTick c) := by
  unfold pairBaseTick
  cases c.sub with
  | atRest => exact .refl c
  | raising => exact moves_moveTick c
  | lowering => exact moves_moveTick c
  | reversalPause => exact moves_pauseTick c
  | seating => exact moves_pauseTick c

theorem moves_abandonPair (c) : Moves c (abandonPair c) := ⟨rfl, rfl, fun h =>
  { (moves_clearMove c).safe h with remaining := Nat.zero_le _ }⟩

/-! ## Periods -/

theorem moves_startPeriod (fresh c) : Moves c (startPeriod fresh c) := ⟨rfl, rfl, fun h =>
  { h with
    active := h.staged, rest := fun _ => rfl, tick := h.period_pos, divider := h.base_pos
    count := by
      unfold startPeriod
      dsimp only
      split <;> omega }⟩

/-- The end of the active time lies within the period (R90). -/
theorem moves_activeTimeEnd (due : activeEndDue c = true) :
    Moves c { c with tick := activeTime c, divider := 0, pin := c.idle } := ⟨rfl, rfl, fun h =>
  { h with
    divider := h.base_pos
    tick := by
      rintro n hn
      obtain hn : c.period = some n := hn
      simp only [activeEndDue, Bool.and_eq_true, decide_eq_true_eq, hn, Option.getD_some] at due
      exact due.2 }⟩

theorem moves_dividerTick (c) : Moves c (dividerTick c) := by
  unfold dividerTick
  split
  · exact .refl c
  split
  · next room => exact ⟨rfl, rfl, fun h => { h with divider := room }⟩
  split
  · exact .refl c
  · next room =>
    refine ⟨rfl, rfl, fun h => { h with divider := h.base_pos, tick := ?_ }⟩
    rintro n hn
    obtain hn : c.period = some n := hn
    rw [hn, Option.getD_some] at room
    dsimp only
    omega

end

/-! ## All channels -/

/-- Every channel is in range, and a member has no state of its own (R78, R79, R93). -/
def DrivesInRange (v : Vector DriveChannel 16) : Prop :=
  (∀ ch : Fin 16, DriveSafe v[ch]) ∧ ∀ ch : Fin 16, isMember v ch = true → v[ch].state = .stopped

section
variable {v : Vector DriveChannel 16} {ch : Fin 16} {c : DriveChannel}

/-- A channel replaced within its range and its mode; a member stays STOPPED. -/
theorem drivesInRange_replace (h : DrivesInRange v) (mode : c.mode = v[ch].mode) (safe : DriveSafe c)
    (member : isMember v ch = true → c.state = .stopped) : DrivesInRange (put v ch c) := by
  have modes : ∀ k : Fin 16, (put v ch c)[k].mode = v[k].mode := by
    intro k
    by_cases hk : ch = k
    · subst hk
      rw [put_getElem_self, mode]
    · rw [put_getElem_ne _ _ hk]
  refine ⟨fun k => ?_, fun k hm => ?_⟩
  · by_cases hk : ch = k
    · subst hk
      rw [put_getElem_self]
      exact safe
    · rw [put_getElem_ne _ _ hk]
      exact h.1 k
  · rw [isMember_congr modes] at hm
    by_cases hk : ch = k
    · subst hk
      rw [put_getElem_self]
      exact member hm
    · rw [put_getElem_ne _ _ hk]
      exact h.2 k hm

theorem drivesInRange_put (h : DrivesInRange v) (m : Moves v[ch] c) : DrivesInRange (put v ch c) :=
  drivesInRange_replace h m.mode (m.safe (h.1 ch)) fun hm => m.state.trans (h.2 ch hm)

theorem drivesInRange_pin (h : DrivesInRange v) (ch : Fin 16) (pin : Level) :
    DrivesInRange (put v ch { v[ch] with pin := pin }) := drivesInRange_put h (moves_pin _ _)

theorem drivesInRange_putIdle (h : DrivesInRange v) (mode : c.mode = v[ch].mode) (safe : DriveSafe c)
    (member : isMember v ch = true → c.state = .stopped) : DrivesInRange (putIdle v ch c) := by
  have own := drivesInRange_replace h (c := { c with pin := c.idle }) mode ((moves_pin ..).safe safe) member
  unfold putIdle
  dsimp only
  split
  · exact drivesInRange_pin own ..
  · exact own

theorem drivesInRange_putPair (h : DrivesInRange v) (m : Moves v[ch] c) : DrivesInRange (putPair v ch c) := by
  have own := drivesInRange_put h (m.trans (moves_pin c (levelWhen (raiseDriven c) c)))
  have next := drivesInRange_pin own (ch + 1) (levelWhen (lowerDriven c) c)
  rwa [put_getElem_ne _ _ (Ne.symm (next_ne ch))] at next

/-- A channel that is no member becomes RUNNING (R85, R87). -/
theorem drivesInRange_runChannel (h : DrivesInRange v) (alone : isMember v ch = false) :
    DrivesInRange (runChannel v ch) := by
  have started : DriveSafe { v[ch] with state := .running } := { h.1 ch with rest := nofun }
  by_cases raise : v[ch].mode = .raise
  · rw [runChannel_raise raise]
    have safe : DriveSafe (rejudged v[ch]) :=
      (moves_judgePair _).safe { started with active := started.staged, rest := fun _ => rfl }
    have m := moves_judgePair { v[ch] with state := .running, active := v[ch].staged, sub := .atRest }
    have own := drivesInRange_replace h (ch := ch) (c := { rejudged v[ch] with
      pin := levelWhen (raiseDriven (rejudged v[ch])) (rejudged v[ch]) }) m.mode ((moves_pin ..).safe safe)
      (fun member => absurd member (by rw [alone]; decide))
    have next := drivesInRange_pin own (ch + 1) (levelWhen (lowerDriven (rejudged v[ch])) (rejudged v[ch]))
    rwa [put_getElem_ne _ _ (Ne.symm (next_ne ch))] at next
  · rw [runChannel_period raise]
    exact drivesInRange_replace h rfl ((moves_startPeriod true _).safe started)
      fun member => absurd member (by rw [alone]; decide)

/-- A channel that is no member becomes BLOCKED (R87). -/
theorem drivesInRange_blockChannel (h : DrivesInRange v) (alone : isMember v ch = false) :
    DrivesInRange (blockChannel v ch) := by
  have abandoned := (moves_abandonPair v[ch]).safe (h.1 ch)
  exact drivesInRange_putIdle h rfl { abandoned with divider := abandoned.base_pos, rest := nofun }
    fun member => absurd member (by rw [alone]; decide)

theorem drivesInRange_stopChannel (h : DrivesInRange v) (ch) : DrivesInRange (stopChannel v ch) := by
  have abandoned := (moves_abandonPair v[ch]).safe (h.1 ch)
  unfold stopChannel
  split
  · exact h
  · exact drivesInRange_putIdle h rfl
      { abandoned with
        active := abandoned.staged, rest := fun _ => rfl, count := Nat.zero_le _, tick := abandoned.period_pos
        divider := abandoned.base_pos } fun _ => rfl

theorem drivesInRange_foldl {α : Type} {f : Vector DriveChannel 16 → α → Vector DriveChannel 16}
    (hf : ∀ v x, DrivesInRange v → DrivesInRange (f v x)) (l : List α) (h : DrivesInRange v) :
    DrivesInRange (l.foldl f v) :=
  foldl_related (R := fun v w => DrivesInRange v → DrivesInRange w) (fun _ => id) (fun h k => k ∘ h) hf l v h

theorem drivesInRange_stopAll (h : DrivesInRange v) : DrivesInRange (stopAll v) :=
  drivesInRange_foldl (fun _ ch hv => drivesInRange_stopChannel hv ch) _ h

theorem drivesInRange_permissiveChange (lines line) (h : DrivesInRange v) (ch) :
    DrivesInRange (permissiveChange lines line v ch) := by
  rw [permissiveChange_eq]
  split
  · exact h
  · next reached =>
    have alone : isMember v ch = false := by
      simp only [Bool.or_eq_true, not_or, Bool.not_eq_true] at reached
      exact reached.1
    unfold react
    cases v[ch].state with
    | stopped => exact h
    | running =>
      dsimp only
      split
      · exact h
      · exact drivesInRange_blockChannel h alone
    | blocked =>
      dsimp only
      split
      · exact drivesInRange_runChannel h alone
      · exact h

theorem drivesInRange_permissiveChanges (lines line) (h : DrivesInRange v) :
    DrivesInRange (permissiveChanges lines line v) :=
  drivesInRange_foldl (fun _ ch hv => drivesInRange_permissiveChange lines line hv ch) _ h

/-- A setpoint within 100 % applied to a channel (R84). -/
theorem drivesInRange_applySetpoint (h : DrivesInRange v) (ch) {p : Nat} (hp : p ≤ 10000) :
    DrivesInRange (applySetpoint v ch p) := by
  unfold applySetpoint
  split
  · exact drivesInRange_put h (moves_active _ hp)
  · next blocked => exact drivesInRange_put h (moves_staged hp (by rw [blocked]; decide))
  · next running =>
    have started : v[ch].state ≠ .stopped := by rw [running]; decide
    split
    · exact drivesInRange_putPair h (moves_pairSetpoint hp started)
    · exact drivesInRange_put h (moves_staged hp started)

theorem drivesInRange_handPosition (h : DrivesInRange v) (ch source) {p : Nat} (hp : p ≤ 10000) :
    DrivesInRange (handPosition v ch source p) := by
  unfold handPosition
  split
  · exact drivesInRange_applySetpoint h ch hp
  · exact h

theorem drivesInRange_startChannel (lines) (h : DrivesInRange v) (alone : isMember v ch = false) :
    DrivesInRange (startChannel lines v ch) := by
  unfold startChannel
  split
  · exact drivesInRange_runChannel h alone
  · exact drivesInRange_blockChannel h alone

theorem drivesInRange_positionSet (h : DrivesInRange v) (ch) {e : Nat} (he : e ≤ 10000) :
    DrivesInRange (positionSet v ch e) := by
  unfold positionSet
  dsimp only
  split
  · exact drivesInRange_putPair h ((moves_est he _).trans (moves_judgePair _))
  · exact drivesInRange_put h (moves_est he _)

end

end Sys2Proof.Machine
end

section
/-!
DRIVE-SET within the ranges: what its checks and its encoding make sure of (R78, R80, R81, R93).
-/
namespace Sys2Proof.Machine

section
variable {f : DriveSetFields} {k : DriveConfig} {v : Vector DriveChannel 16} {ch : Fin 16} {c : DriveChannel}

/-- Two bytes hold each pair field (R165). -/
theorem parseDriveSet_pair {p : List Byte} (h : parseDriveSet p = some f) :
    ∀ x ∈ f.pair, x.ttr ≤ 65535 ∧ x.reversal ≤ 65535 ∧ x.seatRun ≤ 65535 := by
  have fields : ∀ {l q x}, pairFields l = some (x, q) → x.ttr ≤ 65535 ∧ x.reversal ≤ 65535 ∧ x.seatRun ≤ 65535 := by
    intro l q x hx
    simp only [pairFields, Option.bind_eq_bind, Option.bind_eq_some_iff, Prod.exists, u16_eq_some] at hx
    obtain ⟨_, _, ⟨ttr, -⟩, _, _, -, _, _, ⟨reversal, -⟩, _, _, -, _, _, ⟨seatRun, -⟩, hx⟩ := hx
    cases hx
    exact ⟨Nat.le_of_lt_succ ttr, Nat.le_of_lt_succ reversal, Nat.le_of_lt_succ seatRun⟩
  simp only [parseDriveSet, Option.bind_eq_bind, Option.bind_eq_some_iff, Prod.exists, ending_eq_some] at h
  obtain ⟨_, _, -, mode, _, -, _, _, -, _, _, -, _, _, -, _, _, -, _, _, -, _, _, -, _, _, -, pair, _, hpair, rfl, -⟩ := h
  rintro x hx
  obtain rfl : pair = some x := hx
  unfold dependent at hpair
  split at hpair
  · obtain ⟨y, hy, hxy⟩ := Option.map_eq_some_iff.1 hpair
    cases hxy
    exact fields hy
  · cases hpair

/-- What the checks of DRIVE-SET make sure of (Table 5-2). -/
structure DriveSetChecked (f : DriveSetFields) (ch : Fin 16) (k : DriveConfig) : Prop where
  mode : driveModeOf f.mode = some k.mode
  even : k.mode.takesPartner = true → ch.1 % 2 = 0
  base : f.baseTick ∈ [1, 10, 100]
  period : periodFits k.mode f.period = true
  wmin : wminFits k.mode f.period f.wmin = true
  pair : ∀ x ∈ f.pair, 10 ≤ x.ttr ∧ x.deadband ≤ 500 ∧ 1 ≤ x.reversal ∧ x.minMove ≤ x.ttr

theorem pairItemFailing_none {x : PairFields} (h : pairItemFailing x = none) :
    10 ≤ x.ttr ∧ x.deadband ≤ 500 ∧ 1 ≤ x.reversal ∧ x.minMove ≤ x.ttr := by
  unfold pairItemFailing at h
  repeat' split at h
  all_goals cases h
  omega

theorem checkDriveSet_ok (h : checkDriveSet f ch = .ok k) : DriveSetChecked f ch k := by
  unfold checkDriveSet at h
  split at h; · cases h
  next mode hmode =>
  split at h; · cases h
  next odd =>
  split at h; · cases h
  next base =>
  split at h; · cases h
  next period =>
  split at h; · cases h
  next wmin =>
  split at h; · cases h
  split at h; · cases h
  split at h; · cases h
  split at h; · cases h
  next pair =>
  cases h
  refine ⟨hmode, fun takes => ?_, ?_, by simpa using period, by simpa using wmin, fun x hx => ?_⟩
  · simp only [takes, Bool.true_and, decide_eq_true_eq] at odd
    omega
  · have permitted : baseTickPermitted f.baseTick = true := by simpa using base
    simpa [baseTickPermitted, or_assoc] using permitted
  · obtain hx : f.pair = some x := hx
    rw [hx, Option.bind_some] at pair
    exact pairItemFailing_none pair

/-- A STOPPED channel written by a permitted DRIVE-SET (R81). -/
theorem driveSafe_configured (checked : DriveSetChecked f ch k)
    (fields : ∀ x ∈ f.pair, x.ttr ≤ 65535 ∧ x.reversal ≤ 65535 ∧ x.seatRun ≤ 65535) (h : DriveSafe c) :
    DriveSafe (configured f k c) := by
  have pair : ∀ x, f.pair.getD ⟨c.ttr, c.deadband, c.reversal, c.minMove, c.seatRun⟩ = x → 10 ≤ x.ttr ∧
      x.ttr ≤ 65535 ∧ x.deadband ≤ 500 ∧ 1 ≤ x.reversal ∧ x.reversal ≤ 65535 ∧ x.minMove ≤ x.ttr ∧
      x.seatRun ≤ 65535 := by
    rintro x rfl
    cases hp : f.pair with
    | none => exact ⟨h.ttrLow, h.ttr, h.deadband, h.reversalLow, h.reversal, h.minMove, h.seatRun⟩
    | some x =>
      obtain ⟨ttrLow, deadband, reversalLow, minMove⟩ := checked.pair x hp
      obtain ⟨ttr, reversal, seatRun⟩ := fields x hp
      exact ⟨ttrLow, ttr, deadband, reversalLow, reversal, minMove, seatRun⟩
  obtain ⟨ttrLow, ttr, deadband, reversalLow, reversal, minMove, seatRun⟩ := pair _ rfl
  exact { h with
    base := checked.base, period := checked.period, wmin := checked.wmin, count := Nat.zero_le _
    tick := periodFits_pos checked.period, divider := baseTick_pos checked.base
    ttrLow := ttrLow, ttr := ttr, deadband := deadband, reversalLow := reversalLow, reversal := reversal
    minMove := minMove, seatRun := seatRun }

/-- Every channel as DRIVE-SET leaves it: written, or as it was but for its pin, and STOPPED if it was a member that is
none any longer (R81). -/
theorem driveSetTo_cases (f k) (v : Vector DriveChannel 16) (ch i : Fin 16) :
    (i = ch ∧ (driveSetTo f k v ch)[i] = configured f k v[ch]) ∨
    (i ≠ ch ∧ ∃ pin, (driveSetTo f k v ch)[i] = { v[i] with pin := pin }) ∨
    (i = ch + 1 ∧ (ch.1 % 2 = 0 ∧ v[ch].mode.takesPartner = true) ∧
      ∃ pin, (driveSetTo f k v ch)[i] = { v[i] with state := .stopped, pin := pin }) := by
  have written : ∀ x, i = ch ∧ (put (put v ch (configured f k v[ch])) (ch + 1) x)[i] = configured f k v[ch] ∨
      i = ch + 1 ∧ (put (put v ch (configured f k v[ch])) (ch + 1) x)[i] = x ∨
      i ≠ ch ∧ (put (put v ch (configured f k v[ch])) (ch + 1) x)[i] = v[i] := by
    intro x
    by_cases own : ch = i
    · subst own
      rw [put_getElem_ne _ _ (next_ne _), put_getElem_self]
      exact .inl ⟨rfl, rfl⟩
    by_cases next : ch + 1 = i
    · subst next
      rw [put_getElem_self]
      exact .inr (.inl ⟨rfl, rfl⟩)
    · rw [put_getElem_ne _ _ next, put_getElem_ne _ _ own]
      exact .inr (.inr ⟨Ne.symm own, rfl⟩)
  have partner : (put v ch (configured f k v[ch]))[ch + 1] = v[ch + 1] := put_getElem_ne _ _ (Ne.symm (next_ne ch))
  unfold driveSetTo
  dsimp only
  split
  · obtain own | ⟨rfl, h⟩ | ⟨other, h⟩ := written { (put v ch (configured f k v[ch]))[ch + 1] with pin := k.idle }
    · exact .inl own
    · exact .inr (.inl ⟨next_ne ch, _, by rw [h, partner]⟩)
    · exact .inr (.inl ⟨other, _, h⟩)
  split
  · next freed =>
    simp only [Bool.and_eq_true, decide_eq_true_eq] at freed
    obtain own | ⟨rfl, h⟩ | ⟨other, h⟩ := written { (put v ch (configured f k v[ch]))[ch + 1] with
        state := .stopped, pin := (put v ch (configured f k v[ch]))[ch + 1].idle }
    · exact .inl own
    · exact .inr (.inr ⟨rfl, freed, _, by rw [h, partner]⟩)
    · exact .inr (.inl ⟨other, _, h⟩)
  · by_cases own : ch = i
    · subst own
      exact .inl ⟨rfl, put_getElem_self ..⟩
    · exact .inr (.inl ⟨Ne.symm own, _, put_getElem_ne _ _ own⟩)

theorem odd_is_next : ∀ i : Fin 16, i.1 % 2 = 1 → (i - 1).1 % 2 = 0 ∧ i - 1 + 1 = i := by decide

/-- The members are the channels after the even ones that take a partner (R79). -/
theorem isMember_iff {i : Fin 16} :
    isMember v i = true ↔ ∃ j, j + 1 = i ∧ j.1 % 2 = 0 ∧ v[j].mode.takesPartner = true := by
  simp only [isMember, Bool.and_eq_true, decide_eq_true_eq, ← takesPartner_eq]
  constructor
  · rintro ⟨odd, takes⟩
    exact ⟨i - 1, (odd_is_next i odd).2, (odd_is_next i odd).1, takes⟩
  · rintro ⟨j, rfl, even, takes⟩
    refine ⟨odd_next j even, ?_⟩
    simpa only [add_sub_cancel_right] using takes

/-- DRIVE-SET as it is accepted keeps the channels in range (R80, R81). -/
theorem drivesInRange_driveSetTo (h : DrivesInRange v) (stopped : v[ch].state = .stopped)
    (partner : k.mode.takesPartner = true → v[ch + 1].state = .stopped)
    (safe : DriveSafe (configured f k v[ch])) : DrivesInRange (driveSetTo f k v ch) := by
  refine ⟨fun i => ?_, fun i member => ?_⟩
  · obtain ⟨rfl, hi⟩ | ⟨-, pin, hi⟩ | ⟨rfl, ⟨even, takes⟩, pin, hi⟩ := driveSetTo_cases f k v ch i <;> rw [hi]
    · exact safe
    · exact (moves_pin v[i] pin).safe (h.1 i)
    · have rest := (h.1 (ch + 1)).rest (h.2 _ (isMember_iff.2 ⟨ch, rfl, even, takes⟩))
      exact { h.1 (ch + 1) with rest := fun _ => rest }
  · obtain ⟨j, rfl, even, takes⟩ := isMember_iff.1 member
    by_cases own : j = ch
    · subst own
      obtain ⟨-, hj⟩ | ⟨other, -⟩ | ⟨own, -⟩ := driveSetTo_cases f k v j j
      · rw [hj] at takes
        obtain ⟨own, -⟩ | ⟨-, pin, hi⟩ | ⟨-, -, pin, hi⟩ := driveSetTo_cases f k v j (j + 1)
        · exact absurd own (next_ne j)
        · rw [hi]
          exact partner takes
        · rw [hi]
      · exact absurd rfl other
      · exact absurd own (Ne.symm (next_ne j))
    · have kept : (driveSetTo f k v ch)[j].mode = v[j].mode := by
        obtain ⟨rfl, -⟩ | ⟨-, pin, hj⟩ | ⟨-, -, pin, hj⟩ := driveSetTo_cases f k v ch j
        · exact absurd rfl own
        · rw [hj]
        · rw [hj]
      have before : v[j + 1].state = .stopped := h.2 _ (isMember_iff.2 ⟨j, rfl, even, by rw [← kept]; exact takes⟩)
      obtain ⟨hi, hw⟩ | ⟨-, pin, hw⟩ | ⟨-, -, pin, hw⟩ := driveSetTo_cases f k v ch (j + 1) <;> rw [hw]
      · exact stopped
      · exact before

/-- The state of the odd partner that DRIVE-SET finds STOPPED is its own (R79, R80). -/
theorem partner_stopped (h : DrivesInRange v) (stopped : channelState v (ch + 1) = .stopped) :
    v[ch + 1].state = .stopped := by
  unfold channelState at stopped
  split at stopped
  · next member => exact h.2 _ member
  · exact stopped

theorem wantsPartner_of_mode {m : DriveMode} (hm : driveModeOf f.mode = some m) (takes : m.takesPartner = true)
    (even : ch.1 % 2 = 0) : wantsPartner f.mode ch = true := by
  unfold driveModeOf at hm
  unfold wantsPartner
  rw [decide_eq_true even, Bool.true_and]
  repeat' split at hm
  · cases hm; exact absurd takes (by decide)
  · cases hm; exact absurd takes (by decide)
  · next h => simp [h]
  · next h => simp [h]
  · cases hm

/-- The drive channels that DRIVE-SET leaves (R80). -/
theorem judgeDriveSet_leaves {P : State → Prop} {p : List Byte} {s : State} (hp : parseDriveSet p = some f)
    (h : DrivesInRange s.dcu.channels)
    (hP : ∀ w, DrivesInRange w →
      (∀ i : Fin 16, w[i].state = s.dcu.channels[i].state ∨ w[i].state = .stopped) →
      P { s with dcu := { s.dcu with channels := w } }) : (judgeDriveSet f s).Leaves P := by
  unfold judgeDriveSet
  dsimp only
  split; · trivial
  next ch _ =>
  split; · trivial
  next free =>
  split; · trivial
  next partner =>
  split; · trivial
  next k hk =>
  split; · trivial
  split; · trivial
  have stopped : s.dcu.channels[ch].state = .stopped := by
    simp only [Bool.or_eq_true, not_or, decide_eq_true_eq, not_not] at free
    exact free.2
  have checked := checkDriveSet_ok hk
  refine hP _ (drivesInRange_driveSetTo h stopped (fun takes => partner_stopped h ?_)
    (driveSafe_configured checked (parseDriveSet_pair hp) (h.1 ch))) fun i => ?_
  · rw [wantsPartner_of_mode checked.mode takes (checked.even takes)] at partner
    simpa using partner
  · obtain ⟨rfl, hi⟩ | ⟨-, pin, hi⟩ | ⟨-, -, pin, hi⟩ := driveSetTo_cases f k s.dcu.channels ch i <;> rw [hi]
    · exact .inl rfl
    · exact .inl rfl
    · exact .inr rfl

end

end Sys2Proof.Machine
end

section
/-!
The ranges of grades and consumers, and what an allocation keeps of them: a firing is 0 or lies in Mc..Xc, and no
position passes 100 % (R37, R56, R63, R65 to R68, R73, R74).
-/
namespace Sys2Proof.Machine

/-- Grades and consumers in range (R37, R56). -/
def GasInRange (u : Gbu) : Prop :=
  (∀ g : Fin 3, GradeInRange u.grades[g]) ∧ ∀ n : Fin 12, ConsumerInRange u.consumers[n]

/-! ## Division in proportion -/

section
variable {n : Nat} {members : List (Fin n)} {weight : Fin n → Nat} {amount : Nat}

/-- No member gets more than its weight (R65, R67, R68). -/
theorem share_le (members : List (Fin n)) (weight : Fin n → Nat) (amount : Nat) (i : Fin n) :
    share members weight amount i ≤ weight i := by
  unfold share
  dsimp only
  split
  · exact Nat.zero_le _
  split
  · exact Nat.le_refl _
  · next short =>
    have floor : weight i * amount / sumOver members weight ≤ weight i :=
      Nat.div_le_of_le_mul (by rw [Nat.mul_comm]; exact Nat.mul_le_mul_right _ (by omega))
    split
    · next taken =>
      have below := List.mem_filter.1 (List.mem_of_mem_take taken)
      have := of_decide_eq_true below.2
      omega
    · exact floor

theorem share_not_mem {i : Fin n} (h : i ∉ members) : share members weight amount i = 0 := by
  unfold share
  exact if_pos h

end

/-! ## Targets and firings -/

/-- A target is within the consumer's capacity (R63). -/
theorem targetOf_le {c : Consumer} (h : ConsumerInRange c) (state request) : targetOf c state request ≤ c.xc := by
  obtain ⟨-, -, mc, -, -, -, -, -, -, pc, -⟩ := h
  unfold targetOf
  split <;> omega

/-- What the tier loop has given a consumer: at most its target, no more purchased fuel than its limit, and together
nothing or at least Mc (R65 to R67). -/
structure FiringLegal (c : Consumer) (target ac sc : Nat) : Prop where
  total : ac + sc ≤ target
  supp : sc ≤ c.smax.getD 0
  least : ac + sc = 0 ∨ c.mc ≤ ac + sc

theorem firingLegal_none (c target) : FiringLegal c target 0 0 := ⟨Nat.zero_le _, Nat.zero_le _, .inl rfl⟩

/-- The supplementary firing, where the consumer may have one (R66). -/
theorem suppFiring_cases (x : Inputs) (n : Fin 12) :
    (∀ ac, suppFiring x n ac = 0) ∨
      ∀ ac, suppFiring x n ac = min (x.targets[n] - ac) (x.consumers[n].smax.getD 0) := by
  unfold suppFiring
  split
  · exact .inr fun _ => rfl
  · exact .inl fun _ => rfl

/-- What a member of a tier that is served fires (R65 to R67). -/
theorem firingLegal_member {x : Inputs} {t : Fin 4} {first : Fin 12 → Nat} {n : Fin 12}
    (member : n ∈ tierMembers x.consumers t) (hf : first n ≤ x.targets[n]) :
    FiringLegal x.consumers[n] x.targets[n] (secondPass x t first n) (finalSupp x t first n) := by
  have more := share_le (takingPart x t first) (fun i => x.targets[i] - first i) (releasedAmount x t first) n
  by_cases released : isReleased x n (first n) = true
  · have out : n ∉ takingPart x t first := by simp [takingPart, released]
    rw [secondPass, if_pos released, finalSupp, if_neg out]
    exact firingLegal_none ..
  have enough : first n + suppFiring x n (first n) = 0 ∨
      x.consumers[n].mc ≤ first n + suppFiring x n (first n) := by
    simp only [isReleased, decide_eq_true_eq] at released
    omega
  rw [secondPass, if_neg released]
  by_cases part : n ∈ takingPart x t first
  · rw [finalSupp, if_pos part, secondPass, if_neg released]
    have least : x.consumers[n].mc ≤ first n + suppFiring x n (first n) := by
      simp only [takingPart, List.mem_filter, Bool.and_eq_true, Bool.or_eq_true, decide_eq_true_eq] at part
      omega
    obtain none | some := suppFiring_cases x n
    · rw [none] at least ⊢
      exact ⟨by omega, Nat.zero_le _, .inr (by omega)⟩
    · rw [some] at least ⊢
      exact ⟨by omega, by omega, .inr (by omega)⟩
  · rw [share_not_mem part, finalSupp, if_neg part]
    simp only [takingPart, List.mem_filter, member, true_and, Bool.and_eq_true, Bool.or_eq_true, Bool.not_eq_true',
      decide_eq_true_eq, not_and, not_or] at part
    have none := part (by simpa using released)
    exact ⟨by omega, Nat.zero_le _, .inl (by omega)⟩

/-- Every consumer's firing is legal. -/
def FiringsLegal (x : Inputs) (w : Results) : Prop :=
  ∀ n : Fin 12, FiringLegal x.consumers[n] x.targets[n] w.ac[n] w.sc[n]

theorem firingsLegal_start (x ag) : FiringsLegal x (Results.start ag) := by
  intro n
  simp only [Results.start, Fin.getElem_fin, Vector.getElem_replicate]
  exact firingLegal_none ..

theorem firingsLegal_tierStep {x : Inputs} {w : Results} (h : FiringsLegal x w) (t : Fin 4) :
    FiringsLegal x (tierStep x w t) := by
  unfold tierStep
  split
  · exact h
  · intro n
    simp only [serveTier, each_getElem]
    split
    · next member =>
      refine firingLegal_member member ?_
      simp only [Fin.getElem_fin, Vector.getElem_ofFn]
      exact share_le ..
    · exact h n

/-- The tier loop allots legal firings alone (R64 to R68). -/
theorem firingsLegal_tierLoop (x ag) : FiringsLegal x (tierLoop x ag) :=
  foldl_related (R := fun v w => FiringsLegal x v → FiringsLegal x w) (fun _ => id) (fun h k => k ∘ h)
    (fun _ t h => firingsLegal_tierStep h t) _ _ (firingsLegal_start x ag)

/-! ## Positions -/

/-- A part of the whole is at most 100 % (R73). -/
theorem positionOf_le {amount full : Nat} (h : amount ≤ full) : positionOf amount full ≤ 10000 :=
  Nat.div_le_of_le_mul (Nat.mul_le_mul_right _ h)

theorem drivesInRange_handTo (ch source) {amount full : Nat} (h : amount ≤ full) {v : Vector DriveChannel 16}
    (hv : DrivesInRange v) : DrivesInRange (handTo ch source (positionOf amount full) v) := by
  unfold handTo
  split
  · exact hv
  · exact drivesInRange_handPosition hv _ _ (positionOf_le h)

theorem flareAmount_le (e running ug) : flareAmount e running ug ≤ e.flareCapacity := by
  unfold flareAmount
  split
  · split
    · exact Nat.min_le_left ..
    · exact Nat.min_le_right ..
    · exact Nat.zero_le _
  · exact Nat.zero_le _

/-- The positions that an allocation hands over keep the channels in range (R73, R82). -/
theorem drivesInRange_handPositions {x : Inputs} {w : Results} {flares : Vector Nat 3} {v : Vector DriveChannel 16}
    (h : DrivesInRange v) (legal : FiringsLegal x w)
    (targets : ∀ n : Fin 12, x.targets[n] ≤ x.consumers[n].xc)
    (flared : ∀ g : Fin 3, flares[g] ≤ x.grades[g].flareCapacity) : DrivesInRange (handPositions x w flares v) := by
  refine drivesInRange_foldl (fun v g hv => ?_) _ (drivesInRange_foldl (fun v n hv => ?_) _ h)
  · unfold handFlare
    dsimp only
    split
    · exact drivesInRange_handTo _ _ (flared g) hv
    · exact hv
  · have total := (legal n).total
    have main := drivesInRange_handTo x.consumers[n].main (.consumerMain n) (amount := w.ac[n])
      (full := x.consumers[n].xc) ((Nat.le_add_right ..).trans (total.trans (targets n))) hv
    unfold handConsumer
    dsimp only
    split
    · exact drivesInRange_handTo _ _ (legal n).supp main
    · exact main

/-! ## The allocation -/

/-- What an allocation writes, but for the conditions (R61). -/
theorem allocate_frame (b s) : ∃ r d, allocate b s =
    { writeAllocation b (inputsOf s) (tierLoop (inputsOf s) (handedPower s.gbu.grades))
        (flaresOf s (tierLoop (inputsOf s) (handedPower s.gbu.grades))) r s with cnu := d } := by
  unfold allocate
  dsimp only
  obtain ⟨_, h⟩ := signals_followBlocked b.ended (setConsumers (inputsOf s).consumers s)
  rw [h]
  obtain ⟨_, h⟩ := signals_raiseReleased (inputsOf s) (tierLoop (inputsOf s) (handedPower s.gbu.grades)) b.ended
    { setConsumers (inputsOf s).consumers s with cnu := _ }
  rw [h]
  obtain ⟨_, h⟩ := signals_raiseShort (inputsOf s) (tierLoop (inputsOf s) (handedPower s.gbu.grades)) b.ended
    { setConsumers (inputsOf s).consumers s with cnu := _ }
  rw [h]
  exact ⟨_, _, rfl⟩

theorem judgedState_none {v c} (h : c.main = none) : judgedState v c = .out := by
  unfold judgedState
  rw [h]

/-- Judging the states keeps the consumers in range (R58). -/
theorem consumerInRange_judged {v : Vector DriveChannel 16} {c : Consumer} (h : ConsumerInRange c) :
    ConsumerInRange { c with state := judgedState v c } := by
  obtain ⟨tierLow, tier, mc, xcLow, xc, dcLow, dc, least, request, pc, supp, smax, smaxRange, weight, weightRange, main⟩ := h
  exact ⟨tierLow, tier, mc, xcLow, xc, dcLow, dc, least, request, pc, supp, smax, smaxRange, weight, weightRange,
    fun none => ⟨(main none).1, judgedState_none none⟩⟩

theorem consumerInRange_pc {c : Consumer} (h : ConsumerInRange c) {pc : Nat} (hpc : pc = 0 ∨ c.mc ≤ pc ∧ pc ≤ c.xc) :
    ConsumerInRange { c with pc := pc } := by
  obtain ⟨tierLow, tier, mc, xcLow, xc, dcLow, dc, least, request, -, supp, smax, smaxRange, weight, weightRange, main⟩ := h
  exact ⟨tierLow, tier, mc, xcLow, xc, dcLow, dc, least, request, hpc, supp, smax, smaxRange, weight, weightRange, main⟩

theorem inputsOf_consumer (s) (n : Fin 12) : (inputsOf s).consumers[n] =
    { s.gbu.consumers[n] with state := judgedState s.dcu.channels s.gbu.consumers[n] } := by
  simp only [inputsOf, judgedConsumers, each_getElem]

/-- An allocation keeps consumers, grades and drive channels in range (R61). -/
theorem allocate_inRange (b) {s : State} (gas : GasInRange s.gbu) (drives : DrivesInRange s.dcu.channels) :
    GasInRange (allocate b s).gbu ∧ DrivesInRange (allocate b s).dcu.channels := by
  obtain ⟨r, d, h⟩ := allocate_frame b s
  have consumers : ∀ n : Fin 12, ConsumerInRange (inputsOf s).consumers[n] := fun n => by
    rw [inputsOf_consumer]
    exact consumerInRange_judged (gas.2 n)
  have targets : ∀ n : Fin 12, (inputsOf s).targets[n] ≤ (inputsOf s).consumers[n].xc := fun n => by
    have := targetOf_le (consumers n) (inputsOf s).consumers[n].state
      (requestUsed s.exs.record (inputsOf s).consumers[n] n)
    simpa [inputsOf] using this
  have legal := firingsLegal_tierLoop (inputsOf s) (handedPower s.gbu.grades)
  rw [h]
  refine ⟨⟨gas.1, fun n => ?_⟩, drivesInRange_handPositions drives legal targets fun g => ?_⟩
  · simp only [writeAllocation, allocatedGbu, each_getElem]
    obtain ⟨total, -, least⟩ := legal n
    exact consumerInRange_pc (consumers n) (least.imp_right fun least => ⟨least, total.trans (targets n)⟩)
  · simp only [flaresOf, Fin.getElem_fin, Vector.getElem_ofFn]
    exact flareAmount_le ..

theorem Signals.gbu {s t : State} (h : Signals s t) : t.gbu = s.gbu := by
  obtain ⟨_, rfl⟩ := h
  rfl

theorem gasInRange_grade {u : Gbu} (h : GasInRange u) (g : Fin 3) {e : GradeEntry} (he : GradeInRange e) (v w) :
    GasInRange { u with grades := put u.grades g e, supplyBase := v, worksBase := w } := by
  refine ⟨fun k => ?_, h.2⟩
  by_cases hk : g = k
  · subst hk
    rw [put_getElem_self]
    exact he
  · rw [put_getElem_ne _ _ hk]
    exact h.1 k

theorem gasInRange_consumer {u : Gbu} (h : GasInRange u) (n : Fin 12) {c : Consumer} (hc : ConsumerInRange c) :
    GasInRange { u with consumers := put u.consumers n c } := by
  refine ⟨h.1, fun k => ?_⟩
  by_cases hk : n = k
  · subst hk
    rw [put_getElem_self]
    exact hc
  · rw [put_getElem_ne _ _ hk]
    exact h.2 k

/-- Evaluating a grade writes no item of it that has a range (R42). -/
theorem gasInRange_evaluateGrade (b s g) (h : GasInRange s.gbu) : GasInRange (evaluateGrade b s g).gbu := by
  unfold evaluateGrade
  dsimp only
  split
  · refine gasInRange_grade h g ?_ _ _
    exact h.1 g
  · rw [(signals_reportClamp ..).gbu, (signals_reportClamp ..).gbu]
    refine gasInRange_grade h g ?_ _ _
    exact h.1 g

theorem gasInRange_evaluateGrades (b) {s : State} (h : GasInRange s.gbu) : GasInRange (evaluateGrades b s).gbu := by
  unfold evaluateGrades
  rw [(signals_followHolders ..).gbu]
  exact foldl_related (R := fun s t : State => GasInRange s.gbu → GasInRange t.gbu) (fun _ => id) (fun h k => k ∘ h)
    (gasInRange_evaluateGrade b) _ s h

/-- The GBU at a boundary keeps consumers, grades and drive channels in range (R42, R61). -/
theorem balanceBoundary_inRange (b) {s : State} (gas : GasInRange s.gbu) (drives : DrivesInRange s.dcu.channels) :
    GasInRange (balanceBoundary b s).gbu ∧ DrivesInRange (balanceBoundary b s).dcu.channels := by
  refine allocate_inRange b (gasInRange_evaluateGrades b gas) ?_
  obtain ⟨_, _, _, _, h⟩ := evaluates_evaluateGrades b s
  rw [h]
  exact drives

/-! ## GRADE-SET, HOLDER-SET and CONSUMER-SET -/

theorem gradeItemFailing_none {f : GradeSetFields} (h : gradeItemFailing f = none) :
    1 ≤ f.cv ∧ f.cv ≤ 32767 ∧ f.agMax ≤ 2000000 ∧ f.retain ≤ 2000000 ∧ f.flareCapacity ≤ 2000000 := by
  unfold gradeItemFailing at h
  repeat' split at h
  all_goals cases h
  omega

theorem holderItemFailing_none {f : HolderSetFields} (h : holderItemFailing f = none) :
    f.target ≤ 10000 ∧ f.gain ≤ 65535 ∧ 1 ≤ f.theta1 ∧ f.theta1 < f.theta2 ∧ f.theta2 < f.theta3 ∧
      f.theta3 < f.theta4 ∧ f.theta4 ≤ 10000 ∧ f.hysteresis ≤ 1000 := by
  unfold holderItemFailing at h
  repeat' split at h
  all_goals cases h
  omega

/-- What the checks of CONSUMER-SET make sure of (Table 4-2). -/
theorem consumerItemFailing_none {f : ConsumerSetFields} {kind : ConsumerKind}
    (h : consumerItemFailing f kind = none) :
    (1 ≤ f.tier ∧ f.tier ≤ 4 ∧ f.mc ≤ f.xc ∧ 1 ≤ f.xc ∧ f.xc ≤ 2000000 ∧ 1 ≤ f.dc ∧ f.dc ≤ 2000000 ∧
      (kind ≠ .towngas → 1 ≤ f.mc) ∧ ∀ k ∈ f.main, k < 16) ∧
    suppFits kind f.main f.supp = true ∧ smaxFits f.supp f.smax = true ∧ weightFits kind f.weight = true := by
  unfold consumerItemFailing at h
  split at h; · cases h
  split at h; · cases h
  next mc =>
  split at h; · cases h
  split at h; · cases h
  split at h; · cases h
  next main =>
  split at h; · cases h
  next supp =>
  split at h; · cases h
  next smax =>
  split at h; · cases h
  next weight =>
  refine ⟨⟨by omega, by omega, by omega, by omega, by omega, by omega, by omega, fun other => ?_, fun k hk => ?_⟩,
    by simpa using supp, by simpa using smax, by simpa using weight⟩
  · by_contra low
    exact mc (.inl ⟨by omega, other⟩)
  · obtain hk : f.main = some k := hk
    rw [hk, Option.getD_some] at main
    omega

theorem asFin_isSome {n k : Nat} (h : k < n) : ∃ i : Fin n, asFin n k = some i ∧ i.1 = k := ⟨⟨k, h⟩, by simp [asFin, h], rfl⟩

/-- The supplementary channel that a permitted CONSUMER-SET names (Table 4-2, items 8 and 9). -/
theorem suppFits_spec {kind : ConsumerKind} {main supp smax : Option Nat} (fits : suppFits kind main supp = true)
    (limit : smaxFits supp smax = true) :
    (∀ ch ∈ supp.bind (asFin 16), kind = .heat ∧ main.bind (asFin 16) ≠ some ch) ∧
    (supp.bind (asFin 16)).isSome = smax.isSome ∧ ∀ x ∈ smax, 1 ≤ x ∧ x ≤ 2000000 := by
  unfold suppFits at fits
  unfold smaxFits at limit
  cases supp with
  | none =>
    cases smax with
    | none => exact ⟨nofun, rfl, nofun⟩
    | some x => cases limit
  | some k =>
    simp only [Bool.and_eq_true, decide_eq_true_eq] at fits
    obtain ⟨⟨heat, small⟩, other⟩ := fits
    obtain ⟨ch, hch, rfl⟩ := asFin_isSome small
    cases smax with
    | none => cases limit
    | some x =>
      refine ⟨fun i hi => ⟨heat, fun hm => ?_⟩, by simp [hch], fun y hy => ?_⟩
      · obtain ⟨m, hmain, hi'⟩ := Option.bind_eq_some_iff.1 hm
        obtain rfl : ch = i := by simpa [hch] using hi
        exact other (by rw [hmain, asFin_eq_some.1 hi'])
      · obtain rfl : x = y := by simpa using hy
        simpa using limit

/-- The share weight that a permitted CONSUMER-SET writes (Table 4-2, item 10). -/
theorem weightFits_spec {kind : ConsumerKind} {weight : Option Nat} (fits : weightFits kind weight = true) :
    weight.isSome = decide (kind = .power) ∧ ∀ w, weight = some w → 1 ≤ w ∧ w ≤ 100 := by
  unfold weightFits at fits
  cases kind <;> cases weight <;> simp_all

/-- A consumer that a permitted CONSUMER-SET writes, with Pc 0 (R57). -/
theorem consumerInRange_consumerSetTo {f : ConsumerSetFields} {kind : ConsumerKind} {c : Consumer}
    (permitted : consumerItemFailing f kind = none) (pc : c.pc = 0) : ConsumerInRange (consumerSetTo f kind c) := by
  obtain ⟨⟨tierLow, tier, mc, xcLow, xc, dcLow, dc, least, -⟩, supp, smax, weight⟩ := consumerItemFailing_none permitted
  obtain ⟨supp, smax, smaxRange⟩ := suppFits_spec supp smax
  obtain ⟨weight, weightRange⟩ := weightFits_spec weight
  refine ⟨tierLow, tier, mc, xcLow, xc, dcLow, dc, least, ?_, .inl pc, supp, smax, smaxRange, weight, weightRange,
    fun absent => ?_⟩
  · unfold consumerSetTo
    dsimp only
    split
    · exact Nat.zero_le _
    · exact Nat.min_le_right ..
  · have absent : f.main.bind (asFin 16) = none := absent
    simp [consumerSetTo, absent]

/-- A consumer enabled or disabled, and its state judged (R58). -/
theorem consumerInRange_enable {v : Vector DriveChannel 16} {c : Consumer} (h : ConsumerInRange c) {enable : Bool}
    (defined : (enable && c.main.isNone) = false) :
    ConsumerInRange { { c with enabled := enable } with state := judgedState v { c with enabled := enable } } := by
  obtain ⟨tierLow, tier, mc, xcLow, xc, dcLow, dc, least, request, pc, supp, smax, smaxRange, weight, weightRange, -⟩ := h
  refine ⟨tierLow, tier, mc, xcLow, xc, dcLow, dc, least, request, pc, supp, smax, smaxRange, weight, weightRange,
    fun absent => ⟨?_, judgedState_none absent⟩⟩
  have absent : c.main = none := absent
  simpa [absent] using defined

theorem consumerInRange_request {c : Consumer} (h : ConsumerInRange c) (k : Nat) :
    ConsumerInRange { c with request := min k c.xc } := by
  obtain ⟨tierLow, tier, mc, xcLow, xc, dcLow, dc, least, -, pc, supp, smax, smaxRange, weight, weightRange, main⟩ := h
  exact ⟨tierLow, tier, mc, xcLow, xc, dcLow, dc, least, Nat.min_le_right .., pc, supp, smax, smaxRange, weight,
    weightRange, main⟩

end Sys2Proof.Machine
end

section
/-!
The ranges of the export scheduler (R100, R102, R104, R115, R120, R121): what each of its operations keeps of them.
-/
namespace Sys2Proof.Machine

/-! ## Item by item -/

/-- A nomination table within the greatest capacity (R102). -/
def TableInRange (v : Vector Nat 96) : Prop := ∀ i : Fin 96, v[i] ≤ 500000

/-- The export scheduler in range, item by item. -/
structure ExportSafe (e : Exs) : Prop where
  config : ConfigInRange e.config
  current : TableInRange e.current
  next : TableInRange e.nextTab
  held : e.held ≤ 500000
  grace : e.grace ≤ 8
  curtail : ∀ c ∈ e.curtail, c.cap ≤ 500000 ∧ 1 ≤ c.remaining ∧ c.remaining ≤ 96
  deviations : e.deviations ≤ 15
  limit : e.phase = .active → e.deviations < e.config.devLimit
  recoveries : e.recoveries ≤ e.config.recoveryPairs
  outside : e.phase ≠ .passive → e.recoveries = 0

theorem exportInRange_iff {e : Exs} : ExportInRange e ↔ ExportSafe e := by
  constructor
  · rintro ⟨config, tables, held, grace, curtail, deviations, limit, recoveries, outside⟩
    exact ⟨config, fun i => (tables i).1, fun i => (tables i).2, held, grace, curtail, deviations, limit, recoveries,
      outside⟩
  · rintro ⟨config, current, next, held, grace, curtail, deviations, limit, recoveries, outside⟩
    exact ⟨config, fun i => ⟨current i, next i⟩, held, grace, curtail, deviations, limit, recoveries, outside⟩

theorem tableInRange_empty : TableInRange (Vector.replicate 96 0) := by
  intro i
  simp

theorem ExportSafe.devLimit {e : Exs} (h : ExportSafe e) : 1 ≤ e.config.devLimit ∧ e.config.devLimit ≤ 15 := by
  obtain ⟨-, -, -, -, -, -, -, low, high, -⟩ := h.config
  exact ⟨low, high⟩

theorem ExportSafe.graceSlots {e : Exs} (h : ExportSafe e) : e.config.graceSlots ≤ 8 := by
  obtain ⟨-, -, -, -, -, -, -, -, -, -, grace⟩ := h.config
  exact grace

theorem ExportSafe.capacity {e : Exs} (h : ExportSafe e) : e.config.capacity ≤ 500000 := by
  obtain ⟨-, -, capacity, -⟩ := h.config
  exact capacity

/-! ## The export state and the plan -/

section
variable {s : State} {b : Boundary}

/-- Without deviations the EXS is below every limit (R100, R120). -/
theorem ExportSafe.noDeviations {e : Exs} (h : ExportSafe e) : ExportSafe { e with deviations := 0 } :=
  { h with deviations := Nat.zero_le _, limit := fun _ => Nat.lt_of_lt_of_le Nat.zero_lt_one h.devLimit.1 }

/-- A change of the export state, from a deviation count that need not be below the limit (R110, R121). -/
theorem exportSafe_changeExport (h : ExportSafe { s.exs with deviations := 0 }) (counted : s.exs.deviations ≤ 15)
    {st : ExportState} (k t) (limit : st = .active → s.exs.deviations < s.exs.config.devLimit) :
    ExportSafe (changeExport st k t s).exs := by
  rw [changeExport_exs]
  split
  · next same => exact { h with deviations := counted, limit := fun active => limit (same.symm.trans active) }
  · refine { h with deviations := counted, limit := limit, recoveries := ?_, outside := fun other => ?_ }
    · dsimp only
      split
      · exact Nat.zero_le _
      · exact h.recoveries
    · dsimp only at other ⊢
      split
      · rfl
      · next away =>
        have passive : s.exs.phase ≠ .passive := by
          intro passive
          simp [touchesPassive, passive] at away
        exact h.outside passive

theorem exportSafe_swapTables (h : ExportSafe s.exs) (t) : ExportSafe (swapTables t s).exs := by
  rw [swapTables_exs]
  exact { h with current := h.next, next := tableInRange_empty, grace := Nat.zero_le _ }

theorem exportSafe_changePlan (h : ExportSafe s.exs) (p t) : ExportSafe (changePlan p t s).exs := by
  rw [changePlan_exs]
  exact { h with }

theorem exportSafe_updatePlan (h : ExportSafe s.exs) (t) : ExportSafe (updatePlan t s).exs := by
  unfold updatePlan
  split
  · exact h
  · split
    · exact exportSafe_swapTables h t
    · exact h
  · split
    · exact exportSafe_swapTables h t
    · have less : ExportSafe { s.exs with grace := s.exs.grace - 1 } :=
        { h with grace := (Nat.sub_le ..).trans h.grace }
      dsimp only
      split
      · exact exportSafe_changePlan (s := { s with exs := { s.exs with grace := s.exs.grace - 1 } }) less _ t
      · exact less

theorem exportSafe_rolloverPlan (h : ExportSafe s.exs) (t) : ExportSafe (rolloverPlan t s).exs := by
  unfold rolloverPlan
  split
  · exact exportSafe_swapTables h t
  split
  · split
    · exact exportSafe_changePlan h _ t
    · have begun : ExportSafe { s.exs with held := s.exs.current[(95 : Fin 96)], grace := s.exs.config.graceSlots } :=
        { h with held := h.current 95, grace := h.graceSlots }
      exact exportSafe_changePlan (s := { s with exs := { s.exs with
        held := s.exs.current[(95 : Fin 96)], grace := s.exs.config.graceSlots } }) begun _ t
  · exact exportSafe_updatePlan h t
  · exact h

/-! ## The slot end -/

/-- A slot is DEVIANT in ACTIVE alone (R119). -/
theorem verdictOf_deviant {e : Exs} {m : Measured} (h : verdictOf e m = .deviant) : e.phase = .active := by
  unfold verdictOf at h
  split at h; · cases h
  split at h
  · next active => exact active.2
  · cases h

/-- A deviation counted, before its limit is judged (R120). -/
def deviated (b : Boundary) (s : State) : State :=
  ({ s with exs := { s.exs with deviations := s.exs.deviations + 1 } }).raise condSlotDeviant b.ended.slot.1 b.ended

theorem deviated_exs (b s) : (deviated b s).exs = { s.exs with deviations := s.exs.deviations + 1 } := rfl

theorem countDeviation_deviant (b s) : countDeviation b .deviant s =
    if s.exs.config.devLimit ≤ s.exs.deviations + 1 then
      changeExport (if s.exs.config.haltOnDev then .halted else .passive) 1 b.ended (deviated b s)
    else deviated b s := rfl

/-- What a verdict does to the EXS (R120). -/
theorem exportSafe_countDeviation (h : ExportSafe s.exs) {v : Verdict} (active : v = .deviant → s.exs.phase = .active) :
    ExportSafe (countDeviation b v s).exs := by
  cases v with
  | compliant => exact h.noDeviations
  | deviant =>
    have below := h.limit (active rfl)
    have limit := h.devLimit
    have counted : (deviated b s).exs.deviations ≤ 15 := by
      rw [deviated_exs]
      dsimp only
      omega
    rw [countDeviation_deviant]
    split
    · refine exportSafe_changeExport (s := deviated b s) h.noDeviations counted _ _ fun active => ?_
      split at active <;> cases active
    · next room => exact { h with deviations := counted, limit := fun _ => Nat.lt_of_not_le room }
  | notExporting => exact h
  | unmeasured => exact h

theorem countDeviation_phase {v : Verdict} (h : v ≠ .deviant) : (countDeviation b v s).exs.phase = s.exs.phase := by
  cases v with
  | deviant => exact absurd rfl h
  | _ => rfl

/-- A slot is judged SUFFICIENT where the EXS was PASSIVE at its end (R121). -/
theorem slotSufficiency_sufficient {st : ExportState} {e : Exs} (h : slotSufficiency st e = .sufficient) :
    st = .passive := by
  unfold slotSufficiency at h
  split at h
  · next passive => exact passive.2.1
  · cases h

theorem exportSafe_countRecovery {e : Exs} (h : ExportSafe e) {suff : Sufficiency}
    (passive : suff = .sufficient → e.phase = .passive) : ExportSafe (countRecovery b suff e) := by
  unfold countRecovery
  split
  · exact { h with }
  split
  · next both =>
    refine { h with recoveries := ?_, outside := fun other => absurd (passive both.2) other }
    have := h.recoveries
    dsimp only
    split <;> omega
  · exact { h with recoveries := Nat.zero_le _, outside := fun _ => rfl }

/-- What stage 1 leaves of the EXS, and stages 3 to 5 after it (R117). -/
theorem closeSlot_exs (b s) : ∃ s2 : State, s2.exs =
      { s.exs with base := (measureExport s.fiu.pulses b.stepsPerSlot s.exs.base).base } ∧ ∃ log,
    (closeSlot b s).exs =
      { countRecovery b (slotSufficiency s.exs.phase s.exs) (countDeviation b (verdictOf s.exs
          (measureExport s.fiu.pulses b.stepsPerSlot s.exs.base)) s2).exs with log := log } := by
  unfold closeSlot
  dsimp only
  split <;> exact ⟨_, by rfl, _, rfl⟩

theorem exportSafe_closeSlot (h : ExportSafe s.exs) (b) : ExportSafe (closeSlot b s).exs := by
  obtain ⟨s2, hs2, log, hs⟩ := closeSlot_exs b s
  have measured : ExportSafe s2.exs := by
    rw [hs2]
    exact { h with }
  have phase : s2.exs.phase = s.exs.phase := by rw [hs2]
  have deviation := exportSafe_countDeviation (b := b) measured
    (v := verdictOf s.exs (measureExport s.fiu.pulses b.stepsPerSlot s.exs.base))
    fun deviant => phase.trans (verdictOf_deviant deviant)
  have recovery := exportSafe_countRecovery (b := b) deviation (suff := slotSufficiency s.exs.phase s.exs)
    fun sufficient => by
      have passive := slotSufficiency_sufficient sufficient
      rw [countDeviation_phase, phase, passive]
      intro deviant
      rw [verdictOf_deviant deviant] at passive
      cases passive
  rw [hs]
  exact { recovery with }

theorem exportSafe_countCurtailment {e : Exs} (h : ExportSafe e) : ExportSafe (countCurtailment e) := by
  refine { h with curtail := fun c hc => ?_ }
  obtain ⟨x, hx, hc⟩ := Option.bind_eq_some_iff.1 hc
  obtain ⟨cap, -, high⟩ := h.curtail x hx
  split at hc
  · cases hc
  · cases hc
    exact ⟨cap, by dsimp only; omega, by dsimp only; omega⟩

theorem exportSafe_enterActive (h : ExportSafe s.exs) (t) : ExportSafe (enterActive t s).exs :=
  exportSafe_changeExport (s := { s with exs := { s.exs with deviations := 0 } }) h.noDeviations (Nat.zero_le _) _ _
    fun _ => Nat.lt_of_lt_of_le Nat.zero_lt_one h.devLimit.1

theorem exportSafe_judgeExportState (h : ExportSafe s.exs) (t) : ExportSafe (judgeExportState t s).exs := by
  unfold judgeExportState
  split
  · split
    · exact exportSafe_enterActive h t
    · exact h
  · split
    · exact exportSafe_changeExport h.noDeviations h.deviations _ _ nofun
    · exact h
  · split
    · exact exportSafe_enterActive h t
    · exact h
  · exact h
  · exact h

theorem exportSafe_prepareSlot (h : ExportSafe s.exs) (b) : ExportSafe (prepareSlot b s).exs := by
  have plan : ExportSafe (if b.rollover then rolloverPlan b.ended s else updatePlan b.ended s).exs := by
    split
    · exact exportSafe_rolloverPlan h _
    · exact exportSafe_updatePlan h _
  have judged := exportSafe_judgeExportState
    (s := { (if b.rollover then rolloverPlan b.ended s else updatePlan b.ended s) with
      exs := countCurtailment (if b.rollover then rolloverPlan b.ended s else updatePlan b.ended s).exs })
    (exportSafe_countCurtailment plan) b.ended
  exact { judged with }

/-- The EXS at a boundary keeps its ranges (R117). -/
theorem exportSafe_exportBoundary (h : ExportSafe s.exs) (b) : ExportSafe (exportBoundary b s).exs := by
  unfold exportBoundary
  dsimp only
  split
  · exact exportSafe_prepareSlot (exportSafe_closeSlot (s := { s with exs := takeStep b s.exs }) { h with } b) b
  · exact { h with }

/-! ## The modes -/

theorem exportSafe_exportModeStart (h : ExportSafe s.exs) : ExportSafe (exportModeStart s).exs := by
  have begun : ExportSafe { s.exs with slotInHand := s.sck.pos.slot, firstHalf := .notJudged } := { h with }
  unfold exportModeStart
  dsimp only
  split
  · have swapped := exportSafe_swapTables
      (s := { s with exs := { s.exs with slotInHand := s.sck.pos.slot, firstHalf := .notJudged } }) begun s.sck.pos
    exact { swapped with }
  · exact { begun with }

/-! ## The requests -/

/-- What the checks of EXPORT-SET make sure of (Table 6-1). -/
theorem exportItemFailing_none {f : ExportSetFields} (h : exportItemFailing f = none) :
    100 ≤ f.eta ∧ f.eta ≤ 900 ∧ f.capacity ≤ 500000 ∧ 1 ≤ f.tolerance ∧ f.tolerance ≤ 500 ∧ 1 ≤ f.floorWh ∧
      f.floorWh ≤ 16777215 ∧ 1 ≤ f.devLimit ∧ f.devLimit ≤ 15 ∧ f.recoveryPairs ≤ 31 ∧ f.graceSlots ≤ 8 := by
  unfold exportItemFailing at h
  repeat' split at h
  all_goals cases h
  omega

/-- A configuration written in IDLE (R101). -/
theorem exportSafe_config {e : Exs} (h : ExportSafe e) (idle : e.phase = .idle) {c : ExportConfig}
    (hc : ConfigInRange c) : ExportSafe { e with config := c } := by
  refine { h with config := hc, limit := fun active => ?_, recoveries := ?_ }
  · have active : e.phase = .active := active
    rw [idle] at active
    cases active
  · have none := h.outside (by rw [idle]; decide)
    dsimp only
    omega

/-- Entries written are within the capacity (R102, R103). -/
theorem tableInRange_writeEntries (f : NominateFields) {cx : Nat} (hcx : cx ≤ 500000) {v : Vector Nat 96}
    (h : TableInRange v) : TableInRange (writeEntries f cx v) := by
  intro i
  simp only [writeEntries, each_getElem]
  split
  · cases f.entries[i.1 - f.first]? with
    | none => exact h i
    | some x => exact (Nat.min_le_right ..).trans hcx
  · exact h i

theorem exportSafe_emptyNext {e : Exs} (h : ExportSafe e) : ExportSafe (emptyNext e) :=
  { h with next := tableInRange_empty }

end

end Sys2Proof.Machine
end

section
/-!
Pulse channels: what an arrival counts, and what PULSE-SET writes and rebases (R18 to R21).
-/
namespace Sys2Proof.Machine

/-! ## Arrivals -/

section
variable {v : Vector PulseChannel 24} {ch : Fin 24}

theorem next_channel_ne (ch : Fin 24) : ch + 1 ≠ ch := by simp

theorem arrive_partner (h : isPulsePartner v ch = true) : arrive v ch = v := by simp [arrive, h]

/-- The channel of an arrival counts it, whether or not its pair is cascaded (R19). -/
theorem arrive_self (h : isPulsePartner v ch = false) : (arrive v ch)[ch] = countPulse v[ch] := by
  unfold arrive
  rw [if_neg (by simp [h])]
  dsimp only
  split
  · rw [put_getElem_ne _ _ (next_channel_ne ch), put_getElem_self]
  · exact put_getElem_self ..

/-- The upper half of a cascaded pair counts an arrival at which the lower half wraps (R19). -/
theorem arrive_upper (h : isPulsePartner v ch = false) (pair : isCascaded v ch = true) :
    (arrive v ch)[ch + 1] =
      { v[ch + 1] with
        counter := if (v[ch].counter + 1) % 65536 = 0 then (v[ch + 1].counter + 1) % 65536
          else v[ch + 1].counter } := by
  unfold arrive
  rw [if_neg (by simp [h])]
  dsimp only
  rw [put_getElem_self, put_getElem_ne _ _ (next_channel_ne ch).symm]
  by_cases wraps : (countPulse v[ch]).counter = 0
  · rw [if_pos ⟨pair, wraps⟩, put_getElem_self, if_pos (by simpa [countPulse] using wraps)]
    rfl
  · rw [if_neg fun hw => wraps hw.2, put_getElem_ne _ _ (next_channel_ne ch).symm,
      if_neg (by simpa [countPulse] using wraps)]

/-- An arrival reaches no channel beyond its own and the upper half of its pair (R19). -/
theorem arrive_others {c : Fin 24} (hc : c ≠ ch) (hu : ¬ (isCascaded v ch = true ∧ c = ch + 1)) :
    (arrive v ch)[c] = v[c] := by
  unfold arrive
  split
  · rfl
  dsimp only
  split
  · next wraps =>
    rw [put_getElem_ne _ _ fun h => hu ⟨wraps.1, h.symm⟩, put_getElem_ne _ _ hc.symm]
  · exact put_getElem_ne _ _ hc.symm

end

/-- Settles O17: an arrival changes the counters alone, by its own channel and the pair's upper half. -/
theorem pulsesCounted : Obligations.PulsesCounted := by
  unfold Obligations.PulsesCounted
  intro s ch
  refine ⟨fun h => ?_, fun h => ⟨arrive s.fiu.pulses ch, rfl, arrive_self h, arrive_upper h,
    fun c hc hu => arrive_others hc hu⟩⟩
  show Host.Outcome.next { s with fiu := { s.fiu with pulses := arrive s.fiu.pulses ch } } = .next s
  rw [arrive_partner h]

/-! ## Counts and deltas -/

section
variable {v : Vector PulseChannel 24} {ch : Fin 24}

theorem isCascaded_arrive (h : isPulsePartner v ch = false) : isCascaded (arrive v ch) ch = isCascaded v ch := by
  unfold isCascaded
  rw [arrive_self h]
  rfl

/-- An arrival makes the count of its channel one higher, in the range of the channel (R18, R19). -/
theorem countOf_arrive (h : isPulsePartner v ch = false) (low : v[ch].counter ≤ 65535)
    (high : v[ch + 1].counter ≤ 65535) : countOf (arrive v ch) ch = (countOf v ch + 1) % countRange v ch := by
  have own : (arrive v ch)[ch].counter = (v[ch].counter + 1) % 65536 := by rw [arrive_self h]; rfl
  unfold countOf countRange
  rw [isCascaded_arrive h, own]
  split
  · next pair =>
    rw [arrive_upper h pair]
    dsimp only
    split <;> omega
  · rfl

/-- A count one higher makes every delta one higher, in the same range (R21). -/
theorem delta_succ {n count base : Nat} :
    ((count + 1) % n + (n - base % n)) % n = ((count + (n - base % n)) % n + 1) % n := by
  rw [Nat.mod_add_mod, Nat.mod_add_mod]
  congr 1
  omega

theorem countRange_arrive (h : isPulsePartner v ch = false) : countRange (arrive v ch) ch = countRange v ch := by
  unfold countRange
  rw [isCascaded_arrive h]

end

/-- Settles O18: the count of the channel grows by one in its range, and with it each delta. -/
theorem countsGrowByOne : Obligations.CountsGrowByOne := by
  unfold Obligations.CountsGrowByOne
  intro s ch base v single low high
  have count : countOf (arrive v ch) ch = (countOf v ch + 1) % countRange v ch := countOf_arrive single low high
  refine ⟨_, rfl, count, ?_⟩
  show deltaOf (arrive v ch) ch base = (deltaOf v ch base + 1) % countRange v ch
  unfold deltaOf
  rw [countRange_arrive single, count]
  exact delta_succ

/-! ## PULSE-SET -/

section
variable {s : State} {role : PulseRole} {ch : Fin 24}

/-- A new baseline reaches the baselines and the meters alone, and the counts stand (R20). -/
theorem rebase_frame : rebase role ch s =
    { s with
      gbu := { s.gbu with
        supplyBase := (rebase role ch s).gbu.supplyBase, worksBase := (rebase role ch s).gbu.worksBase }
      exs := { s.exs with base := (rebase role ch s).exs.base }
      hmu := { s.hmu with meters := (rebase role ch s).hmu.meters } } := by cases role <;> rfl

@[simp] theorem rebase_fiu : (rebase role ch s).fiu = s.fiu := by cases role <;> rfl

theorem rebase_supply (g : Fin 3) : (rebase role ch s).gbu.supplyBase[g] =
    if role = .gasSupply g then countOf s.fiu.pulses ch else s.gbu.supplyBase[g] := by
  cases role with
  | gasSupply k =>
    by_cases h : k = g
    · subst h; simp [rebase, -Fin.getElem_fin]
    · rw [if_neg (by simpa using h)]
      exact put_getElem_ne _ _ h
  | _ => simp [rebase, setMeter]

theorem rebase_works (g : Fin 3) : (rebase role ch s).gbu.worksBase[g] =
    if role = .gasWorks g then countOf s.fiu.pulses ch else s.gbu.worksBase[g] := by
  cases role with
  | gasWorks k =>
    by_cases h : k = g
    · subst h; simp [rebase, -Fin.getElem_fin]
    · rw [if_neg (by simpa using h)]
      exact put_getElem_ne _ _ h
  | _ => simp [rebase, setMeter]

theorem rebase_export : (rebase role ch s).exs.base =
    if role = .exportEnergy then countOf s.fiu.pulses ch else s.exs.base := by cases role <;> rfl

theorem rebase_meters (m : Fin 16) : (rebase role ch s).hmu.meters[m] =
    if role = .heatFlow m then freshMeter s.fiu.pulses (some ch) s.hmu.meters[m] else s.hmu.meters[m] := by
  cases role with
  | heatFlow k =>
    by_cases h : k = m
    · subst h; simp [rebase, setMeter, -Fin.getElem_fin]
    · rw [if_neg (by simpa using h)]
      exact put_getElem_ne _ _ h
  | _ => simp [rebase]

end

/-- Whether PULSE-SET ends a cascade on this channel, so that its odd partner counts for its own role again (R20). -/
def cascadeEnds (old : PulseChannel) (ch : Fin 24) (v : Vector PulseChannel 24) : Bool :=
  decide (ch.1 % 2 = 0) && decide (v[ch].width ≠ old.width) && decide (v[ch].width = .single)

/-- Whether the role written to this channel counts from it anew (R20). -/
def roleGained (old : PulseChannel) (ch : Fin 24) (v : Vector PulseChannel 24) : Bool :=
  !isPulsePartner v ch &&
    (decide (ch.1 % 2 = 0) && decide (v[ch].width ≠ old.width) || decide (v[ch].role ≠ old.role))

theorem rebaseReaders_eq (old : PulseChannel) (ch : Fin 24) (s : State) : rebaseReaders old ch s =
    let s1 := if cascadeEnds old ch s.fiu.pulses then rebase s.fiu.pulses[ch + 1].role (ch + 1) s else s
    if roleGained old ch s.fiu.pulses then rebase s.fiu.pulses[ch].role ch s1 else s1 := rfl

/-- The model's two rebasing steps are the ways in which a role gains a channel (R20). -/
theorem gainedChannel_eq (old new : Vector PulseChannel 24) (ch : Fin 24) (role : PulseRole) :
    gainedChannel old new ch role =
      if roleGained old[ch] ch new ∧ new[ch].role = role then some ch
      else if cascadeEnds old[ch] ch new ∧ new[ch + 1].role = role then some (ch + 1) else none := by
  have written : (new[ch].role = role ∧ isPulsePartner new ch = false ∧
      (old[ch].role ≠ role ∨ ch.1 % 2 = 0 ∧ old[ch].width ≠ new[ch].width)) ↔
      roleGained old[ch] ch new ∧ new[ch].role = role := by
    simp only [roleGained, Bool.and_eq_true, Bool.not_eq_true', Bool.or_eq_true, decide_eq_true_eq]
    constructor
    · rintro ⟨rfl, single, why⟩; exact ⟨⟨single, why.symm.imp (.imp_right Ne.symm) Ne.symm⟩, rfl⟩
    · rintro ⟨⟨single, why⟩, rfl⟩; exact ⟨rfl, single, why.symm.imp Ne.symm (.imp_right Ne.symm)⟩
  have ended : (ch.1 % 2 = 0 ∧ old[ch].width = .cascade ∧ new[ch].width = .single ∧ new[ch + 1].role = role) ↔
      cascadeEnds old[ch] ch new ∧ new[ch + 1].role = role := by
    simp only [cascadeEnds, Bool.and_eq_true, decide_eq_true_eq]
    constructor
    · rintro ⟨even, was, now, hr⟩; exact ⟨⟨⟨even, by rw [was, now]; decide⟩, now⟩, hr⟩
    · rintro ⟨⟨⟨even, changed⟩, now⟩, hr⟩
      refine ⟨even, ?_, now, hr⟩
      cases hw : old[ch].width with
      | single => exact absurd (now.trans hw.symm) changed
      | cascade => rfl
  unfold gainedChannel
  simp only [written, ended]

section
variable {old : Vector PulseChannel 24} {ch : Fin 24} {s : State}

/-- What the reader of a role holds after PULSE-SET: its new value `x` where the role has gained a channel (R20). -/
theorem rebaseReaders_read {α : Type} {role : PulseRole} (read : State → α) (x : Fin 24 → α → α)
    (step : ∀ r c t, t.fiu = s.fiu → read (rebase r c t) = if r = role then x c (read t) else read t)
    (anew : ∀ b c d, x b (x c d) = x b d) :
    read (rebaseReaders old[ch] ch s) =
      ((gainedChannel old s.fiu.pulses ch role).map fun c => x c (read s)).getD (read s) := by
  rw [rebaseReaders_eq, gainedChannel_eq]
  dsimp only
  have upper := step s.fiu.pulses[ch + 1].role (ch + 1) s rfl
  cases roleGained old[ch] ch s.fiu.pulses <;> cases cascadeEnds old[ch] ch s.fiu.pulses
  case false.false => rfl
  case false.true =>
    simp only [Bool.false_eq_true, if_false, if_true, false_and, true_and, upper]
    split <;> rfl
  case true.false =>
    simp only [Bool.false_eq_true, if_false, if_true, false_and, true_and, step _ ch s rfl]
    split <;> rfl
  case true.true =>
    simp only [if_true, true_and, step _ ch _ rebase_fiu, upper]
    split
    · split
      · exact anew ..
      · rfl
    · split <;> rfl

theorem rebaseReaders_frame : rebaseReaders old[ch] ch s =
    { s with
      gbu := { s.gbu with
        supplyBase := (rebaseReaders old[ch] ch s).gbu.supplyBase
        worksBase := (rebaseReaders old[ch] ch s).gbu.worksBase }
      exs := { s.exs with base := (rebaseReaders old[ch] ch s).exs.base }
      hmu := { s.hmu with meters := (rebaseReaders old[ch] ch s).hmu.meters } } := by
  rw [rebaseReaders_eq]
  dsimp only
  split <;> split
  · rw [rebase_frame, rebase_frame]
  · rw [rebase_frame]
  · rw [rebase_frame]
  · rfl

theorem rebaseReaders_supply (g : Fin 3) : (rebaseReaders old[ch] ch s).gbu.supplyBase[g] =
    ((gainedChannel old s.fiu.pulses ch (.gasSupply g)).map (countOf s.fiu.pulses)).getD s.gbu.supplyBase[g] :=
  rebaseReaders_read (fun t => t.gbu.supplyBase[g]) (fun c _ => countOf s.fiu.pulses c)
    (fun _ _ _ ht => ht ▸ rebase_supply g) fun _ _ _ => rfl

theorem rebaseReaders_works (g : Fin 3) : (rebaseReaders old[ch] ch s).gbu.worksBase[g] =
    ((gainedChannel old s.fiu.pulses ch (.gasWorks g)).map (countOf s.fiu.pulses)).getD s.gbu.worksBase[g] :=
  rebaseReaders_read (fun t => t.gbu.worksBase[g]) (fun c _ => countOf s.fiu.pulses c)
    (fun _ _ _ ht => ht ▸ rebase_works g) fun _ _ _ => rfl

theorem rebaseReaders_export : (rebaseReaders old[ch] ch s).exs.base =
    ((gainedChannel old s.fiu.pulses ch .exportEnergy).map (countOf s.fiu.pulses)).getD s.exs.base :=
  rebaseReaders_read (fun t => t.exs.base) (fun c _ => countOf s.fiu.pulses c)
    (fun _ _ _ ht => ht ▸ rebase_export) fun _ _ _ => rfl

theorem rebaseReaders_meters (m : Fin 16) : (rebaseReaders old[ch] ch s).hmu.meters[m] =
    ((gainedChannel old s.fiu.pulses ch (.heatFlow m)).map fun c =>
      freshMeter s.fiu.pulses (some c) s.hmu.meters[m]).getD s.hmu.meters[m] :=
  rebaseReaders_read (fun t => t.hmu.meters[m]) (fun c d => freshMeter s.fiu.pulses (some c) d)
    (fun _ _ _ ht => ht ▸ rebase_meters m) fun _ _ _ => rfl

end

section
variable (v : Vector PulseChannel 24) (ch : Fin 24) (width : Width) (role : PulseRole) (scale limit : Nat)

/-- The channel that PULSE-SET writes (R20, step 1). -/
theorem pulseSetTo_self : (pulseSetTo v ch width role scale limit)[ch] =
    { width := width, role := role, scale := scale, limit := limit,
      counter := if ch.1 % 2 = 0 ∧ width ≠ v[ch].width then 0 else v[ch].counter } := by
  unfold pulseSetTo
  dsimp only
  split
  · rw [put_getElem_ne _ _ (next_channel_ne ch), put_getElem_self]
  · exact put_getElem_self ..

variable {v ch width}

theorem pulseSetTo_upper (changed : ch.1 % 2 = 0 ∧ width ≠ v[ch].width) :
    (pulseSetTo v ch width role scale limit)[ch + 1] = { v[ch + 1] with counter := 0 } := by
  unfold pulseSetTo
  rw [if_pos changed, put_getElem_self]

theorem pulseSetTo_others {c : Fin 24} (hc : c ≠ ch)
    (hu : ¬ ((ch.1 % 2 = 0 ∧ width ≠ v[ch].width) ∧ c = ch + 1)) :
    (pulseSetTo v ch width role scale limit)[c] = v[c] := by
  unfold pulseSetTo
  split
  · next changed =>
    rw [put_getElem_ne _ _ fun h => hu ⟨changed, h.symm⟩, put_getElem_ne _ _ hc.symm]
  · exact put_getElem_ne _ _ hc.symm

end

theorem parsePulseSet_range {p f} (h : parsePulseSet p = some f) : f.scale < 65536 ∧ f.limit < 16777216 := by
  simp only [parsePulseSet, Option.bind_eq_bind, Option.bind_eq_some_iff, Prod.exists, u16_eq_some, u24_eq_some,
    ending_eq_some] at h
  obtain ⟨_, _, _, _, _, _, _, _, _, scale, _, ⟨hs, _⟩, limit, _, ⟨hl, _⟩, rfl, _⟩ := h
  exact ⟨hs, hl⟩

theorem widthOf_code (width : Width) : widthOf (match width with | .single => 0 | .cascade => 1) = some width := by
  cases width <;> rfl

/-- PULSE-SET in SETUP with permitted fields is carried out (R20). -/
theorem judgePulseSet_permitted {s : State} {f : PulseSetFields} {ch : Fin 24} {width : Width} {role : PulseRole}
    (mode : s.lkp.mode = .setup) (hch : f.channel = ch.1) (hw : widthOf f.width = some width)
    (even : width = .cascade → ch.1 % 2 = 0) (hr : f.role = pulseRoleCode role) (scale : 1 ≤ f.scale)
    (scaleHigh : f.scale < 65536) (limit : 1 ≤ f.limit) (single : width = .single → f.limit ≤ 65535)
    (limitHigh : f.limit < 16777216) :
    judgePulseSet f s = okWith [] (rebaseReaders s.fiu.pulses[ch] ch
      { s with fiu := { s.fiu with pulses := pulseSetTo s.fiu.pulses ch width role f.scale f.limit } }) := by
  have odd : ¬ (width = .cascade ∧ ch.1 % 2 = 1) := fun h => by have := even h.1; omega
  have bound : ¬ (f.limit < 1 ∨ (if width = .single then 65535 else 16777215) < f.limit) := by
    split
    · next h => have := single h; omega
    · omega
  unfold judgePulseSet
  rw [unlessRun_setup mode, hch, asFin_val, hw, hr, pulseRoleOf_code]
  dsimp only
  rw [if_neg odd, if_neg (by omega), if_neg bound]

/-- Settles O19: the two rebasing steps give each role that has gained a channel its count. -/
theorem pulseSetRebases : Obligations.PulseSetRebases := by
  unfold Obligations.PulseSetRebases
  intro s p f ch width role heard mode parsed hch hw even hr scale limit single v changed
  obtain ⟨scaleHigh, limitHigh⟩ := parsePulseSet_range parsed
  have judged := judgePulseSet_permitted mode hch (hw ▸ widthOf_code width) even hr scale scaleHigh limit single
    limitHigh
  rw [rebaseReaders_frame] at judged
  refine ⟨pulseSetTo v ch width role f.scale f.limit, _, _, _, _,
    answers_of_done (by decide) heard parsed judged rfl, pulseSetTo_self .., pulseSetTo_upper _ _ _,
    fun c hc hu => pulseSetTo_others _ _ _ hc hu, fun g => rebaseReaders_supply g, fun g => rebaseReaders_works g,
    rebaseReaders_export, fun m => rebaseReaders_meters m⟩

end Sys2Proof.Machine
end

section
/-!
Sample points: what POINT-SET writes, and how every tick ages every point (R30, R33).
-/
namespace Sys2Proof.Machine

/-! ## SAMPLE-HELD and SAMPLE-FAILED -/

theorem followSamples_eq (s : State) : followSamples s = { s with cnu := (followSamples s).cnu } := rfl

theorem followSamples_others (s : State) :
    OthersStand [condSampleHeld, condSampleFailed] s.cnu (followSamples s).cnu :=
  others_trans (followCond_others condSampleHeld _ _ _ s.cnu) (followCond_others condSampleFailed _ _ _ _)

/-! ## POINT-SET -/

/-- POINT-SET in SETUP with permitted fields is carried out (R30). -/
theorem judgePointSet_permitted {s : State} {f : PointSetFields} {sp : Fin 32} {role : PointRole}
    (mode : s.lkp.mode = .setup) (hsp : f.point = sp.1) (hr : f.role = pointRoleCode role)
    (hold : 1 ≤ f.holdAfter ∧ f.holdAfter ≤ 3600) (fail : f.holdAfter ≤ f.failAfter ∧ f.failAfter ≤ 7200) :
    judgePointSet f s =
      okWith [] (followSamples (setPoint sp (pointSetTo role f.holdAfter f.failAfter s.fiu.points[sp]) s)) := by
  unfold judgePointSet
  rw [unlessRun_setup mode, hsp, asFin_val, hr, pointRoleOf_code]
  dsimp only
  rw [if_neg (by omega), if_neg (by omega)]

/-! ## Ageing -/

/-- A point one tick older, as R33 words it. -/
theorem agePoint_eq {p : SamplePoint} (h : p.quality ≠ .empty) : agePoint p =
    { p with
      age := min (p.age + 1) 65535
      quality :=
        if (p.quality = .good ∨ p.quality = .held) ∧ p.failAfter ≤ min (p.age + 1) 65535 then .failed
        else if p.quality = .good ∧ p.holdAfter ≤ min (p.age + 1) 65535 then .held
        else p.quality } := by
  cases hq : p.quality with
  | empty => exact absurd hq h
  | good => simp [agePoint, hq]
  | held => simp [agePoint, hq]
  | failed => simp [agePoint, hq]

theorem agePoint_empty {p : SamplePoint} (h : p.quality = .empty) : agePoint p = p := by simp [agePoint, h]

/-- What the field inputs are after every point has aged by one tick (R33). -/
def agedFields (u : Fiu) : Fiu := { u with points := each u.points fun _ p => agePoint p }

theorem agePoints_fiu (s : State) : (agePoints s).fiu = agedFields s.fiu := rfl

theorem countDownQueue_fiu (n : Nat) (s : State) : (countDownQueue n s).fiu = s.fiu := by
  obtain ⟨_, _, _, _, h⟩ := retires_countDownQueue n s
  rw [h]

theorem balanceAndExport_fiu (o b s) : (balanceAndExport o b s).fiu = s.fiu := by
  have balance : ∀ s, (balanceBoundary b s).fiu = s.fiu := fun s => by
    obtain ⟨_, _, _, _, h⟩ := balances_balanceBoundary b s
    rw [h]
  have slot : ∀ s, (exportBoundary b s).fiu = s.fiu := fun s => by
    obtain ⟨_, _, _, _, h⟩ := exports_exportBoundary b s
    rw [h]
  unfold balanceAndExport
  split
  · rw [balance, slot]
  · rw [slot, balance]

/-- No other part of a step boundary reaches the field inputs (R5). -/
theorem takeBoundary_fiu (o s) : (takeBoundary o s).fiu = s.fiu := by
  have timers : ∀ s, (stepStart s).fiu = s.fiu := fun s => by
    obtain ⟨_, _, _, _, h⟩ := expires_stepStart s
    rw [h]
  have meters : ∀ b s, (meterBoundaries b s).fiu = s.fiu := fun b s => by
    obtain ⟨_, _, _, _, h⟩ := retires_meterBoundaries b s
    rw [h]
  unfold takeBoundary timersAndBlocks
  dsimp only
  rw [meters]
  split
  · rw [balanceAndExport_fiu, timers]
  · rw [timers, balanceAndExport_fiu]

/-- Every tick ages the points once, in whatever order its parts come (R3, R5, R33). -/
theorem tick_fiu (o : TickOrder) (s : State) : (tick o s).fiu = agedFields s.fiu := by
  unfold tick
  split
  · obtain ⟨fiuFirst, hmuFirst, _, _⟩ := o
    cases fiuFirst <;> cases hmuFirst <;>
      simp [boundaryTick, agePoints_fiu, countDownQueue_fiu, takeBoundary_fiu]
  · unfold plainTick
    dsimp only
    rw [countDownQueue_fiu, agePoints_fiu]

theorem tick_point (o : TickOrder) (s : State) (sp : Fin 32) :
    (tick o s).fiu.points[sp] = agePoint s.fiu.points[sp] := by
  rw [tick_fiu]
  exact each_getElem ..

/-- Settles O21: POINT-SET by its checks, the tick by its one ageing of the points. -/
theorem pointsKept : Obligations.PointsKept := by
  unfold Obligations.PointsKept
  refine ⟨fun s p f sp role heard mode parsed hsp hr low high least most => ?_, fun s o => ⟨tick o s, rfl, ?_, ?_⟩⟩
  · have judged := judgePointSet_permitted mode hsp hr ⟨low, high⟩ ⟨least, most⟩
    rw [followSamples_eq] at judged
    exact ⟨_, _, answers_of_done (by decide) heard parsed judged rfl, rfl, followSamples_others _⟩
  · intro sp
    refine ⟨fun h => ?_, fun h => ?_⟩
    · rw [tick_point, agePoint_empty h]
    · rw [tick_point, agePoint_eq h]
  · intro sp
    rw [tick_point]
    rfl

end Sys2Proof.Machine
end

section
/-!
The sensor port: start bytes, records broken and complete, and the notice that a GOOD record gives (R28, R29, R31, R32,
R135).
-/
namespace Sys2Proof.Machine

/-! ## Bytes of a record -/

section
variable {s : State} {l bytes : List Byte}

theorem setSensor_eq {r : Receiver} (h : s.fiu.sensor = r) : setSensor r s = s := by subst h; rfl

@[simp] theorem setSensor_setSensor (q r : Receiver) (s : State) : setSensor q (setSensor r s) = setSensor q s := rfl

theorem sensorByte_start : sensorByte (setSensor .hunting s) 0x5A = setSensor (.collecting []) s := rfl

theorem sensorByte_noise {b : Byte} (h : b ≠ 0x5A) : sensorByte (setSensor .hunting s) b = setSensor .hunting s := by
  unfold sensorByte
  exact if_neg h

theorem sensorByte_collects (h : l.length < 4) (b : Byte) :
    sensorByte (setSensor (.collecting l) s) b = setSensor (.collecting (l ++ [b])) s := by
  unfold sensorByte
  exact if_pos h

theorem sensorByte_completes (h : l.length = 4) (b : Byte) :
    sensorByte (setSensor (.collecting l) s) b = judgeRecord (l ++ [b]) (setSensor .hunting s) := by
  unfold sensorByte
  exact if_neg (by omega)

/-- Bytes that do not complete a record are collected (R28). -/
theorem sensorBytes_collects (h : l.length + bytes.length ≤ 4) :
    bytes.foldl sensorByte (setSensor (.collecting l) s) = setSensor (.collecting (l ++ bytes)) s := by
  induction bytes generalizing l with
  | nil => rw [List.append_nil]; rfl
  | cons b bytes ih =>
    rw [List.length_cons] at h
    rw [List.foldl_cons, sensorByte_collects (by omega), ih (by rw [List.length_append, List.length_singleton]; omega),
      List.append_assoc]
    rfl

/-- A record of five bytes is judged once, where its last byte comes (R28, R29). -/
theorem sensorBytes_completes {b : Byte} (h : l.length = 4) :
    (l ++ [b]).foldl sensorByte (setSensor (.collecting []) s) = judgeRecord (l ++ [b]) (setSensor .hunting s) := by
  rw [List.foldl_append, sensorBytes_collects (by rw [h]; decide), List.nil_append, List.foldl_cons,
    sensorByte_completes h]
  rfl

theorem execSensorRecord_hunting (h : s.fiu.sensor = .hunting ∨ s.fiu.sensor = .collecting []) :
    execSensorRecord bytes s = .next (bytes.foldl sensorByte (setSensor (.collecting []) s)) := by
  unfold execSensorRecord
  obtain h | h := h
  · rw [h]
  · rw [setSensor_eq h, h]

/-- A record of five bytes, with its start byte or behind it, is judged (R29; log entry 8). -/
theorem execSensorRecord_judged {b : Byte} (h : s.fiu.sensor = .hunting ∨ s.fiu.sensor = .collecting [])
    (hl : l.length = 4) : execSensorRecord (l ++ [b]) s = .next (judgeRecord (l ++ [b]) (setSensor .hunting s)) := by
  rw [execSensorRecord_hunting h, sensorBytes_completes hl]

theorem breakRecord_collecting : breakRecord (setSensor (.collecting l) s) =
    (setSensor .hunting s).raiseHere condSensorFrame (l.head?.elim 255 BitVec.toNat) := rfl

theorem breakRecord_hunting (h : s.fiu.sensor = .hunting) : breakRecord s = s := by
  unfold breakRecord
  rw [h]

end

/-! ## The notice -/

section
variable {q : List RetireEntry} {s : State}

theorem finishPass_heldBack {w : List (Fin 16)} (h : HeldBack w q) : finishPass false q w s = (q, s) := by
  induction q generalizing w with
  | nil => rfl
  | cons e q ih =>
    cases e with
    | marker p => simp only [finishPass, ih (w := w) h]
    | reading r =>
      cases hr : r.finished with
      | some f =>
        have tail := (heldBack_finished (e := .reading r) (by simp [isWaiting, hr])).1 h
        simp only [finishPass, hr, Option.isSome_some, if_true, ih tail]
      | none =>
        obtain ⟨held, tail⟩ := (heldBack_waiting hr).1 h
        have holds : (r.ready && !w.contains r.meter) = false := by
          cases hready : r.ready with
          | false => rfl
          | true => simpa using held hready
        simp only [finishPass, hr, Option.isSome_none, Bool.false_or, holds, Bool.false_eq_true, if_false, ih tail]

theorem retireRun_waiting (h : ∀ e ∈ q.head?, isWaiting e = true) : retireRun q s = setQueue q s := by
  match q with
  | [] => rfl
  | .marker p :: q => exact absurd (h _ rfl) (by simp [isWaiting])
  | .reading r :: q =>
    have hr : r.finished = none := by simpa [isWaiting] using h _ rfl
    unfold retireRun
    rw [hr]

/-- In a settled queue nothing finishes and nothing retires (R137, R139). -/
theorem settleQueue_settled (h : QueueSettled s.hmu.queue) : settleQueue s = s := by
  obtain ⟨head, held⟩ := queueSettled_iff.1 h
  unfold settleQueue
  rw [finishPass_heldBack held]
  exact retireRun_waiting head

/-- A notice that reaches no USED meter changes nothing (R135). -/
theorem freshNotice_unused {role : PointRole} (h : noticeReaches role s.hmu.meters = false) :
    freshNotice role s = s := by
  unfold freshNotice
  rw [h]
  rfl

/-- A notice by which no reading finishes sets the fresh marks alone (R135). -/
theorem freshNotice_settled {role : PointRole} (h : noticeReaches role s.hmu.meters = true)
    (settled : QueueSettled (mapReadings (markFresh role) s.hmu.queue)) :
    freshNotice role s = setQueue (mapReadings (markFresh role) s.hmu.queue) s := by
  unfold freshNotice
  rw [if_pos h, settleQueue_settled settled]

theorem noticeReaches_unused {role : PointRole} {v : Vector Meter 16}
    (h : ∀ m : Fin 16, role = .supplyTemp m ∨ role = .returnTemp m → v[m].used = false) :
    noticeReaches role v = false := by
  cases role with
  | supplyTemp m => exact h m (.inl rfl)
  | returnTemp m => exact h m (.inr rfl)
  | _ => rfl

theorem noticeReaches_used {role : PointRole} {v : Vector Meter 16} {m : Fin 16}
    (hr : role = .supplyTemp m ∨ role = .returnTemp m) (h : v[m].used = true) : noticeReaches role v = true := by
  obtain rfl | rfl := hr <;> exact h

/-- The fresh marks of a notice, as R135 words them. -/
theorem markFresh_eq {role : PointRole} {m : Fin 16} (h : role = .supplyTemp m ∨ role = .returnTemp m) (r : Reading) :
    markFresh role r =
      if r.finished = none ∧ r.meter = m then
        { r with
          supplyFresh := r.supplyFresh || decide (role = .supplyTemp m)
          returnFresh := r.returnFresh || decide (role = .returnTemp m) }
      else r := by
  cases hf : r.finished with
  | some f => simp [markFresh, hf]
  | none =>
    obtain rfl | rfl := h <;> simp [markFresh, hf, eq_comm]

end

/-! ## A complete record -/

section
variable {s : State} {a hi lo status crc : Byte}

/-- A record that fails a test of R29 raises SENSOR-FRAME with its POINT byte. -/
theorem judgeRecord_bad
    (h : crc8 [a, hi, lo, status] ≠ crc ∨ 32 ≤ a.toNat ∨ (status ≠ 0x00 ∧ status ≠ 0x01)) :
    judgeRecord [a, hi, lo, status, crc] s = s.raiseHere condSensorFrame a.toNat := by
  unfold judgeRecord
  dsimp only
  by_cases crcWrong : crc8 [a, hi, lo, status] ≠ crc
  · exact if_pos crcWrong
  rw [if_neg crcWrong]
  have h := h.resolve_left crcWrong
  by_cases beyond : 32 ≤ a.toNat
  · have none : asFin 32 a.toNat = none := dif_neg (by omega)
    rw [none]
  · obtain ⟨notGood, notBad⟩ := h.resolve_left beyond
    have some : asFin 32 a.toNat = some ⟨a.toNat, by omega⟩ := dif_pos (by omega)
    rw [some]
    dsimp only
    rw [if_neg notGood, if_neg notBad]

theorem judgeRecord_passed {sp : Fin 32} (hsp : a.toNat = sp.1) (hcrc : crc8 [a, hi, lo, status] = crc) :
    judgeRecord [a, hi, lo, status, crc] s =
      if status = 0x00 then takeGood sp (recordValue hi lo) s
      else if status = 0x01 then takeBad sp s
      else s.raiseHere condSensorFrame a.toNat := by
  unfold judgeRecord
  dsimp only
  rw [if_neg (not_not.2 hcrc), hsp, asFin_val]

theorem recordValue_range (hi lo : Byte) : -32768 ≤ recordValue hi lo ∧ recordValue hi lo ≤ 32767 := by
  have low := BitVec.le_toInt (hi ++ lo)
  have high := BitVec.toInt_le (x := hi ++ lo)
  exact ⟨by simpa [recordValue] using low, by simpa [recordValue] using high⟩

/-- The clamped value of a record, role by role (Table 2-4). -/
theorem clampRole_record (role : PointRole) (hi lo : Byte) : clampRole role (recordValue hi lo) =
    match role with
    | .unassigned => recordValue hi lo
    | .holderLevel _ => max 0 (min 10000 (recordValue hi lo))
    | .calorific _ => max 1 (min 32767 (recordValue hi lo))
    | .supplyTemp _ => max (-5000) (min 20000 (recordValue hi lo))
    | .returnTemp _ => max (-5000) (min 20000 (recordValue hi lo)) := by
  cases role with
  | unassigned =>
    obtain ⟨low, high⟩ := recordValue_range hi lo
    simp only [clampRole, roleRange]
    omega
  | _ => rfl

end

/-! ## What the port receives -/

section
variable {s : State} {bytes : List Byte}

/-- A start byte where the port is HUNTING, and where it is COLLECTING (R28). -/
theorem startByte_received (s : State) :
    (s.fiu.sensor = .hunting → exec .sensorStartByte s =
      .next { s with fiu := { s.fiu with sensor := .collecting [] } }) ∧
    ∀ l : List Byte, s.fiu.sensor = .collecting l →
      (l.length < 4 → exec .sensorStartByte s =
        .next { s with fiu := { s.fiu with sensor := .collecting (l ++ [0x5A]) } }) ∧
      (l.length = 4 → exec .sensorStartByte s =
        exec (.sensorRecord (l ++ [0x5A])) { s with fiu := { s.fiu with sensor := .hunting } }) := by
  have received : exec .sensorStartByte s = .next (sensorByte s 0x5A) := rfl
  refine ⟨fun h => ?_, fun l h => ⟨fun short => ?_, fun full => ?_⟩⟩
  · rw [received, ← setSensor_eq h, sensorByte_start]
    rfl
  · rw [received, ← setSensor_eq h, sensorByte_collects short]
    rfl
  · rw [received, ← setSensor_eq h, sensorByte_completes full]
    exact (execSensorRecord_judged (s := setSensor .hunting s) (.inl rfl) full).symm

/-- A record broken while COLLECTING, with the byte that ends a gap (R28, R29). -/
theorem broken_received {l : List Byte} (cause : SensorBreak) (h : s.fiu.sensor = .collecting l)
    (short : l.length + bytes.length ≤ 4) : ∃ d : Cnu,
      exec (.sensorRecordBroken bytes cause) s =
        .next { s with
          fiu := { s.fiu with sensor := if cause = .gap 0x5A true then .collecting [] else .hunting }
          cnu := d } ∧
      RaisedOnce condSensorFrame (((l ++ bytes).head?).elim 255 BitVec.toNat) s.sck.pos s.cnu d := by
  have broken : breakRecord (bytes.foldl sensorByte s) =
      (setSensor .hunting s).raiseHere condSensorFrame ((l ++ bytes).head?.elim 255 BitVec.toNat) := by
    rw [← setSensor_eq h, sensorBytes_collects short, breakRecord_collecting]
    rfl
  refine ⟨_, ?_, raisedOnce_raiseCond ..⟩
  show execSensorRecordBroken bytes cause s = _
  unfold execSensorRecordBroken
  rw [broken]
  cases cause with
  | stop => rfl
  | gap b stopBit =>
    cases stopBit with
    | false => rw [if_neg (by simp)]; rfl
    | true =>
      by_cases hb : b = 0x5A
      · subst hb; rfl
      · rw [if_neg (by simpa using hb)]
        exact congrArg Host.Outcome.next
          (sensorByte_noise (s := (setSensor .hunting s).raiseHere condSensorFrame _) hb)

variable {a hi lo status crc : Byte} (port : s.fiu.sensor = .hunting ∨ s.fiu.sensor = .collecting [])
include port

theorem record_judged : exec (.sensorRecord [a, hi, lo, status, crc]) s =
    .next (judgeRecord [a, hi, lo, status, crc] (setSensor .hunting s)) :=
  execSensorRecord_judged (l := [a, hi, lo, status]) port rfl

theorem record_failing
    (h : crc8 [a, hi, lo, status] ≠ crc ∨ 32 ≤ a.toNat ∨ (status ≠ 0x00 ∧ status ≠ 0x01)) : ∃ d : Cnu,
      exec (.sensorRecord [a, hi, lo, status, crc]) s =
        .next { s with fiu := { s.fiu with sensor := .hunting }, cnu := d } ∧
      RaisedOnce condSensorFrame a.toNat s.sck.pos s.cnu d := by
  rw [record_judged port, judgeRecord_bad h]
  exact ⟨_, rfl, raisedOnce_raiseCond ..⟩

theorem record_bad {sp : Fin 32} (hsp : a.toNat = sp.1) (hcrc : crc8 [a, hi, lo, 0x01] = crc) : ∃ d : Cnu,
    exec (.sensorRecord [a, hi, lo, 0x01, crc]) s =
      .next { s with
        fiu := { s.fiu with
          sensor := .hunting, points := put s.fiu.points sp { s.fiu.points[sp] with quality := .failed } }
        cnu := d } ∧
    OthersStand [condSampleHeld, condSampleFailed] s.cnu d := by
  rw [record_judged port, judgeRecord_passed hsp hcrc, if_neg (by decide), if_pos rfl]
  exact ⟨_, rfl, followSamples_others (setPoint sp { s.fiu.points[sp] with quality := .failed } (setSensor .hunting s))⟩

end

/-- The state that a GOOD record leaves before its notice (R31). -/
def goodTaken (sp : Fin 32) (value : Int) (s : State) : State :=
  followSamples (setPoint sp
    { s.fiu.points[sp] with value := clampRole s.fiu.points[sp].role value, age := 0, quality := .good }
    (setSensor .hunting s))

theorem takeGood_eq (sp : Fin 32) (value : Int) (s : State) : takeGood sp value (setSensor .hunting s) =
    freshNotice s.fiu.points[sp].role (goodTaken sp value s) := rfl

/-- Settles O22: bytes by the port's state, records by the tests of R29, GOOD ones with their notice. -/
theorem sensorPortReceives : Obligations.SensorPortReceives := by
  unfold Obligations.SensorPortReceives
  refine ⟨fun s => ?_, fun s a hi lo status crc port => ⟨record_failing port, fun sp hsp hcrc => ⟨?_, ?_⟩⟩⟩
  · obtain ⟨start, collecting⟩ := startByte_received s
    refine ⟨start, collecting, fun l bytes cause => broken_received cause, fun h => ?_⟩
    show Host.Outcome.next (breakRecord s) = .next s
    rw [breakRecord_hunting h]
  · rintro rfl
    exact record_bad port hsp hcrc
  · rintro rfl
    have judged := record_judged (hi := hi) (lo := lo) (status := 0x00) (crc := crc) (a := a) port
    rw [judgeRecord_passed hsp hcrc, if_pos rfl, takeGood_eq] at judged
    have others : OthersStand [condSampleHeld, condSampleFailed] s.cnu (goodTaken sp (recordValue hi lo) s).cnu :=
      followSamples_others (setPoint sp _ (setSensor .hunting s))
    refine ⟨_, judged, ?_⟩
    generalize hrole : s.fiu.points[sp].role = role
    have written : (goodTaken sp (recordValue hi lo) s).fiu = { s.fiu with
        sensor := .hunting
        points := put s.fiu.points sp { s.fiu.points[sp] with
          value := clampRole role (recordValue hi lo), age := 0, quality := .good } } := by rw [← hrole]; rfl
    rw [clampRole_record] at written
    refine ⟨?_, ?_, ?_, ?_, ?_, ?_, ?_, ?_, ?_⟩
    case refine_8 =>
      intro unused
      rw [freshNotice_unused (s := goodTaken sp (recordValue hi lo) s) (noticeReaches_unused unused)]
      exact ⟨rfl, rfl, others⟩
    case refine_9 =>
      intro m temperature used q settled
      have marked : mapReadings (markFresh role) (goodTaken sp (recordValue hi lo) s).hmu.queue = q := by
        refine List.map_congr_left fun e _ => ?_
        cases e with
        | reading r => exact congrArg RetireEntry.reading (markFresh_eq temperature r)
        | marker k => rfl
      have reaches : noticeReaches role (goodTaken sp (recordValue hi lo) s).hmu.meters = true :=
        noticeReaches_used temperature used
      rw [freshNotice_settled reaches (by rw [marked]; exact settled), marked]
      exact ⟨rfl, rfl, others⟩
    all_goals
      obtain ⟨_, _, _, _, kept⟩ := retires_freshNotice role (goodTaken sp (recordValue hi lo) s)
      rw [kept]
    · exact written
    all_goals rfl

end Sys2Proof.Machine
end

section
/-!
FLARING stays not active wherever no allocation sets it: what the export, the capture units and the retire queue do to
the conditions (R70).
-/
namespace Sys2Proof.Machine

/-- FLARING, where it is not active, stays so. -/
structure Unflared (s t : State) : Prop where
  stays : s.cnu.records[condFlaring].active = false → t.cnu.records[condFlaring].active = false

theorem Unflared.same {s t : State} (h : t.cnu = s.cnu) : Unflared s t := ⟨fun k => by rw [h]; exact k⟩
theorem Unflared.refl (s : State) : Unflared s s := .same rfl
theorem Unflared.trans {s t u : State} (h : Unflared s t) (k : Unflared t u) : Unflared s u :=
  ⟨fun quiet => k.stays (h.stays quiet)⟩

/-- An operation leaves FLARING not active whatever it starts from beside the conditions. -/
theorem Unflared.after {s t u : State} (k : Unflared t u) (h : t.cnu = s.cnu) : Unflared s u := .trans (.same h) k

theorem Unflared.of_others {ns : List (Fin 32)} {s t : State} (h : OthersStand ns s.cnu t.cnu) (hn : condFlaring ∉ ns) :
    Unflared s t := ⟨fun quiet => by rw [h _ hn]; exact quiet⟩

theorem unflared_raise {n : Fin 32} (h : condFlaring ∉ [n]) (k t s) : Unflared s (State.raise n k t s) :=
  .of_others (raiseCond_others n k t s.cnu) h
theorem unflared_follow {n : Fin 32} (h : condFlaring ∉ [n]) (b k t s) : Unflared s (State.follow n b k t s) :=
  .of_others (followCond_others n b k t s.cnu) h

theorem unflared_foldl {α : Type} {f : State → α → State} (h : ∀ s x, Unflared s (f s x)) (l : List α) (s : State) :
    Unflared s (l.foldl f s) :=
  foldl_related .refl .trans h l s

/-! ## Capture units and the export -/

theorem unflared_triggerUnit (u c s) : Unflared s (triggerUnit u c s) :=
  .of_others (triggerUnit_others u c s) (by decide)

theorem unflared_triggerUnits (p c s) : Unflared s (triggerUnits p c s) :=
  unflared_foldl (fun s u => by
    split
    · exact unflared_triggerUnit ..
    · exact .refl s) ..

theorem unflared_changeExport (st k t s) : Unflared s (changeExport st k t s) := by
  unfold changeExport
  split
  · exact .refl s
  · dsimp only
    refine .trans ?_ (unflared_triggerUnits ..)
    refine .trans ?_ (unflared_follow (n := condPlanStarved) (by decide) ..)
    refine .trans ?_ (unflared_follow (n := condExportHalted) (by decide) ..)
    exact .after (unflared_follow (n := condExportPassive) (by decide) ..) rfl

theorem unflared_exportModeStop (s) : Unflared s (exportModeStop s) :=
  .trans (unflared_changeExport .idle 0 s.sck.pos s) (.same rfl)

/-! ## Sample points and the retire queue -/

theorem unflared_followSamples (s) : Unflared s (followSamples s) := .of_others (followSamples_others s) (by decide)

theorem unflared_finishReading (r s) : Unflared s (finishReading r s).2 := by
  unfold finishReading
  dsimp only
  split
  · exact .after (unflared_raise (n := condDeltaTReverse) (by decide) ..) rfl
  · exact .same rfl

theorem unflared_finishPass (force q w s) : Unflared s (finishPass force q w s).2 := by
  induction q generalizing w s with
  | nil => exact .refl _
  | cons e q ih =>
    cases e with
    | marker p => exact ih ..
    | reading r =>
      unfold finishPass
      repeat' split
      · exact ih ..
      · exact .trans (unflared_finishReading r s) (ih ..)
      · exact ih ..

theorem unflared_bookSuspense (r f s) : Unflared s (bookSuspense r f s) :=
  .after (unflared_raise (n := condUnassignedKey) (by decide) ..) rfl

theorem unflared_bookReading (r f s) : Unflared s (bookReading r f s) := by
  unfold bookReading
  dsimp only
  repeat' split
  · exact unflared_bookSuspense ..
  · exact .after (unflared_bookSuspense ..) rfl
  · exact .after (unflared_bookSuspense ..) rfl
  · exact .same rfl

theorem unflared_retireRun (q s) : Unflared s (retireRun q s) := by
  induction q generalizing s with
  | nil => exact .same rfl
  | cons e q ih =>
    cases e with
    | marker p => exact .after (ih _) rfl
    | reading r =>
      unfold retireRun
      split
      · exact .trans (unflared_bookReading ..) (ih _)
      · exact .same rfl

theorem unflared_settleQueue (s) : Unflared s (settleQueue s) := by
  unfold settleQueue
  exact .trans (unflared_finishPass false s.hmu.queue [] s) (unflared_retireRun ..)

theorem unflared_flushQueue (s) : Unflared s (flushQueue s) := by
  unfold flushQueue
  exact .trans (unflared_finishPass true s.hmu.queue [] s) (unflared_retireRun ..)


/-! ## What MODE-STOP leaves -/

theorem flushQueue_queue (s : State) : (flushQueue s).hmu.queue = [] := by
  unfold flushQueue
  dsimp only
  rw [retireRun_queue_eq, List.dropWhile_eq_nil_iff]
  intro e he
  rw [finishPass_force _ _ _ e he]
  rfl

/-- What stops before the flush of MODE-STOP (R172). -/
def blocksStopped (s : State) : State :=
  exportModeStop (allocationModeStop
    { s with sck := stopClock s.sck, dcu := { s.dcu with channels := stopAll s.dcu.channels } })

theorem modeStop_eq (s : State) : modeStop s = setMode .setup (flushQueue (blocksStopped s)) := rfl

theorem modeStop_unflared (s : State) : (modeStop s).cnu.records[condFlaring].active = false := by
  have stopped : (allocationModeStop { s with
      sck := stopClock s.sck, dcu := { s.dcu with channels := stopAll s.dcu.channels } }).cnu.records[condFlaring].active =
      false := followCond_active ..
  have kept : Unflared _ (flushQueue (blocksStopped s)) :=
    .trans (unflared_exportModeStop _) (unflared_flushQueue (blocksStopped s))
  exact kept.stays stopped

end Sys2Proof.Machine
end

section
/-!
The checks of MODE-START, each by what it looks for (R23, R30, R41, R60, R130).
-/
namespace Sys2Proof.Machine

/-! ## Searches -/

/-- A search over a table finds the first index that is bad. -/
theorem find_finRange_first {n : Nat} {p : Fin n → Bool} {bad : Fin n → Prop} (h : ∀ i, p i = true ↔ bad i) {k : Fin n}
    (first : bad k ∧ ∀ j < k, ¬ bad j) : (List.finRange n).find? p = some k :=
  find_finRange.2 ⟨(h k).2 first.1, fun j hj => Bool.eq_false_iff.2 fun hp => first.2 j hj ((h j).1 hp)⟩

theorem find_finRange_passed {n : Nat} {p : Fin n → Bool} {bad : Fin n → Prop} (h : ∀ i, p i = true ↔ bad i)
    (passed : ∀ k, ¬ bad k) : (List.finRange n).find? p = none :=
  find_finRange_none.2 fun i => Bool.eq_false_iff.2 fun hp => passed i ((h i).1 hp)

/-- A search in an ascending list finds its lowest index that satisfies `p`. -/
theorem find_ascending {n : Nat} {p : Fin n → Bool} {l : List (Fin n)} (sorted : l.Pairwise (· < ·)) {k : Fin n}
    (mem : k ∈ l) (hk : p k = true) (first : ∀ j ∈ l, j < k → p j = false) : l.find? p = some k := by
  induction l with
  | nil => exact absurd mem List.not_mem_nil
  | cons a l ih =>
    obtain ⟨below, sorted⟩ := List.pairwise_cons.1 sorted
    obtain rfl | mem := List.mem_cons.1 mem
    · exact List.find?_cons_of_pos hk
    · rw [List.find?_cons_of_neg (by rw [first a (List.mem_cons_self ..) (below k mem)]; decide)]
      exact ih sorted mem fun j hj => first j (List.mem_cons_of_mem _ hj)

/-! ## Roles -/

section
variable {v : Vector PulseChannel 24} {q : Vector SamplePoint 32} {d : Vector DriveChannel 16}

theorem holderOf_isSome {role : PulseRole} :
    (holderOf v role).isSome = true ↔ ∃ ch : Fin 24, isPulsePartner v ch = false ∧ v[ch].role = role := by
  unfold holderOf
  rw [find_finRange_isSome]
  simp only [Bool.and_eq_true, decide_eq_true_eq, Bool.not_eq_true', and_comm]

theorem pointOf_isSome {role : PointRole} : (pointOf q role).isSome = true ↔ ∃ sp : Fin 32, q[sp].role = role := by
  unfold pointOf
  rw [find_finRange_isSome]
  simp only [decide_eq_true_eq]

/-- A channel whose role a lower-numbered one holds (R23). -/
theorem duplicateChannel_iff (ch : Fin 24) :
    (decide (v[ch].role ≠ .unassigned) && !isPulsePartner v ch && decide (holderOf v v[ch].role ≠ some ch)) = true ↔
      v[ch].role ≠ .unassigned ∧ isPulsePartner v ch = false ∧
        ∃ c : Fin 24, c < ch ∧ isPulsePartner v c = false ∧ v[c].role = v[ch].role := by
  simp only [Bool.and_eq_true, decide_eq_true_eq, Bool.not_eq_true', and_assoc]
  refine and_congr_right fun _ => and_congr_right fun single => ?_
  rw [Ne, holderOf_eq_some, not_and]
  constructor
  · intro h
    obtain ⟨c, hc⟩ := not_forall.1 (h ⟨rfl, single⟩)
    obtain ⟨below, held⟩ := Classical.not_imp.1 hc
    obtain ⟨hr, hp⟩ := not_not.1 held
    exact ⟨c, below, hp, hr⟩
  · rintro ⟨c, below, hp, hr⟩ - h
    exact h c below ⟨hr, hp⟩

/-- A point whose role a lower-numbered one holds (R30). -/
theorem duplicatePoint_iff (sp : Fin 32) :
    (decide (q[sp].role ≠ .unassigned) && decide (pointOf q q[sp].role ≠ some sp)) = true ↔
      q[sp].role ≠ .unassigned ∧ ∃ c : Fin 32, c < sp ∧ q[c].role = q[sp].role := by
  simp only [Bool.and_eq_true, decide_eq_true_eq]
  refine and_congr_right fun _ => ?_
  rw [Ne, pointOf_eq_some, not_and]
  constructor
  · intro h
    obtain ⟨c, hc⟩ := not_forall.1 (h rfl)
    obtain ⟨below, held⟩ := Classical.not_imp.1 hc
    exact ⟨c, below, not_not.1 held⟩
  · rintro ⟨c, below, hr⟩ - h
    exact h c below hr

theorem sourceIs_iff {ch : Option (Fin 16)} {source : DriveSource} :
    sourceIs d ch source = true ↔ ∀ k ∈ ch, isMember d k = false ∧ d[k].source = source := by
  cases ch with
  | none => simp [sourceIs]
  | some k =>
    cases member : isMember d k <;> simp [sourceIs, channelSource, member]

end

/-! ## Grades, consumers and meters -/

section
variable {s : State}

theorem fails_iff {used passes : Bool} : (!(!used || passes)) = true ↔ used = true ∧ ¬ passes = true := by
  cases used <;> cases passes <;> decide

theorem gradePasses_iff (g : Fin 3) : (!gradePasses s g) = true ↔ s.gbu.grades[g].used = true ∧
    ¬ ((∃ ch : Fin 24, isPulsePartner s.fiu.pulses ch = false ∧ s.fiu.pulses[ch].role = .gasSupply g) ∧
      (∃ sp : Fin 32, s.fiu.points[sp].role = .holderLevel g) ∧
      ∀ k ∈ s.gbu.grades[g].flareChannel,
        isMember s.dcu.channels k = false ∧ s.dcu.channels[k].source = .flare g) := by
  unfold gradePasses
  rw [fails_iff, Bool.and_eq_true, Bool.and_eq_true, holderOf_isSome, pointOf_isSome, sourceIs_iff, and_assoc]

theorem consumerPasses_iff (n : Fin 12) : (!consumerPasses s n) = true ↔ s.gbu.consumers[n].defined = true ∧
    ¬ ((∀ k ∈ s.gbu.consumers[n].main,
        isMember s.dcu.channels k = false ∧ s.dcu.channels[k].source = .consumerMain n) ∧
      ∀ k ∈ s.gbu.consumers[n].supp,
        isMember s.dcu.channels k = false ∧ s.dcu.channels[k].source = .consumerSupp n) := by
  unfold consumerPasses
  rw [fails_iff, Bool.and_eq_true, sourceIs_iff, sourceIs_iff]

theorem meterPasses_iff (m : Fin 16) : (!meterPasses s m) = true ↔ s.hmu.meters[m].used = true ∧
    ¬ ((∃ sp : Fin 32, s.fiu.points[sp].role = .supplyTemp m) ∧ (∃ sp : Fin 32, s.fiu.points[sp].role = .returnTemp m) ∧
      ∃ ch : Fin 24, holderOf s.fiu.pulses (.heatFlow m) = some ch ∧
        s.hmu.meters[m].litres = s.fiu.pulses[ch].scale) := by
  unfold meterPasses
  rw [fails_iff, ← pointOf_isSome, ← pointOf_isSome]
  refine and_congr_right fun _ => not_congr ?_
  cases holderOf s.fiu.pulses (.heatFlow m) with
  | none => simp only [Bool.false_eq_true, reduceCtorEq, false_and, exists_false, and_false]
  | some ch => simp only [Bool.and_eq_true, decide_eq_true_eq, Option.some.injEq, exists_eq_left', and_assoc]

/-! ## Power consumers -/

theorem mem_powerConsumers {v : Vector Consumer 12} {n : Fin 12} : n ∈ powerConsumers v ↔ v[n].isPower = true := by
  simp [powerConsumers]

theorem powerConsumers_ascend (v : Vector Consumer 12) : (powerConsumers v).Pairwise (· < ·) :=
  (List.pairwise_lt_finRange 12).filter _

/-- The first POWER consumer heads the list of them. -/
theorem powerConsumers_first {v : Vector Consumer 12} {m : Fin 12} (power : v[m].isPower = true)
    (first : ∀ k < m, ¬ v[k].isPower = true) : ∃ rest, powerConsumers v = m :: rest := by
  have sorted := powerConsumers_ascend v
  have mem := mem_powerConsumers.2 power
  cases hl : powerConsumers v with
  | nil => rw [hl] at mem; exact absurd mem List.not_mem_nil
  | cons n rest =>
    rw [hl] at sorted mem
    obtain rfl | later := List.mem_cons.1 mem
    · exact ⟨rest, rfl⟩
    · have below := (List.pairwise_cons.1 sorted).1 m later
      exact absurd (mem_powerConsumers.1 (by rw [hl]; exact List.mem_cons_self ..)) (first n below)


theorem mem_rest {v : Vector Consumer 12} {m j : Fin 12} {rest : List (Fin 12)} (h : powerConsumers v = m :: rest) :
    j ∈ rest ↔ v[j].isPower = true ∧ m < j := by
  have sorted := powerConsumers_ascend v
  rw [h] at sorted
  constructor
  · intro later
    exact ⟨mem_powerConsumers.1 (by rw [h]; exact List.mem_cons_of_mem _ later), (List.pairwise_cons.1 sorted).1 j later⟩
  · rintro ⟨power, above⟩
    have mem := mem_powerConsumers.2 power
    rw [h] at mem
    obtain rfl | later := List.mem_cons.1 mem
    · exact absurd above (Fin.lt_irrefl j)
    · exact later

/-- Check 3 of R60: the first POWER consumer in another tier than the first of all. -/
theorem powerFailing_tier {m k : Fin 12} (head : s.gbu.consumers[m].isPower = true)
    (first : ∀ j < m, ¬ s.gbu.consumers[j].isPower = true) (power : s.gbu.consumers[k].isPower = true) (above : m < k)
    (differs : s.gbu.consumers[m].tier ≠ s.gbu.consumers[k].tier)
    (agree : ∀ j < k, s.gbu.consumers[j].isPower = true → m < j → s.gbu.consumers[m].tier = s.gbu.consumers[j].tier) :
    powerFailing s = some k := by
  obtain ⟨rest, h⟩ := powerConsumers_first head first
  have sorted := powerConsumers_ascend s.gbu.consumers
  rw [h] at sorted
  have found : (rest.find? fun j => decide (s.gbu.consumers[j].tier ≠ s.gbu.consumers[m].tier)) = some k := by
    refine find_ascending (List.pairwise_cons.1 sorted).2 ((mem_rest h).2 ⟨power, above⟩)
      (decide_eq_true differs.symm) fun j hj below => ?_
    obtain ⟨hp, hm⟩ := (mem_rest h).1 hj
    exact decide_eq_false (not_not.2 (agree j below hp hm).symm)
  unfold powerFailing
  simp only [h, found]

/-- Check 4 of R60, where every POWER consumer has the same tier. -/
theorem powerFailing_sameTier {m : Fin 12} (head : s.gbu.consumers[m].isPower = true)
    (first : ∀ j < m, ¬ s.gbu.consumers[j].isPower = true)
    (agree : ∀ j, s.gbu.consumers[j].isPower = true → m < j → s.gbu.consumers[m].tier = s.gbu.consumers[j].tier) :
    powerFailing s = if (holderOf s.fiu.pulses .exportEnergy).isSome then none else some m := by
  obtain ⟨rest, h⟩ := powerConsumers_first head first
  have none : (rest.find? fun j => decide (s.gbu.consumers[j].tier ≠ s.gbu.consumers[m].tier)) = none := by
    refine List.find?_eq_none.2 fun j hj => ?_
    obtain ⟨hp, hm⟩ := (mem_rest h).1 hj
    rw [decide_eq_true_eq]
    exact not_not.2 (agree j hp hm).symm
  unfold powerFailing
  simp only [h, none]

theorem powerFailing_noPower (h : ∀ n : Fin 12, ¬ s.gbu.consumers[n].isPower = true) : powerFailing s = none := by
  have empty : powerConsumers s.gbu.consumers = [] :=
    List.eq_nil_iff_forall_not_mem.2 fun n hn => h n (mem_powerConsumers.1 hn)
  unfold powerFailing
  dsimp only
  rw [empty]

/-- Where one consumer takes POWER, there is a first one. -/
theorem exists_firstPower {v : Vector Consumer 12} (h : ∃ n : Fin 12, v[n].isPower = true) :
    ∃ m : Fin 12, v[m].isPower = true ∧ ∀ k < m, ¬ v[k].isPower = true := by
  obtain ⟨m, hm⟩ := Option.isSome_iff_exists.1 (find_finRange_isSome (p := fun n => v[n].isPower) |>.2 h)
  obtain ⟨power, first⟩ := find_finRange.1 hm
  exact ⟨m, power, fun k hk => Bool.eq_false_iff.1 (first k hk)⟩

/-! ## The group that is reported -/

variable {ch : Fin 24} {sp : Fin 32} {g : Fin 3} {n : Fin 12}

theorem modeStartFailing_channel (h : duplicateChannel s.fiu.pulses = some ch) :
    modeStartFailing s = some (1, ch.1) := by
  unfold modeStartFailing
  rw [h]

theorem modeStartFailing_point (h : duplicateChannel s.fiu.pulses = none)
    (h2 : duplicatePoint s.fiu.points = some sp) : modeStartFailing s = some (2, sp.1) := by
  unfold modeStartFailing
  rw [h, h2]

theorem modeStartFailing_grade (h : duplicateChannel s.fiu.pulses = none) (h2 : duplicatePoint s.fiu.points = none)
    (h3 : ((List.finRange 3).find? fun g => !gradePasses s g) = some g) : modeStartFailing s = some (3, g.1) := by
  unfold modeStartFailing
  rw [h, h2, h3]

theorem modeStartFailing_consumer (h : duplicateChannel s.fiu.pulses = none)
    (h2 : duplicatePoint s.fiu.points = none) (h3 : ((List.finRange 3).find? fun g => !gradePasses s g) = none)
    (h4 : consumerFailing s = some n) : modeStartFailing s = some (4, n.1) := by
  unfold modeStartFailing
  rw [h, h2, h3, h4]

theorem modeStartFailing_meter (h : duplicateChannel s.fiu.pulses = none) (h2 : duplicatePoint s.fiu.points = none)
    (h3 : ((List.finRange 3).find? fun g => !gradePasses s g) = none) (h4 : consumerFailing s = none) :
    modeStartFailing s = ((List.finRange 16).find? fun m => !meterPasses s m).map fun m => (5, m.1) := by
  unfold modeStartFailing
  rw [h, h2, h3, h4]

theorem consumerFailing_each (h : ((List.finRange 12).find? fun n => !consumerPasses s n) = some n) :
    consumerFailing s = some n := by
  unfold consumerFailing
  rw [h]

theorem consumerFailing_power (h : ((List.finRange 12).find? fun n => !consumerPasses s n) = none) :
    consumerFailing s = powerFailing s := by
  unfold consumerFailing
  rw [h]

/-- A check that fails declines MODE-START with its group and its item (R171). -/
theorem modeStart_declined {group item : Nat} (heard : Heard s) (mode : s.lkp.mode = .setup)
    (h : modeStartFailing s = some (group, item)) :
    Declines (.modeStart []) s 0x83 .range [BitVec.ofNat 8 group, BitVec.ofNat 8 item] := by
  have judged : judgeModeStart () s = .refuse .range [BitVec.ofNat 8 group, BitVec.ofNat 8 item] := by
    unfold judgeModeStart
    rw [mode]
    dsimp only
    rw [h]
  exact declines_of_refuse (kind := 0x03) (parse := parseNone) (p := []) (by decide) heard (f := ()) rfl judged rfl

end
end Sys2Proof.Machine
end

section
/-!
What an accepted MODE-START starts and what MODE-STOP stops (R171, R172).
-/
namespace Sys2Proof.Machine

/-! ## The slot timers of the step that starts -/

section

/-- A timer that matches the step that starts expires then; every other timer, with its condition, stands (R11). -/
theorem stepStart_timer (s : State) (n : Fin 4) :
    if timerMatches s.sck.timers[n] s.sck.pos then
      (stepStart s).sck.timers[n] = expired s.sck.timers[n] ∧
        (stepStart s).cnu.records[condTimer n].active = true
    else (stepStart s).sck.timers[n] = s.sck.timers[n] ∧
      (stepStart s).cnu.records[condTimer n] = s.cnu.records[condTimer n] := by
  have below := passes_visits (timersBelow n) s
  have above := passes_visits (timersAbove n) (visitTimer ((timersBelow n).foldl visitTimer s) n)
  rw [← stepStart_split n s] at above
  have outside : n ∉ timersBelow n ∧ n ∉ timersAbove n := by
    rw [mem_timersBelow, mem_timersAbove]
    exact ⟨Nat.lt_irrefl _, Nat.lt_irrefl _⟩
  generalize (timersBelow n).foldl visitTimer s = a at below above
  have timer := below.timer n outside.1
  have condition := below.condition n outside.1
  obtain ⟨_, _, _, clock⟩ := below.clock
  rw [above.timer n outside.2, above.condition n outside.2]
  unfold visitTimer
  rw [timer, clock]
  dsimp only
  split
  · rw [expireTimer_timer, expireTimer_condition, raiseRecord_active, timer]
    exact ⟨rfl, rfl⟩
  · exact ⟨timer, condition⟩

end

/-! ## MODE-START -/

section
variable (s : State)

/-- The clock and the mode as MODE-START sets them, before the blocks start (R171). -/
def clockStarted : State := setMode .run { s with sck := { startStep s.sck with running := true } }

/-- The state in which the export starts. -/
def balanceStarted : State := balanceModeStart (stepStart (clockStarted s))

theorem modeStart_eq : modeStart s = exportModeStart (balanceStarted s) := rfl

theorem balanceStarted_frame : ∃ x u l d, balanceStarted s = balanceModeStart { clockStarted s with
    sck := { (clockStarted s).sck with timers := x, units := u, log := l }, cnu := d } := by
  obtain ⟨x, u, l, d, h⟩ := expires_stepStart (clockStarted s)
  exact ⟨x, u, l, d, by unfold balanceStarted; rw [h]⟩

/-- The EXS as MODE-START leaves it, but for the demand record: a COMPLETE NEXT is swapped in, and the slot in hand is
opened (R104, R110, R117). -/
def startedExs : Exs :=
  let e := { s.exs with slotInHand := s.sck.pos.slot, firstHalf := .notJudged }
  openSlot (if nextComplete s.exs then
    { e with
      current := e.nextTab, nextTab := Vector.replicate 96 0, written := Vector.replicate 96 false, grace := 0
      plan := .valid }
    else e)

theorem exportModeStart_eq :
    exportModeStart s = formRecord { s with exs := startedExs s, cnu := (exportModeStart s).cnu } := by
  have complete : nextComplete { s.exs with slotInHand := s.sck.pos.slot, firstHalf := .notJudged } =
      nextComplete s.exs := rfl
  unfold exportModeStart startedExs
  dsimp only
  rw [complete]
  split <;> rfl

theorem startedExs_complete (h : ∀ i : Fin 96, s.exs.written[i] = true) :
    (startedExs s).plan = .valid ∧ (startedExs s).current = s.exs.nextTab ∧
      (startedExs s).written = Vector.replicate 96 false := by
  unfold startedExs
  dsimp only
  rw [if_pos ((nextComplete_iff s.exs).2 h)]
  exact ⟨rfl, rfl, rfl⟩

theorem startedExs_incomplete (h : ∃ i : Fin 96, s.exs.written[i] = false) :
    (startedExs s).plan = s.exs.plan ∧ (startedExs s).current = s.exs.current ∧
      (startedExs s).nextTab = s.exs.nextTab ∧ (startedExs s).written = s.exs.written := by
  obtain ⟨i, hi⟩ := h
  unfold startedExs
  dsimp only
  rw [if_neg fun complete => by rw [(nextComplete_iff s.exs).1 complete i] at hi; cases hi]
  exact ⟨rfl, rfl, rfl, rfl⟩

theorem startedExs_slot : (startedExs s).slotInHand = s.sck.pos.slot ∧
    (startedExs s).acc = SlotAccumulators.zero ∧ (startedExs s).phase = s.exs.phase ∧
    (startedExs s).startState = s.exs.phase := by
  unfold startedExs openSlot
  split <;> exact ⟨rfl, rfl, rfl, rfl⟩

theorem besides_exportModeStart : Besides 0 s (exportModeStart s) := by
  unfold exportModeStart
  dsimp only
  refine Besides.trans (j := 0) (k := 0) ?_ (besides_exs _ _)
  refine Besides.trans (j := 0) (k := 0) ?_ (besides_exs _ _)
  split
  · exact Besides.trans (j := 0) (k := 0) (besides_exs s _)
      (Besides.trans (j := 0) (k := 0) (besides_exs _ _) (besides_changePlan ..))
  · exact besides_exs s _

/-- The timers and their conditions after MODE-START, as R11 words them at the start of a step. -/
theorem modeStart_timer (n : Fin 4) :
    if s.sck.timers[n].armed = true ∧
        (s.sck.timers[n].slot = none ∨ s.sck.timers[n].slot = some s.sck.pos.slot) ∧
        s.sck.timers[n].offset = s.sck.pos.step then
      (modeStart s).sck.timers[n] = { s.sck.timers[n] with armed := decide (s.sck.timers[n].again ≠ .once) } ∧
        (modeStart s).cnu.records[condTimer n].active = true
    else (modeStart s).sck.timers[n] = s.sck.timers[n] ∧
      (modeStart s).cnu.records[condTimer n] = s.cnu.records[condTimer n] := by
  have later := besides_exportModeStart (balanceStarted s)
  have timer := later.timer n List.not_mem_nil
  have condition := later.condition n List.not_mem_nil
  rw [← modeStart_eq] at timer condition
  rw [timer, condition]
  have visited := stepStart_timer (clockStarted s) n
  simp only [timerMatches_iff] at visited
  exact visited

theorem formRecord_record : (formRecord s).exs.record = formedRecord (formRecord s) := rfl

/-- The demand record after MODE-START is the one that its state forms (R112). -/
theorem modeStart_record : (modeStart s).exs.record = formedRecord (modeStart s) := by
  rw [modeStart_eq, exportModeStart_eq]
  exact formRecord_record _

/-- Everything that MODE-START leaves (R171). -/
theorem modeStart_frame : ∃ x u l r d, modeStart s = { s with
    lkp := { s.lkp with mode := .run }
    sck := { startStep s.sck with running := true, timers := x, units := u, log := l }
    gbu := { s.gbu with
      grades := each s.gbu.grades fun _ e => { e with placed := false }
      rhoPrev := none
      rhoNow := { tag := some s.sck.pos, value := s.gbu.rhoNow.value } }
    exs := { startedExs s with record := r }
    cnu := d } := by
  obtain ⟨x, u, l, d, h⟩ := balanceStarted_frame s
  refine ⟨x, u, l, (modeStart s).exs.record, (modeStart s).cnu, ?_⟩
  rw [modeStart_eq, exportModeStart_eq, h]
  rfl

end

/-! ## Every drive channel stopped -/

section
variable {v w : Vector DriveChannel 16} {ch k : Fin 16}

/-- A channel that stops reaches, of the others, a pin alone (R86). -/
theorem stopChannel_ne (h : k ≠ ch) : ∃ pin, (stopChannel v ch)[k] = { v[k] with pin := pin } := by
  unfold stopChannel
  split
  · exact ⟨_, rfl⟩
  · by_cases next : k = ch + 1
    · subst next
      exact ⟨_, putIdle_next ..⟩
    · exact ⟨_, putIdle_ne _ _ h next⟩

/-- A channel that is no member of the one that stops stands as it stood. -/
theorem stopChannel_free (h : k ≠ ch) (free : ch + 1 = k → v[ch].mode.takesPartner = false) :
    (stopChannel v ch)[k] = v[k] := by
  unfold stopChannel
  split
  · rfl
  · by_cases next : ch + 1 = k
    · have alone : (abandonPair v[ch]).mode.takesPartner = false := free next
      unfold putIdle
      dsimp only
      rw [if_neg (by rw [alone]; decide)]
      exact put_getElem_ne _ _ h.symm
    · exact putIdle_ne _ _ h (Ne.symm next)

theorem stopChannel_mode (v : Vector DriveChannel 16) (ch k : Fin 16) : (stopChannel v ch)[k].mode = v[k].mode := by
  by_cases h : k = ch
  · subst h
    by_cases stopped : v[k].state = .stopped
    · unfold stopChannel
      rw [if_pos stopped]
    · rw [stopChannel_self v k stopped]
      rfl
  · obtain ⟨pin, same⟩ := stopChannel_ne (v := v) h
    rw [same]

theorem stopChannels_mode (l : List (Fin 16)) (v : Vector DriveChannel 16) (k : Fin 16) :
    (l.foldl stopChannel v)[k].mode = v[k].mode := by
  induction l generalizing v with
  | nil => rfl
  | cons ch l ih => rw [List.foldl_cons, ih, stopChannel_mode]

theorem stopChannels_ne {l : List (Fin 16)} (h : k ∉ l) : ∃ pin, (l.foldl stopChannel v)[k] = { v[k] with pin := pin } := by
  induction l generalizing v with
  | nil => exact ⟨_, rfl⟩
  | cons ch l ih =>
    obtain ⟨here, later⟩ := not_or.1 (List.mem_cons.not.1 h)
    obtain ⟨pin, first⟩ := stopChannel_ne (v := v) here
    obtain ⟨pin', rest⟩ := ih (v := stopChannel v ch) later
    exact ⟨pin', by rw [List.foldl_cons, rest, first]⟩

theorem stopChannels_free {l : List (Fin 16)} (h : k ∉ l)
    (free : ∀ ch, ch + 1 = k → v[ch].mode.takesPartner = false) : (l.foldl stopChannel v)[k] = v[k] := by
  induction l generalizing v with
  | nil => rfl
  | cons ch l ih =>
    obtain ⟨here, later⟩ := not_or.1 (List.mem_cons.not.1 h)
    rw [List.foldl_cons, ih later fun c hc => by rw [stopChannel_mode]; exact free c hc,
      stopChannel_free here (free ch)]

/-- The channels are stopped one by one, each once (R172). -/
theorem stopAll_split (v : Vector DriveChannel 16) (k : Fin 16) : ∃ a b : List (Fin 16), k ∉ a ∧ k ∉ b ∧
    stopAll v = b.foldl stopChannel (stopChannel (a.foldl stopChannel v) k) := by
  obtain ⟨a, b, split⟩ := List.append_of_mem (List.mem_finRange k)
  have once := List.nodup_finRange 16
  rw [split, List.nodup_middle, List.nodup_cons, List.mem_append, not_or] at once
  refine ⟨a, b, once.1.1, once.1.2, ?_⟩
  unfold stopAll
  rw [split, List.foldl_append, List.foldl_cons]

theorem stopChannel_stopped (v : Vector DriveChannel 16) (ch : Fin 16) :
    (stopChannel v ch)[ch].state = .stopped ∧ (stopChannel v ch)[ch].est = v[ch].est := by
  by_cases stopped : v[ch].state = .stopped
  · unfold stopChannel
    rw [if_pos stopped]
    exact ⟨stopped, rfl⟩
  · rw [stopChannel_self v ch stopped]
    exact ⟨rfl, rfl⟩

/-- MODE-STOP leaves every channel STOPPED, and a pair its E (R86, R98). -/
theorem stopAll_stopped (v : Vector DriveChannel 16) (k : Fin 16) :
    (stopAll v)[k].state = .stopped ∧ (stopAll v)[k].est = v[k].est := by
  obtain ⟨a, b, ha, hb, split⟩ := stopAll_split v k
  obtain ⟨_, before⟩ := stopChannels_ne (v := v) ha
  obtain ⟨_, after⟩ := stopChannels_ne (v := stopChannel (a.foldl stopChannel v) k) hb
  obtain ⟨state, est⟩ := stopChannel_stopped (a.foldl stopChannel v) k
  rw [split, after]
  exact ⟨state, by rw [est, before]⟩

theorem evenPairs_of_pinsSound (sound : PinsSound v) : EvenPairs v := fun k takes => by
  rw [takesPartner_eq, Bool.or_eq_true, decide_eq_true_iff, decide_eq_true_iff] at takes
  by_contra odd
  obtain ⟨notCascade, notRaise⟩ := (sound k).1 (Nat.mod_two_ne_zero.1 odd)
  exact takes.elim notCascade notRaise

/-- A channel that is not stopped is no member, where the pins are sound (R79, R88). -/
theorem free_of_pinsSound (sound : PinsSound v) (h : v[k].state ≠ .stopped) (ch : Fin 16) (next : ch + 1 = k) :
    v[ch].mode.takesPartner = false := by
  by_contra takes
  have member := member_of_takesPartner (evenPairs_of_pinsSound sound) (Bool.eq_true_of_not_eq_false takes)
  rw [next] at member
  exact h ((sound k).2.1 member)

/-- A channel that MODE-STOP stops takes its idle level and its next active time (R86, R88). -/
theorem stopAll_pin (sound : PinsSound v) (h : v[k].state ≠ .stopped) :
    (stopAll v)[k].pin = v[k].idle ∧ (stopAll v)[k].active = v[k].staged := by
  have free := free_of_pinsSound sound h
  obtain ⟨a, b, ha, hb, split⟩ := stopAll_split v k
  have before := stopChannels_free ha free
  have after := stopChannels_free (v := stopChannel (a.foldl stopChannel v) k) hb fun ch next => by
    rw [stopChannel_mode, stopChannels_mode]
    exact free ch next
  rw [split, after, stopChannel_self _ k (by rw [before]; exact h), before]
  exact ⟨rfl, rfl⟩

end

end Sys2Proof.Machine
end

section
/-!
MODE-START and MODE-STOP (R171, R172): the checks with what they report, and what both leave.
-/
namespace Sys2Proof.Machine

section
variable (s : State)

/-! ## What MODE-STOP leaves -/

/-- The allocation as MODE-STOP finds it stopped: every Pc 0, FLARING not active (R74). -/
def allocationStopped : State :=
  allocationModeStop { s with sck := stopClock s.sck, dcu := { s.dcu with channels := stopAll s.dcu.channels } }

/-- The EXS as MODE-STOP leaves it, but for the demand record (R110). -/
def stoppedExs (e : Exs) : Exs :=
  { e with
    phase := .idle
    deviations := 0
    recoveries := 0
    stepItems := []
    acc := SlotAccumulators.zero }

theorem exportModeStop_export (s : State) :
    (exportModeStop s).exs = { stoppedExs s.exs with record := formedRecord (exportModeStop s) } := by
  have changed : ∃ k, (changeExport .idle 0 s.sck.pos s).exs = { s.exs with phase := .idle, recoveries := k } := by
    rw [changeExport_exs]
    split
    · next h => exact ⟨s.exs.recoveries, by rw [← h]⟩
    · exact ⟨_, rfl⟩
  obtain ⟨k, changed⟩ := changed
  have formed : (exportModeStop s).exs =
      { stoppedExs (changeExport .idle 0 s.sck.pos s).exs with
        phase := (changeExport .idle 0 s.sck.pos s).exs.phase, record := formedRecord (exportModeStop s) } := rfl
  rw [formed, changed]
  rfl

theorem blocksStopped_eq : blocksStopped s = exportModeStop (allocationStopped s) := rfl

/-- The demand record after MODE-STOP is the one that its state forms (R110, R112). -/
theorem modeStop_record : (modeStop s).exs.record = formedRecord (modeStop s) := by
  have form := exportModeStop_export (allocationStopped s)
  obtain ⟨_, _, _, _, flushed⟩ := retires_flushQueue (blocksStopped s)
  rw [modeStop_eq, flushed, blocksStopped_eq]
  exact congrArg Exs.record form

/-- Everything that MODE-STOP leaves (R172). -/
theorem modeStop_frame : ∃ u l r m a d, modeStop s = { s with
    lkp := { s.lkp with mode := .setup }
    sck := { stopClock s.sck with units := u, log := l }
    gbu := { s.gbu with consumers := each s.gbu.consumers fun _ c => { c with pc := 0 } }
    dcu := { s.dcu with channels := stopAll s.dcu.channels }
    exs := { stoppedExs s.exs with record := r }
    hmu := { s.hmu with meters := m, queue := [] }
    abu := a
    cnu := d } := by
  have form := exportModeStop_export (allocationStopped s)
  generalize formedRecord (exportModeStop (allocationStopped s)) = r at form
  obtain ⟨e, u, l, d, stopped⟩ := exports_exportModeStop (allocationStopped s)
  obtain ⟨m, q, a, d', flushed⟩ := retires_flushQueue (blocksStopped s)
  have empty : q = [] := by
    have queue := flushQueue_queue (blocksStopped s)
    rw [flushed] at queue
    exact queue
  refine ⟨u, l, r, m, a, d', ?_⟩
  rw [modeStop_eq, flushed, blocksStopped_eq, empty]
  rw [stopped] at form ⊢
  dsimp only at form
  rw [form]
  rfl

end

/-- MODE-STOP's clause of O9 (R172). -/
theorem modeStop_effects (s : State) (t : State) (ht : t = modeStop s) :
    t.lkp = { s.lkp with mode := .setup } ∧
    t.sck = { s.sck with
      running := false, ticks := 0, trim := 0, endCount := s.sck.stepS, units := t.sck.units, log := t.sck.log } ∧
    (∀ n : Fin 12, t.gbu.consumers[n] = { s.gbu.consumers[n] with pc := 0 }) ∧
    t.gbu = { s.gbu with consumers := t.gbu.consumers } ∧
    t.cnu.records[condFlaring].active = false ∧
    t.exs.phase = .idle ∧ t.exs.deviations = 0 ∧ t.exs.recoveries = 0 ∧ t.exs.record = formedRecord t ∧
    t.exs.plan = s.exs.plan ∧ t.exs.current = s.exs.current ∧ t.exs.nextTab = s.exs.nextTab ∧
    t.exs.curtail = s.exs.curtail ∧
    (∀ ch : Fin 16, t.dcu.channels[ch].state = .stopped ∧ t.dcu.channels[ch].est = s.dcu.channels[ch].est) ∧
    (PinsSound s.dcu.channels → ∀ ch : Fin 16, s.dcu.channels[ch].state ≠ .stopped →
      t.dcu.channels[ch].pin = s.dcu.channels[ch].idle ∧ t.dcu.channels[ch].active = s.dcu.channels[ch].staged) ∧
    t.hmu.queue = [] ∧ t.fiu = s.fiu ∧ t.pending = s.pending := by
  have unflared := modeStop_unflared s
  have record := modeStop_record s
  obtain ⟨u, l, r, m, a, d, frame⟩ := modeStop_frame s
  rw [← ht] at unflared record frame
  have consumers : t.gbu.consumers = each s.gbu.consumers fun _ c => { c with pc := 0 } := by rw [frame]
  have channels : t.dcu.channels = stopAll s.dcu.channels := by rw [frame]
  refine ⟨?_, ?_, fun n => ?_, ?_, unflared, ?_, ?_, ?_, record, ?_, ?_, ?_, ?_, fun ch => ?_, fun sound ch h => ?_,
    ?_, ?_, ?_⟩
  case refine_3 =>
    rw [consumers]
    exact each_getElem ..
  case refine_12 =>
    rw [channels]
    exact stopAll_stopped ..
  case refine_13 =>
    rw [channels]
    exact stopAll_pin sound h
  all_goals rw [frame]
  all_goals rfl

/-- MODE-START's effects (R171). -/
theorem modeStart_effects (s : State) (t : State) (ht : t = modeStart s) :
    t.lkp = { s.lkp with mode := .run } ∧
    t.sck = { s.sck with
      running := true, ticks := 0, phaseMs := 0, trim := 0, endCount := s.sck.stepS, timers := t.sck.timers,
      units := t.sck.units, log := t.sck.log } ∧
    (∀ n : Fin 4,
      if s.sck.timers[n].armed = true ∧
          (s.sck.timers[n].slot = none ∨ s.sck.timers[n].slot = some s.sck.pos.slot) ∧
          s.sck.timers[n].offset = s.sck.pos.step then
        t.sck.timers[n] = { s.sck.timers[n] with armed := decide (s.sck.timers[n].again ≠ .once) } ∧
        t.cnu.records[condTimer n].active = true
      else t.sck.timers[n] = s.sck.timers[n] ∧ t.cnu.records[condTimer n] = s.cnu.records[condTimer n]) ∧
    t.gbu = { s.gbu with
      grades := t.gbu.grades, rhoPrev := none
      rhoNow := { tag := some s.sck.pos, value := s.gbu.rhoNow.value } } ∧
    (∀ g : Fin 3, t.gbu.grades[g] = { s.gbu.grades[g] with placed := false }) ∧
    t.exs.slotInHand = s.sck.pos.slot ∧ t.exs.acc = SlotAccumulators.zero ∧ t.exs.phase = s.exs.phase ∧
    t.exs.startState = s.exs.phase ∧ t.exs.record = formedRecord t ∧
    ((∀ i : Fin 96, s.exs.written[i] = true) → t.exs.plan = .valid ∧ t.exs.current = s.exs.nextTab ∧
      t.exs.written = Vector.replicate 96 false) ∧
    ((∃ i : Fin 96, s.exs.written[i] = false) → t.exs.plan = s.exs.plan ∧ t.exs.current = s.exs.current ∧
      t.exs.nextTab = s.exs.nextTab ∧ t.exs.written = s.exs.written) ∧
    t.fiu = s.fiu ∧ t.dcu = s.dcu ∧ t.hmu = s.hmu ∧ t.abu = s.abu ∧ t.pending = s.pending := by
  have timers := modeStart_timer s
  have record := modeStart_record s
  obtain ⟨x, u, l, r, d, frame⟩ := modeStart_frame s
  rw [← ht] at timers record frame
  have grades : t.gbu.grades = each s.gbu.grades fun _ e => { e with placed := false } := by rw [frame]
  have exs : t.exs = { startedExs s with record := r } := by rw [frame]
  obtain ⟨slot, acc, phase, start⟩ := startedExs_slot s
  refine ⟨?_, ?_, timers, ?_, fun g => ?_, ?_, ?_, ?_, ?_, record, fun complete => ?_, fun incomplete => ?_, ?_, ?_, ?_,
    ?_, ?_⟩
  case refine_4 =>
    rw [grades]
    exact each_getElem ..
  case refine_5 => rw [exs]; exact slot
  case refine_6 => rw [exs]; exact acc
  case refine_7 => rw [exs]; exact phase
  case refine_8 => rw [exs]; exact start
  case refine_9 => rw [exs]; exact startedExs_complete s complete
  case refine_10 => rw [exs]; exact startedExs_incomplete s incomplete
  all_goals rw [frame]
  all_goals rfl

/-! ## The checks in their order -/

theorem judgeModeStart_passed {s : State} (mode : s.lkp.mode = .setup) (h : modeStartFailing s = none) :
    judgeModeStart () s = okWith [] (modeStart s) := by
  unfold judgeModeStart
  rw [mode]
  dsimp only
  rw [h]

theorem judgeModeStart_run {s : State} (mode : s.lkp.mode = .run) : judgeModeStart () s = refused .state := by
  unfold judgeModeStart
  rw [mode]

theorem judgeModeStop_run {s : State} (mode : s.lkp.mode = .run) : judgeModeStop () s = okWith [] (modeStop s) := by
  unfold judgeModeStop
  rw [mode]

theorem judgeModeStop_setup {s : State} (mode : s.lkp.mode = .setup) : judgeModeStop () s = refused .state := by
  unfold judgeModeStop
  rw [mode]

/-- Settles O9: each group by the search that reports it, the effects by what starts and what stops. -/
theorem modesChange : Obligations.ModesChange := by
  unfold Obligations.ModesChange
  intro s heard v q dup1 dup2 held read sourced bad3 cs power bad4 odd4 bad5 first declined pass1 pass2 pass3 passEach
    pass4
  have channels (pass : pass1) : duplicateChannel s.fiu.pulses = none := find_finRange_passed duplicateChannel_iff pass
  have points (pass : pass2) : duplicatePoint s.fiu.points = none :=
    find_finRange_passed duplicatePoint_iff pass.2
  have grades (pass : pass3) : ((List.finRange 3).find? fun g => !gradePasses s g) = none :=
    find_finRange_passed gradePasses_iff pass.2
  have consumers (pass : passEach) : ((List.finRange 12).find? fun n => !consumerPasses s n) = none :=
    find_finRange_passed consumerPasses_iff pass.2
  have tiers (same : ∀ m n, ¬ odd4 m n) {m : Fin 12} (hm : power m) (lowest : ∀ k < m, ¬ power k) (j : Fin 12)
      (hj : power j) (above : m < j) : cs[m].tier = cs[j].tier :=
    by_contra fun differs => same m j ⟨hm, hj, above, differs, lowest⟩
  have consumersPass (pass : pass4) : consumerFailing s = none := by
    obtain ⟨each, same, holds⟩ := pass
    rw [consumerFailing_power (consumers each)]
    by_cases any : ∃ n, power n
    · obtain ⟨m, hm, lowest⟩ := exists_firstPower any
      rw [powerFailing_sameTier hm lowest (tiers same hm lowest), if_pos (holderOf_isSome.2 (holds any))]
    · exact powerFailing_noPower fun n hn => any ⟨n, hn⟩
  refine ⟨fun run => ?_, fun setup => ?_, fun setup => ⟨fun k bad => ?_, fun k pass bad => ?_, fun k pass bad => ?_,
    fun k pass bad => ?_, fun m pass k bad => ?_, fun pass same unheld k bad => ?_, fun k pass bad => ?_,
    fun pass meters => ?_⟩, fun run => ?_⟩
  · exact declines_of_refuse (by decide) heard (f := ()) (parse := parseNone) (p := []) rfl (judgeModeStart_run run) rfl
  · exact declines_of_refuse (by decide) heard (f := ()) (parse := parseNone) (p := []) rfl (judgeModeStop_setup setup)
      rfl
  · exact modeStart_declined heard setup (modeStartFailing_channel (find_finRange_first duplicateChannel_iff bad))
  · exact modeStart_declined heard setup
      (modeStartFailing_point (channels pass) (find_finRange_first duplicatePoint_iff bad))
  · exact modeStart_declined heard setup
      (modeStartFailing_grade (channels pass.1) (points pass) (find_finRange_first gradePasses_iff bad))
  · exact modeStart_declined heard setup
      (modeStartFailing_consumer (channels pass.1.1) (points pass.1) (grades pass)
        (consumerFailing_each (find_finRange_first consumerPasses_iff bad)))
  · obtain ⟨⟨hm, hk, above, differs, lowest⟩, firstOdd⟩ := bad
    have failing : powerFailing s = some k := powerFailing_tier hm lowest hk above differs fun j below hj hmj =>
      by_contra fun odd => firstOdd j below ⟨hm, hj, hmj, odd, lowest⟩
    exact modeStart_declined heard setup
      (modeStartFailing_consumer (channels pass.1.1.1) (points pass.1.1) (grades pass.1)
        ((consumerFailing_power (consumers pass)).trans failing))
  · obtain ⟨hk, lowest⟩ := bad
    have failing : powerFailing s = some k := by
      rw [powerFailing_sameTier hk lowest (tiers same hk lowest), if_neg fun h => unheld (holderOf_isSome.1 h)]
    exact modeStart_declined heard setup
      (modeStartFailing_consumer (channels pass.1.1.1) (points pass.1.1) (grades pass.1)
        ((consumerFailing_power (consumers pass)).trans failing))
  · have failing := modeStartFailing_meter (channels pass.1.1.1.1) (points pass.1.1.1) (grades pass.1.1)
      (consumersPass pass)
    rw [find_finRange_first meterPasses_iff bad] at failing
    exact modeStart_declined heard setup failing
  · have passed := modeStartFailing_meter (channels pass.1.1.1.1) (points pass.1.1.1) (grades pass.1.1)
      (consumersPass pass)
    rw [find_finRange_passed meterPasses_iff meters] at passed
    exact ⟨modeStart s,
      answers_of_done (by decide) heard (f := ()) (parse := parseNone) (p := []) rfl (judgeModeStart_passed setup passed)
        rfl,
      modeStart_effects s _ rfl⟩
  · exact ⟨modeStop s,
      answers_of_done (by decide) heard (f := ()) (parse := parseNone) (p := []) rfl (judgeModeStop_run run) rfl,
      modeStop_effects s _ rfl⟩

end Sys2Proof.Machine
end

section
/-!
The ranges of the field inputs, the meter channels, CONFIRM_S and the prices (R18, R24, R30, R126, R129, R153).
-/
namespace Sys2Proof.Machine

/-- What holds of every entry, and of the one that replaces an entry, holds of every entry after. -/
theorem put_forall {α : Type} {n : Nat} {P : Fin n → α → Prop} {v : Vector α n} (h : ∀ i : Fin n, P i v[i]) {k : Fin n}
    {x : α} (hx : P k x) (i : Fin n) : P i (put v k x)[i] := by
  by_cases hi : k = i
  · subst hi
    rw [put_getElem_self]
    exact hx
  · rw [put_getElem_ne _ _ hi]
    exact h i

/-! ## Pulse channels -/

/-- A pulse channel in range, item by item (R18). -/
structure PulseSafe (ch : Fin 24) (c : PulseChannel) : Prop where
  even : c.width = .cascade → ch.1 % 2 = 0
  scaleLow : 1 ≤ c.scale
  scale : c.scale ≤ 65535
  limitLow : 1 ≤ c.limit
  limit : c.limit ≤ if c.width = .single then 65535 else 16777215
  counter : c.counter ≤ 65535

abbrev PulsesInRange (v : Vector PulseChannel 24) : Prop := ∀ ch : Fin 24, PulseSafe ch v[ch]

section
variable {v : Vector PulseChannel 24} {ch : Fin 24}

theorem pulseInRange_iff : PulseInRange v ch ↔ PulseSafe ch v[ch] := by
  constructor
  · rintro ⟨even, scaleLow, scale, limitLow, limit, counter⟩
    exact ⟨even, scaleLow, scale, limitLow, limit, counter⟩
  · rintro ⟨even, scaleLow, scale, limitLow, limit, counter⟩
    exact ⟨even, scaleLow, scale, limitLow, limit, counter⟩

theorem pulseSafe_countPulse {c : PulseChannel} (h : PulseSafe ch c) : PulseSafe ch (countPulse c) :=
  { h with counter := Nat.le_of_lt_succ (Nat.mod_lt _ (by decide)) }

theorem pulsesInRange_arrive (h : PulsesInRange v) (ch : Fin 24) : PulsesInRange (arrive v ch) := by
  unfold arrive
  split
  · exact h
  · dsimp only
    have counted : PulsesInRange (put v ch (countPulse v[ch])) :=
      put_forall (P := PulseSafe) h (pulseSafe_countPulse (h ch))
    split
    · exact put_forall (P := PulseSafe) counted (pulseSafe_countPulse (counted (ch + 1)))
    · exact counted

/-- A count has 32 bits (R18). -/
theorem countOf_le (h : PulsesInRange v) (ch : Fin 24) : countOf v ch ≤ 4294967295 := by
  have low := (h ch).counter
  have high := (h (ch + 1)).counter
  unfold countOf
  split <;> omega

theorem pulsesInRange_pulseSetTo (h : PulsesInRange v) {width : Width} {role : PulseRole} {scale limit : Nat}
    (even : width = .cascade → ch.1 % 2 = 0) (hs : 1 ≤ scale ∧ scale ≤ 65535)
    (hl : 1 ≤ limit ∧ limit ≤ if width = .single then 65535 else 16777215) :
    PulsesInRange (pulseSetTo v ch width role scale limit) := by
  have written : PulseSafe ch { v[ch] with width := width, role := role, scale := scale, limit := limit } :=
    ⟨even, hs.1, hs.2, hl.1, hl.2, (h ch).counter⟩
  have upper : PulseSafe (ch + 1) { v[ch + 1] with counter := 0 } := { h (ch + 1) with counter := Nat.zero_le _ }
  have cleared : PulseSafe ch
      { v[ch] with width := width, role := role, scale := scale, limit := limit, counter := 0 } :=
    { written with counter := Nat.zero_le _ }
  unfold pulseSetTo
  dsimp only
  split
  · exact put_forall (P := PulseSafe) (put_forall (P := PulseSafe) h cleared) upper
  · exact put_forall (P := PulseSafe) h written

end

/-! ## Sample points -/

/-- A sample point in range, item by item (R30, R31). -/
structure PointSafe (p : SamplePoint) : Prop where
  holdLow : 1 ≤ p.holdAfter
  hold : p.holdAfter ≤ 3600
  failLow : p.holdAfter ≤ p.failAfter
  fail : p.failAfter ≤ 7200
  age : p.age ≤ 65535
  value : p.quality = .good ∨ p.quality = .held → (roleRange p.role).1 ≤ p.value ∧ p.value ≤ (roleRange p.role).2

section
variable {p : SamplePoint}

theorem pointInRange_iff : PointInRange p ↔ PointSafe p := by
  constructor
  · rintro ⟨holdLow, hold, failLow, fail, age, value⟩
    exact ⟨holdLow, hold, failLow, fail, age, value⟩
  · rintro ⟨holdLow, hold, failLow, fail, age, value⟩
    exact ⟨holdLow, hold, failLow, fail, age, value⟩

theorem clampRole_range (role : PointRole) (z : Int) :
    (roleRange role).1 ≤ clampRole role z ∧ clampRole role z ≤ (roleRange role).2 := by
  cases role <;> simp only [clampRole, roleRange] <;> omega

theorem pointSafe_good (h : PointSafe p) (z : Int) :
    PointSafe { p with value := clampRole p.role z, age := 0, quality := .good } :=
  { h with age := Nat.zero_le _, value := fun _ => clampRole_range p.role z }

theorem pointSafe_failed (h : PointSafe p) : PointSafe { p with quality := .failed } := { h with value := nofun }

theorem pointSafe_agePoint (h : PointSafe p) : PointSafe (agePoint p) := by
  have age : min (p.age + 1) 65535 ≤ 65535 := Nat.min_le_right ..
  by_cases empty : p.quality = .empty
  · rw [agePoint_empty empty]
    exact h
  · rw [agePoint_eq empty]
    refine { h with age := age, value := fun readable => h.value ?_ }
    dsimp only at readable
    split at readable
    · exact absurd readable (by decide)
    split at readable
    · next due => exact .inl due.1
    · exact readable

theorem pointSafe_pointSetTo (h : PointSafe p) (role : PointRole) {hold fail : Nat} (hh : 1 ≤ hold ∧ hold ≤ 3600)
    (hf : hold ≤ fail ∧ fail ≤ 7200) : PointSafe (pointSetTo role hold fail p) := by
  unfold pointSetTo
  split
  · exact { h with holdLow := hh.1, hold := hh.2, failLow := hf.1, fail := hf.2 }
  · exact ⟨hh.1, hh.2, hf.1, hf.2, Nat.zero_le _, nofun⟩

end

/-! ## Event lines and the field inputs as a whole -/

abbrev LineSafe (l : EventLine) : Prop := l.debounce ≤ 255 ∧ l.steady ≤ 255

theorem lineSafe_sampleLine {l : EventLine} (h : LineSafe l) (level : Level) : LineSafe (sampleLine level l) := by
  obtain ⟨debounce, steady⟩ := h
  unfold sampleLine
  split
  · exact ⟨debounce, Nat.zero_le _⟩
  split
  · exact ⟨debounce, Nat.zero_le _⟩
  · next differs quiet =>
    refine ⟨debounce, ?_⟩
    simp only [changeDue, Bool.and_eq_true, decide_eq_true_eq, not_and] at quiet
    have early := quiet differs
    dsimp only
    split at early <;> omega

/-- The field inputs in range (R18, R24, R30). -/
structure FieldInRange (u : Fiu) : Prop where
  pulses : PulsesInRange u.pulses
  points : ∀ sp : Fin 32, PointSafe u.points[sp]
  lines : ∀ l : Fin 8, LineSafe u.lines[l]

theorem fieldInRange_point {u : Fiu} (h : FieldInRange u) {sp : Fin 32} {p : SamplePoint} (hp : PointSafe p) :
    FieldInRange { u with points := put u.points sp p } :=
  { h with points := put_forall (P := fun _ => PointSafe) h.points hp }

theorem fieldInRange_line {u : Fiu} (h : FieldInRange u) {l : Fin 8} {x : EventLine} (hx : LineSafe x) :
    FieldInRange { u with lines := put u.lines l x } :=
  { h with lines := put_forall (P := fun _ => LineSafe) h.lines hx }

theorem agedFields_point (u : Fiu) (sp : Fin 32) : (agedFields u).points[sp] = agePoint u.points[sp] :=
  each_getElem ..

theorem agedFields_pulses (u : Fiu) : (agedFields u).pulses = u.pulses := by
  unfold agedFields
  rfl

theorem agedFields_lines (u : Fiu) : (agedFields u).lines = u.lines := by
  unfold agedFields
  rfl

theorem fieldInRange_aged {u : Fiu} (h : FieldInRange u) : FieldInRange (agedFields u) where
  pulses := by
    rw [agedFields_pulses]
    exact h.pulses
  points sp := by
    rw [agedFields_point]
    exact pointSafe_agePoint (h.points sp)
  lines := by
    rw [agedFields_lines]
    exact h.lines

/-! ## Meter channels, CONFIRM_S and prices -/

/-- A meter channel in range, item by item (R126). -/
structure MeterSafe (m : Meter) : Prop where
  kLow : 1 ≤ m.k
  k : m.k ≤ 65535
  limitLow : 1 ≤ m.limit
  limit : m.limit ≤ 16777215
  key : m.key ≤ 16777215
  litresLow : 1 ≤ m.litres
  litres : m.litres ≤ 65535
  base : m.base ≤ 4294967295
  pending : m.pendingSteps ≤ 65535
  carry : m.carry ≤ 99999

theorem meterInRange_iff {m : Meter} : MeterInRange m ↔ MeterSafe m := by
  constructor
  · rintro ⟨kLow, k, limitLow, limit, key, litresLow, litres, base, pending, carry⟩
    exact ⟨kLow, k, limitLow, limit, key, litresLow, litres, base, pending, carry⟩
  · rintro ⟨kLow, k, limitLow, limit, key, litresLow, litres, base, pending, carry⟩
    exact ⟨kLow, k, limitLow, limit, key, litresLow, litres, base, pending, carry⟩

theorem meterSafe_freshMeter {v : Vector PulseChannel 24} (hv : PulsesInRange v) {m : Meter} (h : MeterSafe m)
    (ch : Option (Fin 24)) : MeterSafe (freshMeter v ch m) := by
  cases ch with
  | none => exact { h with carry := Nat.zero_le _, pending := Nat.zero_le _ }
  | some ch =>
    exact { h with
      base := countOf_le hv ch, litresLow := (hv ch).scaleLow, litres := (hv ch).scale, carry := Nat.zero_le _
      pending := Nat.zero_le _ }

/-- The meter channels and CONFIRM_S in range (R126, R129). -/
structure HeatInRange (h : Hmu) : Prop where
  meters : ∀ m : Fin 16, MeterSafe h.meters[m]
  confirmLow : 1 ≤ h.confirmS
  confirm : h.confirmS ≤ 60

theorem heatInRange_meter {x : Hmu} (h : HeatInRange x) {m : Fin 16} {y : Meter} (hy : MeterSafe y) :
    HeatInRange { x with meters := put x.meters m y } :=
  { h with meters := put_forall (P := fun _ => MeterSafe) h.meters hy }

/-- What the checks of METER-SET make sure of (Table 7-1). -/
theorem meterItemFailing_none {f : MeterSetFields} (h : meterItemFailing f = none) :
    (1 ≤ f.k ∧ f.k ≤ 65535) ∧ (1 ≤ f.limit ∧ f.limit ≤ 16777215) ∧ f.key ≤ 16777215 := by
  unfold meterItemFailing at h
  repeat' split at h
  all_goals cases h
  omega

theorem parse824_range {p f} (h : parse824 p = some f) : f.2 ≤ 16777215 := by
  simp only [parse824, Option.bind_eq_bind, Option.bind_eq_some_iff, Prod.exists, u24_eq_some, ending_eq_some] at h
  obtain ⟨_, _, _, key, _, ⟨range, _⟩, rfl, _⟩ := h
  exact Nat.le_of_lt_succ range

/-- The prices in range (R153). -/
def PricesInRange (v : Vector (Vector Nat 8) 8) : Prop := ∀ t k : Fin 8, v[t][k] ≤ 16777215

theorem parseTariffSet_range {p f} (h : parseTariffSet p = some f) : ∀ x ∈ f.prices, x ≤ 16777215 := by
  simp only [parseTariffSet, Option.bind_eq_bind, Option.bind_eq_some_iff, Prod.exists, ending_eq_some] at h
  obtain ⟨_, _, _, prices, _, many, rfl, _⟩ := h
  obtain ⟨range, -⟩ := (many_eq_some (enc := be 3) (ok := fun x => x < 16777216) fun _ _ _ => u24_eq_some).1 many
  exact fun x hx => Nat.le_of_lt_succ (range x hx)

theorem pricesInRange_tariffSet {v : Vector (Vector Nat 8) 8} (h : PricesInRange v) {t : Fin 8} {prices : List Nat}
    (hp : ∀ x ∈ prices, x ≤ 16777215) :
    PricesInRange (put v t (Vector.ofFn fun i : Fin 8 => prices.getD i.1 0)) := by
  refine put_forall (P := fun _ (x : Vector Nat 8) => ∀ k : Fin 8, x[k] ≤ 16777215) h fun k => ?_
  have written : (Vector.ofFn fun i : Fin 8 => prices.getD i.1 0)[k] = prices.getD k.1 0 := Vector.getElem_ofFn _
  rw [written, List.getD_eq_getElem?_getD]
  cases hk : prices[k.1]? with
  | none => exact Nat.zero_le _
  | some x => exact hp x (List.mem_of_getElem? hk)

end Sys2Proof.Machine
end

section
/-!
The registers as one invariant: the ranges of every block, the rest of SETUP, and that the clock runs exactly in RUN.
How an operation that changes one part of the state keeps it.
-/
namespace Sys2Proof.Machine

/-- Every item with a range stands in it. -/
structure Ranges (s : State) : Prop where
  field : FieldInRange s.fiu
  gas : GasInRange s.gbu
  drives : DrivesInRange s.dcu.channels
  exs : ExportSafe s.exs
  heat : HeatInRange s.hmu
  prices : PricesInRange s.abu.tariffs

/-- SETUP at rest (R57, R70, R88, R108, R110, R127). -/
structure Quiet (s : State) : Prop where
  stopped : ∀ ch : Fin 16, s.dcu.channels[ch].state = .stopped
  pc : ∀ n : Fin 12, s.gbu.consumers[n].pc = 0
  idle : s.exs.phase = .idle
  items : s.exs.stepItems = []
  markers : s.hmu.queue.all isMarker = true
  unflared : s.cnu.records[condFlaring].active = false

/-- The invariant of the registers. -/
structure Registers (s : State) : Prop where
  running : s.sck.running = true ↔ s.lkp.mode = .run
  quiet : s.lkp.mode = .setup → Quiet s
  ranges : Ranges s

theorem registersSound_iff {s : State} : RegistersSound s ↔ Registers s := by
  constructor
  · rintro ⟨⟨running, quiet⟩, grades, consumers, drives, members, pulses, points, lines, exs, meters, confirmLow, confirm,
      prices⟩
    refine ⟨running, fun mode => ?_, ⟨fun ch => pulseInRange_iff.1 (pulses ch), fun sp => pointInRange_iff.1 (points sp),
      lines⟩, ⟨grades, consumers⟩, ⟨fun ch => driveInRange_iff.1 (drives ch), members⟩, exportInRange_iff.1 exs,
      ⟨fun m => meterInRange_iff.1 (meters m), confirmLow, confirm⟩, prices⟩
    obtain ⟨stopped, pc, idle, items, markers, unflared⟩ := quiet mode
    exact ⟨stopped, pc, idle, items, markers, unflared⟩
  · rintro ⟨running, quiet, ⟨pulses, points, lines⟩, ⟨grades, consumers⟩, ⟨drives, members⟩, exs,
      ⟨meters, confirmLow, confirm⟩, prices⟩
    refine ⟨⟨running, fun mode => ?_⟩, grades, consumers, fun ch => driveInRange_iff.2 (drives ch), members,
      fun ch => pulseInRange_iff.2 (pulses ch), fun sp => pointInRange_iff.2 (points sp), lines, exportInRange_iff.2 exs,
      fun m => meterInRange_iff.2 (meters m), confirmLow, confirm, prices⟩
    obtain ⟨stopped, pc, idle, items, markers, unflared⟩ := quiet mode
    exact ⟨stopped, pc, idle, items, markers, unflared⟩

/-! ## What changes none of them -/

/-- The registers stand, and FLARING does not become active. -/
structure Beside (s t : State) : Prop where
  mode : t.lkp.mode = s.lkp.mode
  running : t.sck.running = s.sck.running
  pulses : t.fiu.pulses = s.fiu.pulses
  points : t.fiu.points = s.fiu.points
  lines : t.fiu.lines = s.fiu.lines
  gbu : t.gbu = s.gbu
  dcu : t.dcu = s.dcu
  exs : t.exs = s.exs
  hmu : t.hmu = s.hmu
  tariffs : t.abu.tariffs = s.abu.tariffs
  unflared : Unflared s t

section
variable {s t u : State}

theorem Beside.refl (s : State) : Beside s s := ⟨rfl, rfl, rfl, rfl, rfl, rfl, rfl, rfl, rfl, rfl, .refl s⟩

theorem Beside.trans (h : Beside s t) (k : Beside t u) : Beside s u :=
  ⟨k.mode.trans h.mode, k.running.trans h.running, k.pulses.trans h.pulses, k.points.trans h.points,
    k.lines.trans h.lines, k.gbu.trans h.gbu, k.dcu.trans h.dcu, k.exs.trans h.exs, k.hmu.trans h.hmu,
    k.tariffs.trans h.tariffs, h.unflared.trans k.unflared⟩

theorem Registers.beside (h : Registers s) (k : Beside s t) : Registers t := by
  obtain ⟨mode, running, pulses, points, lines, gbu, dcu, exs, hmu, tariffs, unflared⟩ := k
  obtain ⟨runs, quiet, field, gas, drives, out, heat, prices⟩ := h
  refine ⟨by rw [running, mode]; exact runs, fun setup => ?_, ⟨?_, ?_, ?_⟩, by rw [gbu]; exact gas,
    by rw [dcu]; exact drives, by rw [exs]; exact out, by rw [hmu]; exact heat, by rw [tariffs]; exact prices⟩
  · obtain ⟨stopped, pc, idle, items, markers, quiet⟩ := quiet (mode ▸ setup)
    exact ⟨by rw [dcu]; exact stopped, by rw [gbu]; exact pc, by rw [exs]; exact idle, by rw [exs]; exact items,
      by rw [hmu]; exact markers, unflared.stays quiet⟩
  · rw [pulses]; exact field.pulses
  · rw [points]; exact field.points
  · rw [lines]; exact field.lines

theorem Signals.beside (h : Signals s t) (k : Unflared s t) : Beside s t := by
  obtain ⟨_, rfl⟩ := h
  exact ⟨rfl, rfl, rfl, rfl, rfl, rfl, rfl, rfl, rfl, rfl, k⟩

theorem Captures.beside (h : Captures s t) (k : Unflared s t) : Beside s t := by
  obtain ⟨_, _, _, rfl⟩ := h
  exact ⟨rfl, rfl, rfl, rfl, rfl, rfl, rfl, rfl, rfl, rfl, k⟩

theorem beside_raise {n : Fin 32} (hn : condFlaring ∉ [n]) (k t s) : Beside s (State.raise n k t s) :=
  (signals_raise ..).beside (unflared_raise hn ..)
theorem beside_follow {n : Fin 32} (hn : condFlaring ∉ [n]) (b k t s) : Beside s (State.follow n b k t s) :=
  (signals_follow ..).beside (unflared_follow hn ..)
theorem beside_lkp (s) {l : Lkp} (h : l.mode = s.lkp.mode) : Beside s { s with lkp := l } :=
  ⟨h, rfl, rfl, rfl, rfl, rfl, rfl, rfl, rfl, rfl, .same rfl⟩
theorem beside_sck (s) {c : Sck} (h : c.running = s.sck.running) : Beside s { s with sck := c } :=
  ⟨rfl, h, rfl, rfl, rfl, rfl, rfl, rfl, rfl, rfl, .same rfl⟩
theorem beside_pending (s c) : Beside s { s with pending := c } :=
  ⟨rfl, rfl, rfl, rfl, rfl, rfl, rfl, rfl, rfl, rfl, .same rfl⟩
theorem beside_setSensor (r s) : Beside s (setSensor r s) :=
  ⟨rfl, rfl, rfl, rfl, rfl, rfl, rfl, rfl, rfl, rfl, .same rfl⟩
theorem beside_abu (s) {a : Abu} (h : a.tariffs = s.abu.tariffs) : Beside s { s with abu := a } :=
  ⟨rfl, rfl, rfl, rfl, rfl, rfl, rfl, rfl, rfl, h, .same rfl⟩

/-! ## What changes one block -/

theorem Registers.field (h : Registers s) {u : Fiu} (hu : FieldInRange u) : Registers { s with fiu := u } :=
  ⟨h.running, fun mode => { h.quiet mode with }, { h.ranges with field := hu }⟩

theorem Registers.gas (h : Registers s) {u : Gbu} (hu : GasInRange u)
    (pc : s.lkp.mode = .setup → ∀ n : Fin 12, u.consumers[n].pc = 0) : Registers { s with gbu := u } :=
  ⟨h.running, fun mode => { h.quiet mode with pc := pc mode }, { h.ranges with gas := hu }⟩

theorem Registers.drives (h : Registers s) {v : Vector DriveChannel 16} (hv : DrivesInRange v)
    (stopped : s.lkp.mode = .setup → ∀ ch : Fin 16, v[ch].state = .stopped) :
    Registers { s with dcu := { s.dcu with channels := v } } :=
  ⟨h.running, fun mode => { h.quiet mode with stopped := stopped mode }, { h.ranges with drives := hv }⟩

theorem Registers.scheduler (h : Registers s) {e : Exs} (he : ExportSafe e)
    (idle : s.lkp.mode = .setup → e.phase = .idle ∧ e.stepItems = []) : Registers { s with exs := e } :=
  ⟨h.running, fun mode => { h.quiet mode with idle := (idle mode).1, items := (idle mode).2 },
    { h.ranges with exs := he }⟩

theorem Registers.heat (h : Registers s) {x : Hmu} (hx : HeatInRange x)
    (markers : s.lkp.mode = .setup → x.queue.all isMarker = true) : Registers { s with hmu := x } :=
  ⟨h.running, fun mode => { h.quiet mode with markers := markers mode }, { h.ranges with heat := hx }⟩

theorem Registers.prices (h : Registers s) {a : Abu} (ha : PricesInRange a.tariffs) : Registers { s with abu := a } :=
  ⟨h.running, fun mode => { h.quiet mode with }, { h.ranges with prices := ha }⟩

theorem Registers.meter (h : Registers s) {m : Fin 16} {x : Meter} (hx : MeterSafe x) : Registers (setMeter m x s) :=
  h.heat (heatInRange_meter h.ranges.heat hx) fun mode => (h.quiet mode).markers

theorem Registers.formRecord (h : Registers s) : Registers (formRecord s) :=
  h.scheduler { h.ranges.exs with } fun mode => ⟨(h.quiet mode).idle, (h.quiet mode).items⟩

/-- In RUN, and with the clock running, the ranges are all. -/
theorem Registers.of_run (mode : s.lkp.mode = .run) (running : s.sck.running = true) (ranges : Ranges s) :
    Registers s :=
  ⟨⟨fun _ => mode, fun _ => running⟩, fun setup => absurd (mode.symm.trans setup) (by decide), ranges⟩

theorem Registers.runs (h : Registers s) (mode : s.lkp.mode = .run) : s.sck.running = true := h.running.2 mode

end
end Sys2Proof.Machine
end

section
/-!
The registers through the shared operations: the retire queue, event lines, sensor records and ticks.
-/
namespace Sys2Proof.Machine

/-! ## The retire queue -/

section
variable {s : State}

theorem all_markers_iff {q : List RetireEntry} : q.all isMarker = true ↔ q.countP isMarker = q.length := by
  rw [List.all_eq_true, List.countP_eq_length]

theorem heatInRange_finishReading (h : HeatInRange s.hmu) (r) : HeatInRange (finishReading r s).2.hmu := by
  have carried : ∀ ts tr, MeterSafe { s.hmu.meters[r.meter] with
      carry := (finishedFields r s.hmu.meters[r.meter] ts tr).2 } := fun ts tr =>
    { h.meters r.meter with carry := Nat.le_of_lt_succ (Nat.mod_lt _ (by decide)) }
  unfold finishReading
  dsimp only
  split <;> exact heatInRange_meter h (carried ..)

theorem heatInRange_finishPass (h : HeatInRange s.hmu) (force q w) : HeatInRange (finishPass force q w s).2.hmu := by
  induction q generalizing w s with
  | nil => exact h
  | cons e q ih =>
    cases e with
    | marker p => exact ih h w
    | reading r =>
      unfold finishPass
      repeat' split
      · exact ih h w
      · exact ih (heatInRange_finishReading h r) w
      · exact ih h _

theorem bookReading_tariffs (r f s) : (bookReading r f s).abu.tariffs = s.abu.tariffs := by
  obtain ⟨a, d, ⟨_, _, _, rfl⟩, h⟩ := books_bookReading r f s
  rw [h]

theorem bookReading_hmu (r f s) : (bookReading r f s).hmu = s.hmu := by
  obtain ⟨a, d, -, h⟩ := books_bookReading r f s
  rw [h]

/-- Retirement leaves meters, CONFIRM_S and prices as they are (R139). -/
theorem retireRun_stands (q s) : (retireRun q s).hmu.meters = s.hmu.meters ∧
    (retireRun q s).hmu.confirmS = s.hmu.confirmS ∧ (retireRun q s).abu.tariffs = s.abu.tariffs := by
  induction q generalizing s with
  | nil => exact ⟨rfl, rfl, rfl⟩
  | cons e q ih =>
    cases e with
    | marker p => exact ih _
    | reading r =>
      unfold retireRun
      split
      · next f _ =>
        obtain ⟨meters, confirm, tariffs⟩ := ih (bookReading r f s)
        rw [meters, confirm, tariffs, bookReading_hmu, bookReading_tariffs]
        exact ⟨rfl, rfl, rfl⟩
      · exact ⟨rfl, rfl, rfl⟩

theorem heatInRange_retireRun (h : HeatInRange s.hmu) (q) : HeatInRange (retireRun q s).hmu := by
  obtain ⟨meters, confirm, -⟩ := retireRun_stands q s
  exact ⟨by rw [meters]; exact h.meters, by rw [confirm]; exact h.confirmLow, by rw [confirm]; exact h.confirm⟩

theorem retireRun_markers {q : List RetireEntry} (h : q.all isMarker = true) (s) :
    (retireRun q s).hmu.queue.all isMarker = true := by
  rw [retireRun_queue_eq]
  rw [List.all_eq_true] at h ⊢
  exact fun e he => h e ((List.dropWhile_sublist _).subset he)

theorem finishPass_allMarkers {q : List RetireEntry} (h : q.all isMarker = true) (force w s) :
    (finishPass force q w s).1.all isMarker = true := by
  rw [all_markers_iff] at h ⊢
  rw [finishPass_markers, finishPass_length, h]

theorem finishPass_tariffs (force q w s) : (finishPass force q w s).2.abu.tariffs = s.abu.tariffs := by
  rw [finishPass_abu]

/-- An operation on the retire queue keeps the registers where it keeps meters, prices and, in SETUP, markers. -/
theorem Registers.retires {t : State} (h : Registers s) (frame : Retires s t) (heat : HeatInRange t.hmu)
    (tariffs : t.abu.tariffs = s.abu.tariffs)
    (markers : s.hmu.queue.all isMarker = true → t.hmu.queue.all isMarker = true) (unflared : Unflared s t) :
    Registers t := by
  obtain ⟨m, q, a, d, rfl⟩ := frame
  exact ⟨h.running, fun mode => { h.quiet mode with
      markers := markers (h.quiet mode).markers, unflared := unflared.stays (h.quiet mode).unflared },
    { h.ranges with heat := heat, prices := tariffs ▸ h.ranges.prices }⟩

theorem registers_settleQueue (h : Registers s) : Registers (settleQueue s) := by
  refine h.retires (retires_settleQueue s) (heatInRange_retireRun (heatInRange_finishPass h.ranges.heat ..) _) ?_
    (fun markers => retireRun_markers (finishPass_allMarkers markers ..) _) (unflared_settleQueue s)
  unfold settleQueue
  rw [(retireRun_stands _ _).2.2, finishPass_tariffs]

theorem registers_flushQueue (h : Registers s) : Registers (flushQueue s) := by
  refine h.retires (retires_flushQueue s) (heatInRange_retireRun (heatInRange_finishPass h.ranges.heat ..) _) ?_
    (fun markers => retireRun_markers (finishPass_allMarkers markers ..) _) (unflared_flushQueue s)
  unfold flushQueue
  rw [(retireRun_stands _ _).2.2, finishPass_tariffs]

/-- A change of the queue that keeps its number and its markers (R135, R136). -/
theorem registers_setQueue (h : Registers s) {q : List RetireEntry} (size : q.length = s.hmu.queue.length)
    (markers : q.countP isMarker = s.hmu.queue.countP isMarker) : Registers (setQueue q s) :=
  h.heat { h.ranges.heat with } fun mode => by
    have all := (h.quiet mode).markers
    rw [all_markers_iff] at all ⊢
    rw [markers, size, all]

theorem registers_countDownQueue (h : Registers s) (n) : Registers (countDownQueue n s) := by
  refine registers_settleQueue (registers_setQueue h ?_ ?_)
  · rw [List.length_append, mapReadings_length, ← List.length_append, List.take_append_drop]
  · rw [List.countP_append, mapReadings_markers, ← List.countP_append, List.take_append_drop]

theorem registers_freshNotice (h : Registers s) (role) : Registers (freshNotice role s) := by
  unfold freshNotice
  split
  · exact registers_settleQueue (registers_setQueue h (mapReadings_length ..) (mapReadings_markers ..))
  · exact h

/-! ## Sample points and the sensor port -/

theorem registers_followSamples (h : Registers s) : Registers (followSamples s) :=
  h.beside ((signals_followSamples s).beside (unflared_followSamples s))

theorem registers_setPoint (h : Registers s) {sp : Fin 32} {p : SamplePoint} (hp : PointSafe p) :
    Registers (setPoint sp p s) := h.field (fieldInRange_point h.ranges.field hp)

theorem registers_agePoints (h : Registers s) : Registers (agePoints s) :=
  registers_followSamples (h.field (fieldInRange_aged h.ranges.field))

theorem registers_judgeRecord (h : Registers s) (r) : Registers (judgeRecord r s) := by
  have point : ∀ sp : Fin 32, PointSafe s.fiu.points[sp] := h.ranges.field.points
  have bad : ∀ k, Registers (s.raiseHere condSensorFrame k) := fun k => h.beside (beside_raise (by decide) ..)
  unfold judgeRecord
  dsimp only
  repeat' split
  · exact bad _
  · exact bad _
  · exact registers_freshNotice (registers_followSamples (registers_setPoint h (pointSafe_good (point _) _))) _
  · exact registers_followSamples (registers_setPoint h (pointSafe_failed (point _)))
  · exact bad _
  · exact h

theorem registers_sensorByte (h : Registers s) (b) : Registers (sensorByte s b) := by
  have set : ∀ r, Registers (setSensor r s) := fun r => h.beside (beside_setSensor r s)
  unfold sensorByte
  repeat' split
  · exact set _
  · exact h
  · exact set _
  · exact registers_judgeRecord (set _) _

theorem registers_sensorBytes (h : Registers s) (bytes : List Byte) : Registers (bytes.foldl sensorByte s) := by
  induction bytes generalizing s with
  | nil => exact h
  | cons b bytes ih => exact ih (registers_sensorByte h b)

theorem registers_breakRecord (h : Registers s) : Registers (breakRecord s) := by
  unfold breakRecord
  split
  · exact h
  · exact (h.beside (beside_setSensor ..)).beside (beside_raise (by decide) ..)

/-! ## Event lines -/

theorem beside_triggerUnits (p c s) : Beside s (triggerUnits p c s) :=
  (captures_triggerUnits p c s).beside (unflared_triggerUnits p c s)

theorem permissiveChanges_stopped {v : Vector DriveChannel 16} (h : ∀ ch : Fin 16, v[ch].state = .stopped) (lines line) :
    permissiveChanges lines line v = v := by
  unfold permissiveChanges
  generalize List.finRange 16 = l
  induction l with
  | nil => rfl
  | cons ch l ih =>
    have same : permissiveChange lines line v ch = v := by
      unfold permissiveChange
      split
      · rfl
      · rw [h ch]
    rw [List.foldl_cons, same]
    exact ih

theorem registers_permissiveChanges (h : Registers s) (lines line) :
    Registers { s with dcu := { s.dcu with channels := permissiveChanges lines line s.dcu.channels } } :=
  h.drives (drivesInRange_permissiveChanges lines line h.ranges.drives) fun mode => by
    rw [permissiveChanges_stopped (h.quiet mode).stopped]
    exact (h.quiet mode).stopped

theorem registers_gridHoldChange (h : Registers s) (line) : Registers (gridHoldChange line s) := by
  unfold gridHoldChange
  split
  · exact h.formRecord
  · exact h

theorem registers_reportChange (h : Registers s) (line level) : Registers (reportChange line level s) := by
  unfold reportChange
  exact registers_gridHoldChange (registers_permissiveChanges (h.beside (beside_triggerUnits ..)) ..) line

theorem registers_sampleLines (h : Registers s) (levels) : Registers (sampleLines levels s) := by
  unfold sampleLines
  generalize List.finRange 8 = l
  induction l generalizing s with
  | nil => exact h
  | cons line l ih =>
    refine ih ?_
    have sampled := h.field (fieldInRange_line h.ranges.field
      (lineSafe_sampleLine (h.ranges.field.lines line) (levelOf levels line)) (l := line))
    unfold sampleStep
    dsimp only
    split
    · exact registers_reportChange sampled ..
    · exact sampled

end
end Sys2Proof.Machine
end

section
/-!
The registers through a tick, with the step boundary that it may bring, and through MODE-START, MODE-STOP and the resets.
-/
namespace Sys2Proof.Machine

section
variable {s t : State}

/-! ## The blocks at a step boundary, which comes in RUN alone -/

/-- The registers in RUN. -/
structure InRun (s : State) : Prop where
  registers : Registers s
  mode : s.lkp.mode = .run

theorem InRun.not_setup {P : Prop} (h : InRun s) (setup : s.lkp.mode = .setup) : P :=
  absurd (h.mode.symm.trans setup) (by decide)

theorem InRun.beside (h : InRun s) (k : Beside s t) : InRun t := ⟨h.registers.beside k, k.mode.trans h.mode⟩

/-- In RUN the ranges alone have to be kept. -/
theorem InRun.of_ranges (h : InRun s) (lkp : t.lkp = s.lkp) (running : t.sck.running = s.sck.running)
    (ranges : Ranges t) : InRun t :=
  have mode : t.lkp.mode = .run := by rw [lkp]; exact h.mode
  ⟨.of_run mode (running.trans (h.registers.runs h.mode)) ranges, mode⟩

theorem inRun_stepStart (h : InRun s) : InRun (stepStart s) := by
  obtain ⟨_, _, _, _, frame⟩ := expires_stepStart s
  rw [frame]
  exact h.of_ranges rfl rfl { h.registers.ranges with }

theorem inRun_balanceBoundary (h : InRun s) (b) : InRun (balanceBoundary b s) := by
  have ranges := h.registers.ranges
  obtain ⟨gas, drives⟩ := balanceBoundary_inRange b ranges.gas ranges.drives
  obtain ⟨_, _, _, _, frame⟩ := balances_balanceBoundary b s
  rw [frame] at gas drives ⊢
  exact h.of_ranges rfl rfl { ranges with gas := gas, drives := drives, exs := { ranges.exs with } }

theorem inRun_exportBoundary (h : InRun s) (b) : InRun (exportBoundary b s) := by
  have ranges := h.registers.ranges
  have exs := exportSafe_exportBoundary ranges.exs b
  obtain ⟨_, _, _, _, frame⟩ := exports_exportBoundary b s
  rw [frame] at exs ⊢
  exact h.of_ranges rfl rfl { ranges with exs := exs }

theorem inRun_balanceAndExport (h : InRun s) (o b) : InRun (balanceAndExport o b s) := by
  unfold balanceAndExport
  split
  · exact inRun_balanceBoundary (inRun_exportBoundary h b) b
  · exact inRun_exportBoundary (inRun_balanceBoundary h b) b

theorem inRun_timersAndBlocks (h : InRun s) (o b) : InRun (timersAndBlocks o b s) := by
  unfold timersAndBlocks
  split
  · exact inRun_balanceAndExport (inRun_stepStart h) o b
  · exact inRun_stepStart (inRun_balanceAndExport h o b)

theorem meterCount_le (h : Ranges s) (m) : meterCount s m ≤ 4294967295 := by
  unfold meterCount
  split
  · exact (h.heat.meters m).base
  · exact countOf_le h.field.pulses _

theorem inRun_setMeter (h : InRun s) {m : Fin 16} {x : Meter} (hx : MeterSafe x) : InRun (setMeter m x s) :=
  ⟨h.registers.meter hx, h.mode⟩

theorem inRun_setQueue (h : InRun s) (q) : InRun (setQueue q s) :=
  ⟨h.registers.heat { h.registers.ranges.heat with } h.not_setup, h.mode⟩

theorem inRun_meterBoundary (h : InRun s) (tag m) : InRun (meterBoundary tag s m) := by
  have ranges := h.registers.ranges
  have pending : min (s.hmu.meters[m].pendingSteps + 1) 65535 ≤ 65535 := Nat.min_le_right ..
  have counted : MeterSafe { s.hmu.meters[m] with pendingSteps := min (s.hmu.meters[m].pendingSteps + 1) 65535 } :=
    { ranges.heat.meters m with pending := pending }
  unfold meterBoundary
  dsimp only
  split
  · exact h
  split
  · exact inRun_setMeter h counted
  split
  · refine (inRun_setMeter h ?_).beside (beside_raise (n := condRetireLag) (by decide) ..)
    exact { counted with }
  · refine inRun_setQueue (inRun_setMeter h ?_) _
    exact { counted with base := meterCount_le ranges m, pending := Nat.zero_le _ }

theorem inRun_meterBoundaries (h : InRun s) (b) : InRun (meterBoundaries b s) := by
  unfold meterBoundaries
  generalize List.finRange 16 = l
  induction l generalizing s with
  | nil => exact h
  | cons m l ih => exact ih (inRun_meterBoundary h b.ended m)

theorem inRun_takeBoundary (h : InRun s) (o) : InRun (takeBoundary o s) := by
  have advanced := h.beside (beside_sck s (c := advanceClock s.sck) rfl)
  unfold takeBoundary
  exact inRun_meterBoundaries (inRun_timersAndBlocks advanced o _) _

/-! ## Ticks -/

theorem inRun_agePoints (h : InRun s) : InRun (agePoints s) := ⟨registers_agePoints h.registers, h.mode⟩

theorem inRun_countDownQueue (h : InRun s) (n) : InRun (countDownQueue n s) := by
  refine ⟨registers_countDownQueue h.registers n, ?_⟩
  rw [(retires_countDownQueue n s).ticks.2.1]
  exact h.mode

theorem inRun_boundaryTick (h : InRun s) (o) : InRun (boundaryTick o s) := by
  have aged : InRun (if o.fiuFirst then agePoints s else s) := by
    split
    · exact inRun_agePoints h
    · exact h
  unfold boundaryTick
  dsimp only
  generalize (if o.fiuFirst then agePoints s else s) = s1 at aged ⊢
  have counted : InRun (if o.hmuFirst then countDownQueue s1.hmu.queue.length s1 else s1) := by
    split
    · exact inRun_countDownQueue aged _
    · exact aged
  generalize (if o.hmuFirst then countDownQueue s1.hmu.queue.length s1 else s1) = s2 at counted ⊢
  have taken := inRun_takeBoundary counted o
  have later : InRun
      (if o.hmuFirst then takeBoundary o s2 else countDownQueue s2.hmu.queue.length (takeBoundary o s2)) := by
    split
    · exact taken
    · exact inRun_countDownQueue taken _
  split
  · exact later
  · exact inRun_agePoints later

theorem registers_tick (h : Registers s) (o) : Registers (tick o s) := by
  unfold tick
  split
  · next due =>
    have running : s.sck.running = true := ((boundaryDue_iff s.sck).1 due).1
    exact (inRun_boundaryTick ⟨h, h.running.1 running⟩ o).registers
  · unfold plainTick
    dsimp only
    refine registers_countDownQueue (registers_agePoints (h.beside ?_)) _
    exact beside_sck s rfl

/-! ## The modes and the resets -/

theorem quiet_modeStop (s) : Quiet (modeStop s) := by
  have unflared := modeStop_unflared s
  obtain ⟨_, _, _, _, _, _, frame⟩ := modeStop_frame s
  have channels : (modeStop s).dcu.channels = stopAll s.dcu.channels := by rw [frame]
  have consumers : (modeStop s).gbu.consumers = each s.gbu.consumers fun _ c => { c with pc := 0 } := by rw [frame]
  refine ⟨fun ch => ?_, fun n => ?_, ?_, ?_, ?_, unflared⟩
  · rw [channels]
    exact (stopAll_stopped ..).1
  · rw [consumers, each_getElem]
  all_goals rw [frame]
  all_goals rfl

theorem gasInRange_consumers {u : Gbu} (h : GasInRange u) {v : Vector Consumer 12}
    (hv : ∀ n : Fin 12, ConsumerInRange v[n]) : GasInRange { u with consumers := v } := ⟨h.1, hv⟩

theorem gasInRange_allocationModeStop {u : Gbu} (h : GasInRange u) :
    GasInRange { u with consumers := each u.consumers fun _ c => { c with pc := 0 } } :=
  gasInRange_consumers h fun n => by
    rw [each_getElem]
    exact consumerInRange_pc (h.2 n) (.inl rfl)

theorem exportSafe_stoppedExs {e : Exs} (h : ExportSafe e) (r) : ExportSafe { stoppedExs e with record := r } :=
  { h with deviations := Nat.zero_le _, limit := nofun, recoveries := Nat.zero_le _, outside := fun _ => rfl }

theorem heatInRange_flushQueue (h : HeatInRange s.hmu) : HeatInRange (flushQueue s).hmu :=
  heatInRange_retireRun (heatInRange_finishPass h ..) _

theorem flushQueue_tariffs (s) : (flushQueue s).abu.tariffs = s.abu.tariffs := by
  unfold flushQueue
  rw [(retireRun_stands _ _).2.2, finishPass_tariffs]

theorem blocksStopped_stands (s) : (blocksStopped s).hmu = s.hmu ∧ (blocksStopped s).abu = s.abu := by
  obtain ⟨_, _, _, _, frame⟩ := exports_exportModeStop (allocationStopped s)
  rw [blocksStopped_eq, frame]
  exact ⟨rfl, rfl⟩

theorem ranges_modeStop (h : Ranges s) : Ranges (modeStop s) := by
  obtain ⟨hmu, abu⟩ := blocksStopped_stands s
  have heat : HeatInRange (modeStop s).hmu := heatInRange_flushQueue (s := blocksStopped s) (by rw [hmu]; exact h.heat)
  have prices : (modeStop s).abu.tariffs = s.abu.tariffs := (flushQueue_tariffs (blocksStopped s)).trans (by rw [abu])
  have gas := gasInRange_allocationModeStop h.gas
  have drives := drivesInRange_stopAll h.drives
  obtain ⟨_, _, _, _, _, _, frame⟩ := modeStop_frame s
  generalize (each s.gbu.consumers fun _ c => { c with pc := 0 }) = consumers at gas frame
  generalize stopAll s.dcu.channels = channels at drives frame
  rw [frame] at heat prices ⊢
  exact ⟨h.field, gas, drives, exportSafe_stoppedExs h.exs _, heat, prices ▸ h.prices⟩

theorem registers_modeStop (h : Registers s) : Registers (modeStop s) := by
  have quiet := quiet_modeStop s
  have ranges := ranges_modeStop h.ranges
  obtain ⟨_, _, _, _, _, _, frame⟩ := modeStop_frame s
  refine ⟨?_, fun _ => quiet, ranges⟩
  rw [frame]
  exact ⟨nofun, nofun⟩

theorem gasInRange_unplaced {u : Gbu} (h : GasInRange u) :
    GasInRange { u with grades := each u.grades fun _ e => { e with placed := false } } := by
  have grades : ∀ g : Fin 3, GradeInRange (each u.grades fun _ e => { e with placed := false })[g] := fun g => by
    rw [each_getElem]
    exact h.1 g
  exact ⟨grades, h.2⟩

theorem registers_modeStart (h : Registers s) : Registers (modeStart s) := by
  have started : ExportSafe (modeStart s).exs := by
    obtain ⟨_, _, _, _, frame⟩ := balanceStarted_frame s
    refine exportSafe_exportModeStart (s := balanceStarted s) ?_
    rw [frame]
    exact h.ranges.exs
  obtain ⟨_, _, _, _, _, frame⟩ := modeStart_frame s
  rw [frame] at started ⊢
  exact .of_run rfl rfl ⟨h.ranges.field, gasInRange_unplaced h.ranges.gas, h.ranges.drives, started, h.ranges.heat,
    h.ranges.prices⟩

theorem unflared_clearConds (mask) (s : State) : Unflared s { s with cnu := clearConds mask s.cnu } := by
  refine ⟨fun quiet => ?_⟩
  show (each s.cnu.records fun n r => if mask.getLsbD n.1 then clearRecord n r else r)[condFlaring].active = false
  rw [each_getElem]
  split
  · show (isLevelCondition condFlaring && s.cnu.records[condFlaring].active) = false
    rw [quiet]
    rfl
  · exact quiet

theorem registers_warmReset (h : Registers s) : Registers (warmReset s) := by
  have stopped : ∀ t : State, Registers t → t.lkp.mode = .setup → Registers { t with
      cnu := clearConds (BitVec.allOnes 32) t.cnu
      abu := { t.abu with lookaside := [] }
      sck := idleTimers t.sck
      fiu := { t.fiu with sensor := .hunting }
      lkp := { t.lkp with rx := .hunting, answer := false, overrun := false, reply := none, mode := .setup } } :=
    fun t ht mode => ht.beside ⟨mode.symm, rfl, rfl, rfl, rfl, rfl, rfl, rfl, rfl, rfl,
      .trans (unflared_clearConds _ t) (.same rfl)⟩
  unfold warmReset
  dsimp only
  split
  · exact stopped _ (registers_modeStop h) (modeStop_mode s)
  · next mode => exact stopped _ (registers_flushQueue h) ((flushQueue_mode s).trans mode)

/-! ## The cold reset -/

theorem replicate_forall {α : Type} {n : Nat} {P : α → Prop} {x : α} (h : P x) (i : Fin n) :
    P (Vector.replicate n x)[i] := by
  have same : (Vector.replicate n x)[i] = x := Vector.getElem_replicate _
  rw [same]
  exact h

theorem fieldInRange_cold (levels) : FieldInRange (Fiu.cold levels) where
  pulses := fun ch => replicate_forall (P := PulseSafe ch) (x := PulseChannel.cold)
    ⟨fun h => absurd h (by decide), by decide, by decide, by decide, by decide, by decide⟩ ch
  points := replicate_forall (P := PointSafe) (x := SamplePoint.cold) (pointInRange_iff.1 (by decide))
  lines := fun l => by
    have line : (Vector.ofFn fun i => EventLine.cold (levelOf levels i))[l] = EventLine.cold (levelOf levels l) :=
      Vector.getElem_ofFn _
    show LineSafe (Vector.ofFn fun i => EventLine.cold (levelOf levels i))[l]
    rw [line]
    exact ⟨(by decide : 20 ≤ 255), Nat.zero_le _⟩

theorem gasInRange_cold : GasInRange Gbu.cold :=
  ⟨replicate_forall (P := GradeInRange) (by decide), replicate_forall (P := ConsumerInRange) (by
    unfold ConsumerInRange Consumer.cold
    simp)⟩

theorem drivesInRange_cold : DrivesInRange Dcu.cold.channels := by
  have stopped : ∀ ch : Fin 16, Dcu.cold.channels[ch].state = .stopped :=
    replicate_forall (P := fun c : DriveChannel => c.state = .stopped) rfl
  exact ⟨replicate_forall (P := DriveSafe) (driveInRange_iff.1 (by decide)), fun ch _ => stopped ch⟩

theorem exportSafe_cold : ExportSafe Exs.cold :=
  exportInRange_iff.1 ⟨by decide, fun _ => ⟨tableInRange_empty _, tableInRange_empty _⟩, by decide, by decide,
    (fun _ h => by cases h), by decide⟩

theorem heatInRange_cold : HeatInRange Hmu.cold :=
  ⟨replicate_forall (P := MeterSafe) (meterInRange_iff.1 (by decide)), by decide, by decide⟩

theorem pricesInRange_cold : PricesInRange Abu.cold.tariffs :=
  replicate_forall (P := fun v : Vector Nat 8 => ∀ k : Fin 8, v[k] ≤ 16777215)
    (replicate_forall (P := fun n : Nat => n ≤ 16777215) (Nat.zero_le _))

theorem quiet_cold (lsel levels) : Quiet (State.cold lsel levels) :=
  ⟨replicate_forall (P := fun c : DriveChannel => c.state = .stopped) rfl,
    replicate_forall (P := fun c : Consumer => c.pc = 0) rfl, rfl, rfl, rfl, by
      have cold : Cnu.cold.records[condFlaring] = CondRecord.cold condFlaring := Vector.getElem_ofFn _
      show Cnu.cold.records[condFlaring].active = false
      rw [cold]
      rfl⟩

theorem registers_cold (lsel levels) : Registers (State.cold lsel levels) :=
  ⟨⟨nofun, nofun⟩, fun _ => quiet_cold lsel levels, fieldInRange_cold levels, gasInRange_cold, drivesInRange_cold,
    exportSafe_cold, heatInRange_cold, pricesInRange_cold⟩

end
end Sys2Proof.Machine
end

section
/-!
The registers through every request: what its checks make sure of is what the ranges ask for.
-/
namespace Sys2Proof.Machine

section
variable {s : State}

/-! ## Chapters 1 and 10 -/

theorem beside_cnu (s) {d : Cnu} (h : Unflared s { s with cnu := d }) : Beside s { s with cnu := d } :=
  Signals.beside ⟨d, rfl⟩ h

theorem judgeClockSet_registers (h : Registers s) (f) : (judgeClockSet f s).Leaves Registers := by
  have set : ∀ slot, Registers { s with sck := clockSetTo f slot s.sck } := fun _ => h.beside (beside_sck s rfl)
  unfold judgeClockSet
  refine leaves_unlessRun fun _ => ?_
  repeat' split
  all_goals try trivial
  exact set _

theorem judgeClockTrim_registers (h : Registers s) (t) : (judgeClockTrim t s).Leaves Registers := by
  unfold judgeClockTrim
  split
  · trivial
  · exact h.beside (beside_sck s rfl)

theorem judgeTimerSet_registers (h : Registers s) (f) : (judgeTimerSet f s).Leaves Registers := by
  unfold judgeTimerSet
  repeat' split
  all_goals try trivial
  exact h.beside (beside_sck s rfl)

theorem judgeTimerDisarm_registers (h : Registers s) (k) : (judgeTimerDisarm k s).Leaves Registers := by
  unfold judgeTimerDisarm
  split
  · trivial
  · exact h.beside (beside_sck s rfl)

theorem judgeCaptureSet_registers (h : Registers s) (f) : (judgeCaptureSet f s).Leaves Registers := by
  unfold judgeCaptureSet
  repeat' split
  all_goals try trivial
  exact h.beside (beside_sck s rfl)

theorem judgeCaptureDisarm_registers (h : Registers s) (k) : (judgeCaptureDisarm k s).Leaves Registers := by
  unfold judgeCaptureDisarm
  split
  · trivial
  · exact h.beside (beside_sck s rfl)

theorem judgeCaptureTrigger_registers (h : Registers s) (k) : (judgeCaptureTrigger k s).Leaves Registers := by
  unfold judgeCaptureTrigger
  split
  · trivial
  split
  · exact h.beside ((captures_triggerUnit ..).beside (unflared_triggerUnit ..))
  · trivial

theorem judgeCaptureFetch_registers (h : Registers s) (f) : (judgeCaptureFetch f s).Leaves Registers := by
  have fetched : Registers { s with sck := { s.sck with log := s.sck.log.drop Config.fetchSize } } :=
    h.beside (beside_sck s rfl)
  unfold judgeCaptureFetch
  dsimp only
  split
  · exact fetched.beside (beside_follow (n := condCaptureReady) (by decide) ..)
  · exact fetched

theorem hostCondition_unflared {k n} (h : hostCondition k = some n) : condFlaring ∉ [n] := by
  unfold hostCondition at h
  repeat' split at h
  all_goals cases h
  all_goals decide

theorem judgeConditionRaise_registers (h : Registers s) (f) : (judgeConditionRaise f s).Leaves Registers := by
  unfold judgeConditionRaise
  split
  · trivial
  · next hn => exact h.beside (beside_raise (hostCondition_unflared hn) ..)

theorem unflared_route (n : Fin 32) (route alarm) :
    Unflared s { s with cnu := setRecord n { s.cnu.records[n] with route := route, alarm := alarm } s.cnu } := by
  refine ⟨fun quiet => ?_⟩
  show (put s.cnu.records n { s.cnu.records[n] with route := route, alarm := alarm })[condFlaring].active = false
  by_cases hn : n = condFlaring
  · subst hn
    rw [put_getElem_self]
    exact quiet
  · rw [put_getElem_ne _ _ hn]
    exact quiet

theorem judgeConditionRoute_registers (h : Registers s) (f) : (judgeConditionRoute f s).Leaves Registers := by
  unfold judgeConditionRoute
  repeat' split
  all_goals try trivial
  exact h.beside (beside_cnu s (unflared_route ..))

/-! ## Chapter 2 -/

theorem registers_rebase (h : Registers s) (role ch) : Registers (rebase role ch s) := by
  cases role with
  | unassigned => exact h
  | gasSupply g => exact h.gas h.ranges.gas fun mode => (h.quiet mode).pc
  | gasWorks g => exact h.gas h.ranges.gas fun mode => (h.quiet mode).pc
  | heatFlow m => exact h.meter (meterSafe_freshMeter h.ranges.field.pulses (h.ranges.heat.meters m) _)
  | exportEnergy => exact h.scheduler { h.ranges.exs with } fun mode => ⟨(h.quiet mode).idle, (h.quiet mode).items⟩

theorem registers_rebaseReaders (h : Registers s) (old ch) : Registers (rebaseReaders old ch s) := by
  rw [rebaseReaders_eq]
  dsimp only
  have upper : Registers
      (if cascadeEnds old ch s.fiu.pulses then rebase s.fiu.pulses[ch + 1].role (ch + 1) s else s) := by
    split
    · exact registers_rebase h ..
    · exact h
  split
  · exact registers_rebase upper ..
  · exact upper

theorem judgePulseSet_registers (h : Registers s) (f) : (judgePulseSet f s).Leaves Registers := by
  unfold judgePulseSet
  refine leaves_unlessRun fun _ => ?_
  split; · trivial
  next ch _ =>
  split; · trivial
  next width _ =>
  split; · trivial
  next odd =>
  split; · trivial
  next role _ =>
  split; · trivial
  next scale =>
  generalize most : (if width = Width.single then 65535 else 16777215) = top
  split; · trivial
  next limit =>
  have even : width = .cascade → ch.1 % 2 = 0 := fun cascade => by
    by_contra uneven
    exact odd ⟨cascade, by omega⟩
  have pulses := pulsesInRange_pulseSetTo h.ranges.field.pulses (role := role) even (scale := f.scale) (by omega)
    (limit := f.limit) ⟨by omega, by rw [most]; omega⟩
  have written : Registers { s with
      fiu := { s.fiu with pulses := pulseSetTo s.fiu.pulses ch width role f.scale f.limit } } :=
    h.field { h.ranges.field with pulses := pulses }
  exact registers_rebaseReaders written ..

theorem judgeEventSet_registers (h : Registers s) (f) : (judgeEventSet f s).Leaves Registers := by
  unfold judgeEventSet
  refine leaves_unlessRun fun _ => ?_
  split; · trivial
  next l _ =>
  split; · trivial
  next debounce =>
  exact h.field (fieldInRange_line h.ranges.field ⟨Nat.le_of_not_lt debounce, (h.ranges.field.lines l).2⟩)

theorem judgePointSet_registers (h : Registers s) (f) : (judgePointSet f s).Leaves Registers := by
  unfold judgePointSet
  refine leaves_unlessRun fun _ => ?_
  split; · trivial
  next sp _ =>
  split; · trivial
  next role _ =>
  split; · trivial
  split; · trivial
  exact registers_followSamples (registers_setPoint h
    (pointSafe_pointSetTo (h.ranges.field.points sp) role (by omega) (by omega)))

/-! ## Chapters 3 and 4 -/

theorem beside_followHolders (t s) : Beside s (followHolders t s) :=
  .trans (beside_follow (n := condHolderLowlow) (by decide) ..)
    (beside_follow (n := condHolderHighhigh) (by decide) ..)

theorem beside_followBlocked (t s) : Beside s (followBlocked t s) :=
  beside_follow (n := condConsumerBlocked) (by decide) ..

theorem judgeGradeSet_registers (h : Registers s) (f) : (judgeGradeSet f s).Leaves Registers := by
  unfold judgeGradeSet
  refine leaves_unlessRun fun _ => ?_
  split; · trivial
  next g _ =>
  split; · trivial
  split; · trivial
  next checked =>
  split; · trivial
  obtain ⟨cvLow, cv, agMax, retain, flare⟩ := gradeItemFailing_none checked
  obtain ⟨-, -, -, -, -, target, gain, theta⟩ := h.ranges.gas.1 g
  refine Registers.beside (h.gas (gasInRange_grade h.ranges.gas g ?_ _ _) fun mode => (h.quiet mode).pc)
    (beside_followHolders ..)
  exact ⟨cvLow, cv, agMax, retain, flare, target, gain, theta⟩

theorem judgeHolderSet_registers (h : Registers s) (f) : (judgeHolderSet f s).Leaves Registers := by
  unfold judgeHolderSet
  refine leaves_unlessRun fun _ => ?_
  split; · trivial
  next g _ =>
  split; · trivial
  next checked =>
  obtain ⟨target, gain, theta1, theta2, theta3, theta4, theta, hysteresis⟩ := holderItemFailing_none checked
  obtain ⟨cvLow, cv, agMax, retain, flare, -⟩ := h.ranges.gas.1 g
  refine Registers.beside (h.gas (gasInRange_grade h.ranges.gas g ?_ s.gbu.supplyBase s.gbu.worksBase)
    fun mode => (h.quiet mode).pc) (beside_followHolders ..)
  exact ⟨cvLow, cv, agMax, retain, flare, target, gain, theta1, theta2, theta3, theta4, theta, hysteresis⟩

/-- A consumer written with its Pc as it stands. -/
theorem Registers.consumer (h : Registers s) {n : Fin 12} {c : Consumer} (hc : ConsumerInRange c)
    (pc : c.pc = s.gbu.consumers[n].pc) : Registers (setConsumers (put s.gbu.consumers n c) s) :=
  h.gas (gasInRange_consumer h.ranges.gas n hc) fun mode =>
    put_forall (P := fun _ (c : Consumer) => c.pc = 0) (h.quiet mode).pc (pc.trans ((h.quiet mode).pc n))

theorem judgeConsumerSet_registers (h : Registers s) (f) : (judgeConsumerSet f s).Leaves Registers := by
  unfold judgeConsumerSet
  refine leaves_unlessRun fun mode => ?_
  split; · trivial
  next n _ =>
  split; · trivial
  next kind _ =>
  split; · trivial
  next permitted =>
  have written : Registers (setConsumers (put s.gbu.consumers n (consumerSetTo f kind s.gbu.consumers[n])) s) :=
    h.consumer (consumerInRange_consumerSetTo permitted ((h.quiet mode).pc n)) rfl
  dsimp only
  split
  · exact written
  · exact written.beside (beside_followBlocked ..)

theorem judgeConsumerEnable_registers (h : Registers s) (f) : (judgeConsumerEnable f s).Leaves Registers := by
  unfold judgeConsumerEnable
  split; · trivial
  next n _ =>
  dsimp only
  split; · trivial
  split; · trivial
  next defined =>
  refine Registers.beside (h.consumer (n := n) ?_ rfl) (beside_followBlocked ..)
  exact consumerInRange_enable (h.ranges.gas.2 n) (Bool.eq_false_of_not_eq_true defined)

theorem judgeRequestSet_registers (h : Registers s) (f) : (judgeRequestSet f s).Leaves Registers := by
  unfold judgeRequestSet
  split; · trivial
  next n _ =>
  dsimp only
  split; · trivial
  exact h.consumer (consumerInRange_request (h.ranges.gas.2 n) f.2) rfl

/-! ## Chapter 5 -/

theorem judgeDriveSet_registers (h : Registers s) {p f} (hp : parseDriveSet p = some f) :
    (judgeDriveSet f s).Leaves Registers :=
  judgeDriveSet_leaves hp h.ranges.drives fun _ drives states => h.drives drives fun mode i =>
    (states i).elim (fun same => same.trans ((h.quiet mode).stopped i)) id

theorem applySetpoint_stopped {v : Vector DriveChannel 16} (h : ∀ ch : Fin 16, v[ch].state = .stopped) (ch p) :
    ∀ k : Fin 16, (applySetpoint v ch p)[k].state = .stopped := by
  unfold applySetpoint
  rw [h ch]
  exact put_forall (P := fun _ (c : DriveChannel) => c.state = .stopped) h (h ch)

theorem judgeDriveSetpoint_registers (h : Registers s) (f) : (judgeDriveSetpoint f s).Leaves Registers := by
  unfold judgeDriveSetpoint
  split; · trivial
  dsimp only
  split; · trivial
  exact h.drives (drivesInRange_applySetpoint h.ranges.drives _ (Nat.min_le_right ..)) fun mode =>
    applySetpoint_stopped (h.quiet mode).stopped _ _

theorem judgeDriveStart_registers (h : Registers s) (k) : (judgeDriveStart k s).Leaves Registers := by
  unfold judgeDriveStart
  split; · trivial
  next ch _ =>
  split; · trivial
  next run =>
  split; · trivial
  next free =>
  simp only [Bool.or_eq_true, not_or, Bool.not_eq_true] at free
  exact h.drives (drivesInRange_startChannel _ h.ranges.drives free.1) fun mode => absurd mode run

theorem stopChannel_same {v : Vector DriveChannel 16} {ch : Fin 16} (h : v[ch].state = .stopped) :
    stopChannel v ch = v := by
  unfold stopChannel
  exact if_pos h

theorem judgeDriveStop_registers (h : Registers s) (k) : (judgeDriveStop k s).Leaves Registers := by
  unfold judgeDriveStop
  split; · trivial
  next ch _ =>
  split; · trivial
  exact h.drives (drivesInRange_stopChannel h.ranges.drives ch) fun mode => by
    rw [stopChannel_same ((h.quiet mode).stopped ch)]
    exact (h.quiet mode).stopped

theorem positionSet_stopped {v : Vector DriveChannel 16} (h : ∀ ch : Fin 16, v[ch].state = .stopped) (ch e) :
    ∀ k : Fin 16, (positionSet v ch e)[k].state = .stopped := by
  unfold positionSet
  dsimp only
  rw [h ch]
  exact put_forall (P := fun _ (c : DriveChannel) => c.state = .stopped) h rfl

theorem judgeDrivePosition_registers (h : Registers s) (f) : (judgeDrivePosition f s).Leaves Registers := by
  unfold judgeDrivePosition
  split; · trivial
  next ch _ =>
  dsimp only
  split; · trivial
  split; · trivial
  next within =>
  split; · trivial
  exact h.drives (drivesInRange_positionSet h.ranges.drives ch (Nat.le_of_not_lt within)) fun mode =>
    positionSet_stopped (h.quiet mode).stopped _ _

end
end Sys2Proof.Machine
end

section
/-!
The registers through the requests of Chapters 6 to 8.
-/
namespace Sys2Proof.Machine

section
variable {s t : State}

/-! ## Chapter 6 -/

theorem run_of_not_setup (h : s.lkp.mode ≠ .setup) : s.lkp.mode = .run := by
  cases mode : s.lkp.mode with
  | setup => exact absurd mode h
  | run => rfl

/-- Out of IDLE the part is in RUN (R110). -/
theorem Registers.run_of_phase (h : Registers s) (phase : s.exs.phase ≠ .idle) : s.lkp.mode = .run :=
  run_of_not_setup fun setup => phase (h.quiet setup).idle

theorem Registers.exports (h : Registers s) (run : s.lkp.mode = .run) (frame : Exports s t) (exs : ExportSafe t.exs) :
    Registers t := by
  obtain ⟨_, _, _, _, rfl⟩ := frame
  exact .of_run run (h.runs run) { h.ranges with exs := exs }

theorem judgeExportSet_registers (h : Registers s) (f) : (judgeExportSet f s).Leaves Registers := by
  unfold judgeExportSet
  split; · trivial
  next idle =>
  split; · trivial
  next checked =>
  split; · trivial
  have resting : s.exs.phase = .idle := by
    by_contra busy
    exact idle ⟨h.run_of_phase busy, busy⟩
  refine Registers.formRecord (h.scheduler (exportSafe_config h.ranges.exs resting ?_) fun mode =>
    ⟨resting, (h.quiet mode).items⟩)
  exact exportItemFailing_none checked

theorem nominationDone_registers (h : Registers s) (q clamped) : (nominationDone q clamped s).Leaves Registers := by
  unfold nominationDone
  split
  · exact h.beside (beside_raise (n := condNominationClamped) (by decide) ..)
  · exact h

theorem Registers.nextTable (h : Registers s) {v : Vector Nat 96} (hv : TableInRange v) (w) :
    Registers { s with exs := { s.exs with nextTab := v, written := w } } :=
  h.scheduler { h.ranges.exs with next := hv } fun mode => ⟨(h.quiet mode).idle, (h.quiet mode).items⟩

theorem Registers.currentTable (h : Registers s) {v : Vector Nat 96} (hv : TableInRange v) :
    Registers { s with exs := { s.exs with current := v } } :=
  h.scheduler { h.ranges.exs with current := hv } fun mode => ⟨(h.quiet mode).idle, (h.quiet mode).items⟩

theorem judgeNominate_registers (h : Registers s) (f) : (judgeNominate f s).Leaves Registers := by
  have next := tableInRange_writeEntries f h.ranges.exs.capacity h.ranges.exs.next
  unfold judgeNominate
  split; · trivial
  split; · trivial
  exact nominationDone_registers (h.nextTable next _) ..

theorem judgeNominateCancel_registers (h : Registers s) (f) : (judgeNominateCancel f s).Leaves Registers :=
  h.scheduler (exportSafe_emptyNext h.ranges.exs) fun mode => ⟨(h.quiet mode).idle, (h.quiet mode).items⟩

theorem judgeNominateAmend_registers (h : Registers s) (f) : (judgeNominateAmend f s).Leaves Registers := by
  have current := tableInRange_writeEntries f h.ranges.exs.capacity h.ranges.exs.current
  unfold judgeNominateAmend
  split; · trivial
  split; · trivial
  split; · trivial
  exact nominationDone_registers (h.currentTable current) ..

theorem judgeExportArm_registers (h : Registers s) (f) : (judgeExportArm f s).Leaves Registers := by
  have exs := h.ranges.exs
  unfold judgeExportArm
  split; · trivial
  next permitted =>
  exact h.exports (run_of_not_setup fun setup => permitted (.inl setup))
    ((exports_changeExport ..).trans (exports_formRecord _))
    { exportSafe_changeExport exs.noDeviations exs.deviations (st := .armed) 0 s.sck.pos nofun with }

theorem judgeExportHalt_registers (h : Registers s) (f) : (judgeExportHalt f s).Leaves Registers := by
  have exs := h.ranges.exs
  have halted := exportSafe_changeExport exs.noDeviations exs.deviations (st := .halted) 0 s.sck.pos nofun
  unfold judgeExportHalt
  split; · trivial
  next permitted =>
  exact h.exports (h.run_of_phase fun idle => permitted (.inl idle))
    (((exports_changeExport ..).trans (exports_exs ..)).trans (exports_formRecord _))
    { halted with recoveries := Nat.zero_le _, outside := fun _ => rfl }

theorem judgeExportRelease_registers (h : Registers s) (f) : (judgeExportRelease f s).Leaves Registers := by
  have exs := h.ranges.exs
  have released := exportSafe_changeExport exs.noDeviations exs.deviations (st := .idle) 0 s.sck.pos nofun
  unfold judgeExportRelease
  split; · trivial
  next halted =>
  exact h.exports (h.run_of_phase fun idle => halted (by rw [idle]; decide))
    (((exports_changeExport ..).trans (exports_exs ..)).trans (exports_formRecord _))
    { released.noDeviations with }

theorem judgeCurtail_registers (h : Registers s) (f) : (judgeCurtail f s).Leaves Registers := by
  unfold judgeCurtail
  split; · trivial
  next cap =>
  split; · trivial
  next slots =>
  refine Registers.formRecord (h.scheduler ?_ fun mode => ⟨(h.quiet mode).idle, (h.quiet mode).items⟩)
  refine { h.ranges.exs with curtail := fun c hc => ?_ }
  dsimp only at hc
  split at hc
  · cases hc
  · cases hc
    dsimp only
    omega

theorem judgeExportLogFetch_registers (h : Registers s) (f) : (judgeExportLogFetch f s).Leaves Registers := by
  have fetched : Registers { s with exs := { s.exs with log := s.exs.log.drop Config.fetchSize } } :=
    h.scheduler { h.ranges.exs with } fun mode => ⟨(h.quiet mode).idle, (h.quiet mode).items⟩
  unfold judgeExportLogFetch
  dsimp only
  split
  · exact fetched.beside (beside_follow (n := condExportLogReady) (by decide) ..)
  · exact fetched

theorem judgeNominationRead_registers (h : Registers s) (f) : (judgeNominationRead f s).Leaves Registers := by
  unfold judgeNominationRead
  split; · trivial
  exact leaves_checkRange h

/-! ## Chapters 7 and 8 -/

theorem judgeMeterSet_registers (h : Registers s) (f) : (judgeMeterSet f s).Leaves Registers := by
  unfold judgeMeterSet
  refine leaves_unlessRun fun _ => ?_
  split; · trivial
  next m _ =>
  split; · trivial
  split; · trivial
  next checked =>
  obtain ⟨⟨kLow, k⟩, ⟨limitLow, limit⟩, key⟩ := meterItemFailing_none checked
  refine h.meter (meterSafe_freshMeter h.ranges.field.pulses ?_ _)
  exact { h.ranges.heat.meters m with kLow := kLow, k := k, limitLow := limitLow, limit := limit, key := key }

theorem judgeMeterKey_registers (h : Registers s) {p f} (hp : parse824 p = some f) :
    (judgeMeterKey f s).Leaves Registers := by
  unfold judgeMeterKey
  split; · trivial
  next m _ => exact h.meter { h.ranges.heat.meters m with key := parse824_range hp }

theorem judgeMeterConfirm_registers (h : Registers s) (k) : (judgeMeterConfirm k s).Leaves Registers := by
  unfold judgeMeterConfirm
  split; · trivial
  next range =>
  refine h.heat { h.ranges.heat with confirmLow := ?_, confirm := ?_ } fun mode => (h.quiet mode).markers
  · dsimp only
    omega
  · dsimp only
    omega

theorem beside_setEntry (i e s) : Beside s (setEntry i e s) := beside_abu s rfl

theorem judgeAccountAdd_registers (h : Registers s) (f) : (judgeAccountAdd f s).Leaves Registers := by
  unfold judgeAccountAdd
  repeat' split
  all_goals try trivial
  exact h.beside (beside_setEntry ..)

theorem judgeAccountRemove_registers (h : Registers s) (k) : (judgeAccountRemove k s).Leaves Registers := by
  refine leaves_withAccount fun i e => ?_
  split; · trivial
  exact h.beside (beside_setEntry ..)

theorem judgeAccountSuspend_registers (h : Registers s) (k) : (judgeAccountSuspend k s).Leaves Registers :=
  leaves_withAccount fun _ _ => h.beside (beside_setEntry ..)

theorem judgeAccountResume_registers (h : Registers s) (k) : (judgeAccountResume k s).Leaves Registers :=
  leaves_withAccount fun _ _ => h.beside (beside_setEntry ..)

theorem judgeAccountTariff_registers (h : Registers s) (f) : (judgeAccountTariff f s).Leaves Registers := by
  unfold judgeAccountTariff
  split; · trivial
  split; · trivial
  exact leaves_withAccount fun _ _ => h.beside (beside_setEntry ..)

theorem Registers.tariffs (h : Registers s) {v : Vector (Vector Nat 8) 8} (hv : PricesInRange v) :
    Registers { s with abu := { s.abu with tariffs := v } } := h.prices hv

theorem judgeTariffSet_registers (h : Registers s) {p f} (hp : parseTariffSet p = some f) :
    (judgeTariffSet f s).Leaves Registers := by
  unfold judgeTariffSet
  split; · trivial
  next tariff _ =>
  exact h.tariffs (pricesInRange_tariffSet h.ranges.prices (t := tariff) (parseTariffSet_range hp))

theorem judgeBandmapSet_registers (h : Registers s) (f) : (judgeBandmapSet f s).Leaves Registers := by
  unfold judgeBandmapSet
  split; · trivial
  split; · trivial
  split; · trivial
  exact h.beside (beside_abu s rfl)

theorem judgeLookasidePurge_registers (h : Registers s) (k) : (judgeLookasidePurge k s).Leaves Registers := by
  unfold judgeLookasidePurge
  split
  · exact h.beside (beside_abu s rfl)
  split
  · trivial
  · exact h.beside (beside_abu s rfl)

/-- A marker appended retires at once where it stands at the head (R139, R158). -/
theorem judgePeriodClose_registers (h : Registers s) (f) : (judgePeriodClose f s).Leaves Registers := by
  have marked : Registers { s with abu := { s.abu with close := .marked } } := h.beside (beside_abu s rfl)
  unfold judgePeriodClose
  split; · trivial
  split; · trivial
  refine marked.retires (retires_retireRun ..) (heatInRange_retireRun marked.ranges.heat _) (retireRun_stands _ _).2.2
    (fun markers => retireRun_markers ?_ _) (unflared_retireRun ..)
  rw [List.all_append, Bool.and_eq_true]
  exact ⟨markers, rfl⟩

theorem resumeEmission_tariffs (a : Abu) : (resumeEmission a).tariffs = a.tariffs := by
  unfold resumeEmission
  repeat' split
  all_goals rfl

theorem judgeStatementFetch_registers (h : Registers s) (f) : (judgeStatementFetch f s).Leaves Registers := by
  have fetched : Registers { s with
      abu := { resumeEmission s.abu with statements := s.abu.statements.drop Config.fetchSize } } :=
    h.beside (beside_abu s (resumeEmission_tariffs s.abu))
  unfold judgeStatementFetch
  dsimp only
  split
  · exact fetched.beside (beside_follow (n := condStatementReady) (by decide) ..)
  · exact fetched

/-! ## Reads -/

theorem judgeGradeRead_registers (h : Registers s) (k) : (judgeGradeRead k s).Leaves Registers := by
  unfold judgeGradeRead
  split; · trivial
  exact h

theorem judgeConsumerRead_registers (h : Registers s) (k) : (judgeConsumerRead k s).Leaves Registers := by
  unfold judgeConsumerRead
  split; · trivial
  exact h

theorem judgeMeterRead_registers (h : Registers s) (k) : (judgeMeterRead k s).Leaves Registers := by
  unfold judgeMeterRead
  split; · trivial
  exact h

theorem judgeSuspenseRead_registers (h : Registers s) (k) : (judgeSuspenseRead k s).Leaves Registers := by
  unfold judgeSuspenseRead
  split; · trivial
  exact h

theorem judgeRetireRead_registers (h : Registers s) (f) : (judgeRetireRead f s).Leaves Registers := by
  unfold judgeRetireRead
  split; · trivial
  split; · trivial
  exact h

/-! ## Chapter 9 -/

theorem judgeModeStart_registers (h : Registers s) (f) : (judgeModeStart f s).Leaves Registers := by
  unfold judgeModeStart
  split; · trivial
  split; · trivial
  exact registers_modeStart h

theorem judgeModeStop_registers (h : Registers s) (f) : (judgeModeStop f s).Leaves Registers := by
  unfold judgeModeStop
  split; · trivial
  exact registers_modeStop h

end
end Sys2Proof.Machine
end

section
/-!
The registers through the events, and so through every command and every step.
-/
namespace Sys2Proof.Machine

section
variable {s t : State}

/-! ## The link -/

theorem beside_answer (kind code q s) : Beside s (State.answer kind code q s) := beside_lkp s rfl
theorem beside_closeFrame (s) : Beside s (closeFrame s) := beside_lkp s rfl
theorem beside_replyEnded (s) : Beside s (replyEnded s) := beside_lkp s rfl
theorem beside_overrunFrame (kind s) : Beside s (overrunFrame kind s) :=
  (beside_closeFrame s).trans (beside_raise (n := condLinkOverrun) (by decide) ..)
theorem beside_breakFrame (k s) : Beside s (breakFrame k s) :=
  (beside_closeFrame s).trans (beside_raise (n := condLinkFrame) (by decide) ..)

theorem beside_huntByte (b s) : Beside s (huntByte b s) := by
  unfold huntByte
  split
  · exact beside_lkp s rfl
  · exact .refl s

theorem beside_discardFrame (f s) : Beside s (discardFrame f s) := by
  unfold discardFrame
  repeat' split
  · exact beside_overrunFrame ..
  · exact .refl s
  · exact beside_breakFrame ..

theorem beside_breakBy (cause l s) : Beside s (breakBy cause l s) := by
  cases cause with
  | badLen len =>
    unfold breakBy
    dsimp only
    split
    · exact beside_breakFrame ..
    · exact .refl s
  | gap b stopBit =>
    cases stopBit
    · exact beside_breakFrame ..
    · exact (beside_breakFrame ..).trans (beside_huntByte ..)
  | stop => exact beside_breakFrame ..

/-- A request keeps the registers where its rule does, for the fields that its payload spells (R167 to R169). -/
theorem registers_request {α : Type} {kind : Byte} {parse : List Byte → Option α} {judge : α → State → Answer}
    {p : List Byte} (hs : Registers s) (h : request kind parse judge p s = .next t)
    (hj : ∀ f, parse p = some f → (judge f s).Leaves Registers) : Registers t := by
  unfold request at h
  split at h
  · cases h
    exact hs.beside (beside_overrunFrame ..)
  split at h
  · cases h
    exact hs.beside (beside_answer ..)
  · next f parsed =>
    have judged := hj f parsed
    cases h
    cases answer : judge f s with
    | done code q u =>
      rw [answer] at judged
      exact Registers.beside judged (beside_answer ..)
    | refuse code q => exact hs.beside (beside_answer ..)

theorem registers_unknownKind (hs : Registers s) {kind p} (h : execUnknownKind kind p s = .next t) : Registers t := by
  unfold execUnknownKind at h
  split at h
  · cases h
    exact hs
  split at h <;> cases h
  · exact hs.beside (beside_overrunFrame ..)
  · exact hs.beside (beside_answer ..)

theorem registers_linkFrameBroken (hs : Registers s) {cause} (h : execLinkFrameBroken cause s = .next t) :
    Registers t := by
  unfold execLinkFrameBroken at h
  split at h <;> cases h
  · exact hs
  · exact hs.beside (beside_breakBy ..)

theorem registers_ite {c : Prop} [Decidable c] (hs : Registers s) (ht : Registers t) :
    Registers (if c then t else s) := by
  split
  · exact ht
  · exact hs

theorem registers_frameDiscarded (hs : Registers s) {bytes} (h : execFrameDiscarded bytes s = .next t) :
    Registers t := by
  unfold execFrameDiscarded at h
  cases h
  exact registers_ite hs (hs.beside (beside_discardFrame ..))

theorem registers_replySent (hs : Registers s) (h : execReplySent s = .next t) : Registers t := by
  unfold execReplySent at h
  cases h
  split
  · exact registers_warmReset hs
  · exact hs.beside (beside_replyEnded s)

/-! ## Drive channels -/

/-- A channel changed by an operation that keeps its mode and its state. -/
theorem Registers.channel (h : Registers s) {ch : Fin 16} {c : DriveChannel} (m : Moves s.dcu.channels[ch] c) :
    Registers { s with dcu := { s.dcu with channels := put s.dcu.channels ch c } } :=
  h.drives (drivesInRange_put h.ranges.drives m) fun mode =>
    put_forall (P := fun _ (c : DriveChannel) => c.state = .stopped) (h.quiet mode).stopped
      (m.state.trans ((h.quiet mode).stopped ch))

theorem registers_periodStart (hs : Registers s) {ch} (h : execPeriodStart ch s = .next t) : Registers t := by
  unfold execPeriodStart at h
  dsimp only at h
  split at h <;> cases h
  · exact hs.channel (moves_startPeriod ..)
  · exact hs

theorem registers_activeTimeEnd (hs : Registers s) {ch} (h : execActiveTimeEnd ch s = .next t) : Registers t := by
  unfold execActiveTimeEnd at h
  dsimp only at h
  split at h <;> cases h
  · next due => exact hs.channel (moves_activeTimeEnd (Bool.and_eq_true _ _ ▸ due).2)
  · exact hs

theorem putPair_stopped {v : Vector DriveChannel 16} (h : ∀ k : Fin 16, v[k].state = .stopped) {ch : Fin 16}
    {c : DriveChannel} (hc : c.state = .stopped) : ∀ k : Fin 16, (putPair v ch c)[k].state = .stopped := by
  have own := put_forall (P := fun _ (c : DriveChannel) => c.state = .stopped) (k := ch)
    (x := { c with pin := levelWhen (raiseDriven c) c }) h hc
  exact put_forall (P := fun _ (c : DriveChannel) => c.state = .stopped) (k := ch + 1)
    (x := { v[ch + 1] with pin := levelWhen (lowerDriven c) c }) own (h (ch + 1))

theorem registers_tickPair (h : Registers s) (ch) : Registers (tickPair ch s) :=
  h.drives (drivesInRange_putPair h.ranges.drives (moves_pairBaseTick _)) fun mode =>
    putPair_stopped (h.quiet mode).stopped ((moves_pairBaseTick _).state.trans ((h.quiet mode).stopped ch))

theorem drivesInRange_each {v : Vector DriveChannel 16} (h : DrivesInRange v) {f : DriveChannel → DriveChannel}
    (moves : ∀ c, Moves c (f c)) : DrivesInRange (each v fun _ c => f c) := by
  have mode : ∀ k : Fin 16, (each v fun _ c => f c)[k].mode = v[k].mode := fun k => by
    rw [each_getElem]
    exact (moves _).mode
  refine ⟨fun k => ?_, fun k member => ?_⟩
  · rw [each_getElem]
    exact (moves _).safe (h.1 k)
  · rw [each_getElem]
    exact (moves _).state.trans (h.2 k (by rwa [isMember_congr mode] at member))

theorem registers_idleMs (h : Registers s) : Registers (idleMs s) := by
  have ticked := (h.beside (beside_sck s (c := { s.sck with phaseMs := min (s.sck.phaseMs + 1) 999 }) rfl)).drives
    (drivesInRange_each h.ranges.drives moves_dividerTick) fun mode k => by
      rw [each_getElem]
      exact (moves_dividerTick _).state.trans ((h.quiet mode).stopped k)
  exact ticked

/-! ## Emission and the sensor port -/

theorem advanceCursor_tariffs (p s) : (advanceCursor p s).abu.tariffs = s.abu.tariffs := by
  unfold advanceCursor
  split <;> rfl

theorem unflared_advanceCursor (p s) : Unflared s (advanceCursor p s) := by
  unfold advanceCursor
  split
  · exact .same rfl
  · exact .after (unflared_raise (n := condCloseDone) (by decide) ..) rfl

theorem registers_emitPlace (h : Registers s) : Registers (emitPlace s) := by
  have advanced : ∀ s p, Beside s (advanceCursor p s) := fun s p => by
    have tariffs := advanceCursor_tariffs p s
    have unflared := unflared_advanceCursor p s
    obtain ⟨_, _, frame⟩ := advanceCursor_frame p s
    rw [frame] at tariffs unflared ⊢
    exact ⟨rfl, rfl, rfl, rfl, rfl, rfl, rfl, rfl, rfl, tariffs, unflared⟩
  unfold emitPlace
  dsimp only
  split
  · exact h.beside (advanced ..)
  next x u placed =>
  split
  · exact h.beside (beside_abu s rfl)
  · have appended : ∀ t (a : Abu), a.tariffs = s.abu.tariffs → Beside s (appendStatement t { s with abu := a }) :=
      fun t a tariffs => .trans (beside_abu s (a := { a with statements := a.statements ++ [t] }) tariffs)
        (beside_follow (n := condStatementReady) (by decide) ..)
    have tariffs : u.tariffs = s.abu.tariffs := by
      obtain ⟨_, _, rfl⟩ := placeAt_frame placed
      rfl
    exact (h.beside (appended x { u with emitted := u.emitted + 1 } tariffs)).beside (advanced ..)

theorem registers_emissionStep (hs : Registers s) (h : execEmissionStep s = .next t) : Registers t := by
  unfold execEmissionStep at h
  split at h <;> cases h
  · exact registers_emitPlace hs
  all_goals exact hs

theorem registers_sensorRecord (hs : Registers s) {bytes} (h : execSensorRecord bytes s = .next t) : Registers t := by
  unfold execSensorRecord at h
  split at h <;> cases h
  · exact registers_sensorBytes (hs.beside (beside_setSensor ..)) bytes
  · exact registers_sensorBytes hs bytes

theorem registers_sensorRecordBroken (hs : Registers s) {bytes cause}
    (h : execSensorRecordBroken bytes cause s = .next t) : Registers t := by
  have broken := registers_breakRecord (registers_sensorBytes hs bytes)
  unfold execSensorRecordBroken at h
  dsimp only at h
  split at h <;> cases h
  · exact broken
  · split
    · exact registers_sensorByte broken _
    · exact broken

end

/-! ## Every command -/

/-- Every command but the byte of E7H, which may complete a frame, keeps the registers. -/
theorem exec_registers_of_ne {c : Instr} {s t : State} (hc : c ≠ .linkStartByte) (hs : Registers s)
    (h : exec c s = .next t) : Registers t := by
  cases c with
  | coldReset lsel levels =>
    cases h
    exact (registers_cold lsel levels).beside (beside_pending ..)
  | warmReset => cases h; exact registers_warmReset hs
  | identify p => exact registers_request hs h fun _ _ => hs
  | status p => exact registers_request hs h fun _ _ => hs
  | modeStart p => exact registers_request hs h fun f _ => judgeModeStart_registers hs f
  | modeStop p => exact registers_request hs h fun f _ => judgeModeStop_registers hs f
  | restart p => exact registers_request hs h fun _ _ => hs
  | clockSet p => exact registers_request hs h fun f _ => judgeClockSet_registers hs f
  | clockTrim p => exact registers_request hs h fun f _ => judgeClockTrim_registers hs f
  | clockRead p => exact registers_request hs h fun _ _ => hs
  | timerSet p => exact registers_request hs h fun f _ => judgeTimerSet_registers hs f
  | timerDisarm p => exact registers_request hs h fun f _ => judgeTimerDisarm_registers hs f
  | captureSet p => exact registers_request hs h fun f _ => judgeCaptureSet_registers hs f
  | captureDisarm p => exact registers_request hs h fun f _ => judgeCaptureDisarm_registers hs f
  | captureTrigger p => exact registers_request hs h fun f _ => judgeCaptureTrigger_registers hs f
  | captureFetch p => exact registers_request hs h fun f _ => judgeCaptureFetch_registers hs f
  | pulseSet p => exact registers_request hs h fun f _ => judgePulseSet_registers hs f
  | pulseRead p => exact registers_request hs h fun _ _ => leaves_checkRange hs
  | eventSet p => exact registers_request hs h fun f _ => judgeEventSet_registers hs f
  | eventRead p => exact registers_request hs h fun _ _ => hs
  | pointSet p => exact registers_request hs h fun f _ => judgePointSet_registers hs f
  | pointRead p => exact registers_request hs h fun _ _ => leaves_checkRange hs
  | gradeSet p => exact registers_request hs h fun f _ => judgeGradeSet_registers hs f
  | holderSet p => exact registers_request hs h fun f _ => judgeHolderSet_registers hs f
  | gradeRead p => exact registers_request hs h fun f _ => judgeGradeRead_registers hs f
  | consumerSet p => exact registers_request hs h fun f _ => judgeConsumerSet_registers hs f
  | consumerEnable p => exact registers_request hs h fun f _ => judgeConsumerEnable_registers hs f
  | requestSet p => exact registers_request hs h fun f _ => judgeRequestSet_registers hs f
  | consumerRead p => exact registers_request hs h fun f _ => judgeConsumerRead_registers hs f
  | stepRead p => exact registers_request hs h fun _ _ => hs
  | driveSet p => exact registers_request hs h fun _ parsed => judgeDriveSet_registers hs parsed
  | driveSetpoint p => exact registers_request hs h fun f _ => judgeDriveSetpoint_registers hs f
  | driveStart p => exact registers_request hs h fun f _ => judgeDriveStart_registers hs f
  | driveStop p => exact registers_request hs h fun f _ => judgeDriveStop_registers hs f
  | drivePosition p => exact registers_request hs h fun f _ => judgeDrivePosition_registers hs f
  | driveRead p => exact registers_request hs h fun _ _ => leaves_checkRange hs
  | exportSet p => exact registers_request hs h fun f _ => judgeExportSet_registers hs f
  | nominate p => exact registers_request hs h fun f _ => judgeNominate_registers hs f
  | nominateCancel p => exact registers_request hs h fun f _ => judgeNominateCancel_registers hs f
  | nominateAmend p => exact registers_request hs h fun f _ => judgeNominateAmend_registers hs f
  | exportArm p => exact registers_request hs h fun f _ => judgeExportArm_registers hs f
  | exportHalt p => exact registers_request hs h fun f _ => judgeExportHalt_registers hs f
  | exportRelease p => exact registers_request hs h fun f _ => judgeExportRelease_registers hs f
  | curtail p => exact registers_request hs h fun f _ => judgeCurtail_registers hs f
  | exportLogFetch p => exact registers_request hs h fun f _ => judgeExportLogFetch_registers hs f
  | exportRead p => exact registers_request hs h fun _ _ => hs
  | nominationRead p => exact registers_request hs h fun f _ => judgeNominationRead_registers hs f
  | meterSet p => exact registers_request hs h fun f _ => judgeMeterSet_registers hs f
  | meterKey p => exact registers_request hs h fun _ parsed => judgeMeterKey_registers hs parsed
  | meterConfirm p => exact registers_request hs h fun f _ => judgeMeterConfirm_registers hs f
  | meterRead p => exact registers_request hs h fun f _ => judgeMeterRead_registers hs f
  | retireRead p => exact registers_request hs h fun f _ => judgeRetireRead_registers hs f
  | accountAdd p => exact registers_request hs h fun f _ => judgeAccountAdd_registers hs f
  | accountRemove p => exact registers_request hs h fun f _ => judgeAccountRemove_registers hs f
  | accountSuspend p => exact registers_request hs h fun f _ => judgeAccountSuspend_registers hs f
  | accountResume p => exact registers_request hs h fun f _ => judgeAccountResume_registers hs f
  | accountTariff p => exact registers_request hs h fun f _ => judgeAccountTariff_registers hs f
  | accountRead p => exact registers_request hs h fun _ _ => leaves_withAccount fun _ _ => hs
  | directoryRead p => exact registers_request hs h fun _ _ => leaves_checkRange hs
  | lookasidePurge p => exact registers_request hs h fun f _ => judgeLookasidePurge_registers hs f
  | lookasideRead p => exact registers_request hs h fun _ _ => hs
  | tariffSet p => exact registers_request hs h fun _ parsed => judgeTariffSet_registers hs parsed
  | bandmapSet p => exact registers_request hs h fun f _ => judgeBandmapSet_registers hs f
  | tariffRead p => exact registers_request hs h fun _ _ => hs
  | suspenseRead p => exact registers_request hs h fun f _ => judgeSuspenseRead_registers hs f
  | periodClose p => exact registers_request hs h fun f _ => judgePeriodClose_registers hs f
  | statementFetch p => exact registers_request hs h fun f _ => judgeStatementFetch_registers hs f
  | periodRead p => exact registers_request hs h fun _ _ => hs
  | conditionRead p => exact registers_request hs h fun _ _ => hs
  | conditionClear p =>
    exact registers_request hs h fun mask _ => hs.beside (beside_cnu s (unflared_clearConds mask s))
  | conditionRaise p => exact registers_request hs h fun f _ => judgeConditionRaise_registers hs f
  | conditionRoute p => exact registers_request hs h fun f _ => judgeConditionRoute_registers hs f
  | unknownKind kind p => exact registers_unknownKind (p := p) hs h
  | linkFrameBroken cause => exact registers_linkFrameBroken hs h
  | frameDiscarded bytes => exact registers_frameDiscarded hs h
  | replySent => exact registers_replySent hs h
  | timebaseTick o => cases h; exact registers_tick hs o
  | pointAgeExpiry sp o =>
    cases h
    split
    · exact hs
    · exact registers_tick hs o
  | stepBoundary o => cases h; exact registers_ite hs (registers_tick hs o)
  | timerExpiry n o => cases h; exact registers_ite hs (registers_tick hs o)
  | pulseArrival ch =>
    cases h
    exact hs.field { hs.ranges.field with pulses := pulsesInRange_arrive hs.ranges.field.pulses ch }
  | eventLineChange l levels => cases h; exact registers_ite hs (registers_sampleLines hs levels)
  | sensorRecord bytes => exact registers_sensorRecord hs h
  | sensorRecordBroken bytes cause => exact registers_sensorRecordBroken hs h
  | readingExpiry i o => cases h; exact registers_ite hs (registers_tick hs o)
  | emissionStep => exact registers_emissionStep hs h
  | periodStart ch => exact registers_periodStart hs h
  | activeTimeEnd ch => exact registers_activeTimeEnd hs h
  | pairTick ch => cases h; exact registers_ite hs (registers_tickPair hs ch)
  | moveEnd ch => cases h; exact registers_ite hs (registers_tickPair hs ch)
  | pauseEnd ch => cases h; exact registers_ite hs (registers_tickPair hs ch)
  | eventLineSample levels => cases h; exact registers_sampleLines hs levels
  | linkStartByte => exact absurd rfl hc
  | sensorStartByte => cases h; exact registers_sensorByte hs _

/-- The byte of E7H completes a frame, whose request runs, or is collected or discarded (R166, R167). -/
theorem collectByte_registers {b l s t} (hs : Registers s) (h : collectByte b l s = .next t) : Registers t := by
  unfold collectByte completeFrame at h
  dsimp only at h
  split at h
  · cases h
    exact hs.beside (beside_breakFrame ..)
  split at h
  · split at h
    · cases h
      exact hs.beside (beside_discardFrame ..)
    · rw [dispatchFrame_eq_exec] at h
      exact exec_registers_of_ne (requestOf_ne_linkStartByte _ _) hs h
  · cases h
    exact hs.beside (beside_lkp s rfl)

theorem exec_registers {c : Instr} {s t : State} (hs : Registers s) (h : exec c s = .next t) : Registers t := by
  by_cases hc : c = .linkStartByte
  · subst hc
    have h : execLinkStartByte s = .next t := h
    unfold execLinkStartByte at h
    split at h
    · cases h
      exact hs.beside (beside_huntByte ..)
    · exact collectByte_registers hs h
  · exact exec_registers_of_ne hc hs h

/-- Settles O57: the ranges, and SETUP's rest, through each command and the idle millisecond. -/
theorem registersStaySound : Obligations.RegistersStaySound := by
  unfold Obligations.RegistersStaySound
  intro s t h sound
  have hs : Registers s := registersSound_iff.1 sound
  refine registersSound_iff.2 ?_
  unfold step at h
  split at h
  · cases h
    exact registers_idleMs hs
  · exact exec_registers (hs.beside (beside_pending ..)) h

end Sys2Proof.Machine
end

section
/-!
Where the band stage leaves a holder band (R48 to R52).
-/
namespace Sys2Proof.Machine

variable {e : GradeEntry} {level : Int}

/-! ## Placing and rising -/

/-- A band that the level has reached; every level reaches LOWLOW (Table 3-3). -/
def Reached (e : GradeEntry) (level : Int) (b : Band) : Prop := b = .lowlow ∨ (thresholdOf e b : Int) ≤ level

/-- The band of Table 3-3 is the highest one reached, and every band below it is reached too. -/
theorem reached_iff (low : e.theta1 < e.theta2) (middle : e.theta2 < e.theta3) (high : e.theta3 < e.theta4) (b : Band) :
    Reached e level b ↔ b.code ≤ (placedBand e level).code := by
  unfold Reached placedBand
  cases b with
  | lowlow => simp [Band.code]
  | low | normal | high | highhigh =>
    simp only [reduceCtorEq, false_or, thresholdOf]
    repeat' split
    all_goals simp only [Band.code]; omega

/-! ## Falling -/

/-- A band that the fall test keeps; LOWLOW has no test (R52). -/
def Kept (e : GradeEntry) (level : Int) (b : Band) : Prop :=
  b = .lowlow ∨ (thresholdOf e b : Int) - e.hysteresis ≤ level

theorem hasFallen_iff {b : Band} (h : b ≠ .lowlow) : hasFallen e level b = true ↔ ¬ Kept e level b := by
  simp only [hasFallen, Kept, h, false_or, decide_eq_true_eq, not_le]

/-- `after` is the highest band kept at or below `start` (R52). -/
structure HighestKept (e : GradeEntry) (level : Int) (start after : Band) : Prop where
  kept : Kept e level after
  below : after.code ≤ start.code
  highest : ∀ b : Band, b.code ≤ start.code → Kept e level b → b.code ≤ after.code

theorem highestKept_lowlow : HighestKept e level .lowlow .lowlow := ⟨.inl rfl, le_rfl, fun _ h _ => h⟩

/-- One test on a band gives its highest band kept from that of the band below (R52, steps 2 and 3). -/
theorem highestKept_fallOr {b below after : Band} (h : HighestKept e level below after)
    (next : b.code = below.code + 1) : HighestKept e level b (fallOr e level b after) := by
  have tested : b ≠ .lowlow := by rintro rfl; exact absurd next (Nat.succ_ne_zero _).symm
  unfold fallOr
  split
  · next fallen =>
    refine ⟨h.kept, by have := h.below; omega, fun c hc kept => h.highest c ?_ kept⟩
    have other : c.code ≠ b.code := fun same => (hasFallen_iff tested).1 fallen (bandCode_inj same ▸ kept)
    omega
  · next stands =>
    exact ⟨not_not.1 fun lost => stands ((hasFallen_iff tested).2 lost), le_rfl, fun _ h _ => h⟩

theorem highestKept_fallFrom (e : GradeEntry) (level : Int) (b : Band) :
    HighestKept e level b (fallFrom e level b) := by
  have low : HighestKept e level .low _ := highestKept_fallOr highestKept_lowlow rfl
  have normal : HighestKept e level .normal _ := highestKept_fallOr low rfl
  have high : HighestKept e level .high _ := highestKept_fallOr normal rfl
  cases b with
  | lowlow => exact highestKept_lowlow
  | low => exact low
  | normal => exact normal
  | high => exact high
  | highhigh => exact highestKept_fallOr high rfl

/-! ## The stage -/

theorem bandStage_unusable (e : GradeEntry) : bandStage e none = (e.band, e.placed) := rfl

theorem bandStage_unplaced (h : e.placed = false) : bandStage e (some level) = (placedBand e level, true) := by
  simp [bandStage, h]

theorem bandStage_rises (h : e.placed = true) (rises : e.band.code < (placedBand e level).code) :
    bandStage e (some level) = (placedBand e level, true) := by
  simp [bandStage, riseOrFall, h, rises]

theorem bandStage_falls (h : e.placed = true) (stays : (placedBand e level).code ≤ e.band.code) :
    bandStage e (some level) = (fallFrom e level e.band, true) := by
  simp [bandStage, riseOrFall, h, Nat.not_lt.2 stays]

theorem bandStage_places (e : GradeEntry) (level : Int) : (bandStage e (some level)).2 = true := by
  unfold bandStage
  dsimp only
  split <;> rfl

/-- Settles O24: the placed band is the highest one reached, and the fall test finds the highest one kept. -/
theorem bandsRiseAndFall : Obligations.BandsRiseAndFall := by
  unfold Obligations.BandsRiseAndFall
  intro e level low middle high reached kept after
  have hreached : ∀ b : Band, reached b ↔ b.code ≤ (placedBand e level).code := reached_iff low middle high
  refine ⟨bandStage_unusable e, bandStage_places e level, fun unplaced => ?_, fun placed => ⟨?_, fun stays => ?_⟩⟩
  · have stage : after = placedBand e level := congrArg Prod.fst (bandStage_unplaced unplaced)
    rw [stage]
    exact ⟨(hreached _).2 le_rfl, fun b => (hreached b).1⟩
  · rintro ⟨b, hb, above⟩
    have stage : after = placedBand e level :=
      congrArg Prod.fst (bandStage_rises placed (above.trans_le ((hreached b).1 hb)))
    rw [stage]
    exact ⟨(hreached _).2 le_rfl, fun b => (hreached b).1⟩
  · have stage : after = fallFrom e level e.band :=
      congrArg Prod.fst (bandStage_falls placed (stays _ ((hreached _).2 le_rfl)))
    obtain ⟨keeps, below, highest⟩ := highestKept_fallFrom e level e.band
    rw [stage]
    exact ⟨keeps, below, highest⟩

end Sys2Proof.Machine
end

section
/-!
GRADE-SET and HOLDER-SET: what they write, and the holder conditions they may begin or end (R38, R39, R55).
-/
namespace Sys2Proof.Machine

/-! ## Holder conditions -/

theorem followHolders_eq (time : Tag) (s : State) :
    followHolders time s = { s with cnu := (followHolders time s).cnu } := rfl

theorem followHolders_others (time : Tag) (s : State) :
    OthersStand [condHolderLowlow, condHolderHighhigh] s.cnu (followHolders time s).cnu :=
  others_trans (followCond_others condHolderLowlow _ _ _ s.cnu) (followCond_others condHolderHighhigh _ _ _ _)

/-! ## GRADE-SET -/

theorem firstOfTwo_eq_some {k : Nat} (h : k < 2) : firstOfTwo k = some (decide (k = 0)) := by
  obtain rfl | rfl : k = 0 ∨ k = 1 := by omega
  · rfl
  · rfl

theorem gradeItemFailing_eq_none {f : GradeSetFields} (cvLow : 1 ≤ f.cv) (cv : f.cv ≤ 32767)
    (agMax : f.agMax ≤ 2000000) (retain : f.retain ≤ 2000000) (flare : f.flareCapacity ≤ 2000000) :
    gradeItemFailing f = none := by
  unfold gradeItemFailing
  rw [if_neg (by omega), if_neg (by omega), if_neg (by omega), if_neg (by omega)]

/-- GRADE-SET in SETUP with permitted fields is carried out (R38). -/
theorem judgeGradeSet_permitted {s : State} {f : GradeSetFields} {g : Fin 3} {flare : Option (Fin 16)}
    (mode : s.lkp.mode = .setup) (hg : f.grade = g.1) (use : f.use < 2) (items : gradeItemFailing f = none)
    (hflare : flare.map Fin.val = f.flareChannel) :
    judgeGradeSet f s = okWith [] (followHolders s.sck.pos (gradeSetTo f (decide (f.use = 0)) flare g s)) := by
  unfold judgeGradeSet
  rw [unlessRun_setup mode, hg, asFin_val, firstOfTwo_eq_some use, items, ← hflare]
  cases flare with
  | none => rfl
  | some k => simp only [Option.map_some, asFin_val]

/-- A reader takes the count of the channel that holds its role, where there is one (R38, R43). -/
theorem baseAfter_eq (v : Vector PulseChannel 24) (role : PulseRole) (base : Nat) :
    baseAfter v role base = ((holderOf v role).map (countOf v)).getD base := by
  unfold baseAfter
  cases holderOf v role <;> rfl

theorem rebaseOnUse_eq {newly : Bool} {P : Prop} (h : newly = true ↔ P) (v : Vector PulseChannel 24)
    (role : PulseRole) (base : Nat) :
    (¬ P → rebaseOnUse newly v role base = base) ∧
    (P → rebaseOnUse newly v role base = ((holderOf v role).map (countOf v)).getD base) := by
  rw [← h, ← baseAfter_eq]
  exact ⟨fun stays => if_neg stays, fun comes => if_pos comes⟩

/-! ## HOLDER-SET -/

theorem parseHolderSet_gain {p : List Byte} {f : HolderSetFields} (h : parseHolderSet p = some f) :
    f.gain < 65536 := by
  simp only [parseHolderSet, Option.bind_eq_bind, Option.bind_eq_some_iff, Prod.exists, u16_eq_some,
    ending_eq_some] at h
  obtain ⟨_, _, _, _, _, _, gain, _, ⟨hgain, _⟩, _, _, _, _, _, _, _, _, _, _, _, _, _, _, _, rfl, _⟩ := h
  exact hgain

theorem holderItemFailing_eq_none {f : HolderSetFields} (target : f.target ≤ 10000) (gain : f.gain ≤ 65535)
    (low : 1 ≤ f.theta1) (theta1 : f.theta1 < f.theta2) (theta2 : f.theta2 < f.theta3) (theta3 : f.theta3 < f.theta4)
    (high : f.theta4 ≤ 10000) (hysteresis : f.hysteresis ≤ 1000) : holderItemFailing f = none := by
  unfold holderItemFailing
  rw [if_neg (by omega), if_neg (by omega), if_neg (by omega), if_neg (by omega), if_neg (by omega),
    if_neg (by omega), if_neg (by omega)]

/-- The grade as HOLDER-SET writes it (R39). -/
def heldAnew (f : HolderSetFields) (e : GradeEntry) : GradeEntry :=
  { e with
    target := f.target, gain := f.gain, theta1 := f.theta1, theta2 := f.theta2, theta3 := f.theta3,
    theta4 := f.theta4, hysteresis := f.hysteresis, band := .normal, placed := false }

/-- HOLDER-SET in SETUP with permitted fields is carried out (R39). -/
theorem judgeHolderSet_permitted {s : State} {f : HolderSetFields} {g : Fin 3} (mode : s.lkp.mode = .setup)
    (hg : f.grade = g.1) (items : holderItemFailing f = none) :
    judgeHolderSet f s =
      okWith [] (followHolders s.sck.pos (setGrade g (heldAnew f s.gbu.grades[g]) s)) := by
  unfold judgeHolderSet
  rw [unlessRun_setup mode, hg, asFin_val, items]
  rfl

/-- Settles O23: the two requests by their checks, and a grade's baselines by whether it comes into use. -/
theorem gradesConfigured : Obligations.GradesConfigured := by
  unfold Obligations.GradesConfigured
  refine ⟨?_, ?_⟩
  · intro s p f g heard mode parsed hg use cvLow cv agMax retain capacity channels old newly v
    obtain ⟨flare, -, hflare⟩ := optIndex_eq_some channels
    have judged := judgeGradeSet_permitted mode hg use (gradeItemFailing_eq_none cvLow cv agMax retain capacity) hflare
    rw [followHolders_eq] at judged
    have hnewly : (decide (f.use = 0) && !old.used) = true ↔ newly := by simp [newly]
    obtain ⟨supplyStands, supplyMoves⟩ := rebaseOnUse_eq hnewly v (.gasSupply g) s.gbu.supplyBase[g]
    obtain ⟨worksStands, worksMoves⟩ := rebaseOnUse_eq hnewly v (.gasWorks g) s.gbu.worksBase[g]
    have others := followHolders_others s.sck.pos (gradeSetTo f (decide (f.use = 0)) flare g s)
    exact ⟨_, _, _, _, answers_of_done (by decide) heard parsed judged rfl, rfl, hflare,
      fun stays => ⟨supplyStands stays, worksStands stays⟩, fun comes => ⟨supplyMoves comes, worksMoves comes⟩,
      others⟩
  · intro s p f g heard mode parsed hg target low theta1 theta2 theta3 high hysteresis
    have gain := Nat.le_of_lt_succ (parseHolderSet_gain parsed)
    have judged := judgeHolderSet_permitted mode hg
      (holderItemFailing_eq_none target gain low theta1 theta2 theta3 high hysteresis)
    have others := followHolders_others s.sck.pos (setGrade g (heldAnew f s.gbu.grades[g]) s)
    rw [followHolders_eq] at judged
    exact ⟨_, answers_of_done (by decide) heard parsed judged rfl, others⟩

end Sys2Proof.Machine
end

section
/-!
A grade evaluated at a step boundary, in whatever order the blocks take it (R42 to R47, R53).
-/
namespace Sys2Proof.Machine

/-! ## One grade -/

/-- The field inputs and what the GBU keeps of grade `g` stand. -/
structure GradeStands (g : Fin 3) (s t : State) : Prop where
  fiu : t.fiu = s.fiu
  grade : t.gbu.grades[g] = s.gbu.grades[g]
  supply : t.gbu.supplyBase[g] = s.gbu.supplyBase[g]
  works : t.gbu.worksBase[g] = s.gbu.worksBase[g]

/-- The evaluation of a USED grade from the state in which the GBU takes the boundary (R42). -/
def evaluationOf (b : Boundary) (s : State) (g : Fin 3) : Evaluation :=
  usedEvaluation b s.gbu.grades[g] g s.fiu.points (gasCount s.fiu.pulses (.gasSupply g) s.gbu.supplyBase[g])
    (gasCount s.fiu.pulses (.gasWorks g) s.gbu.worksBase[g])

/-- `t` holds what an evaluation of grade `g` from `s` writes (R42). -/
structure Evaluated (b : Boundary) (g : Fin 3) (s t : State) : Prop where
  grade : t.gbu.grades[g] = { s.gbu.grades[g] with
    band := (evaluationOf b s g).bandAfter, placed := (evaluationOf b s g).placed, last := some (evaluationOf b s g) }
  supply : t.gbu.supplyBase[g] = baseAfter s.fiu.pulses (.gasSupply g) s.gbu.supplyBase[g]
  works : t.gbu.worksBase[g] = baseAfter s.fiu.pulses (.gasWorks g) s.gbu.worksBase[g]

section
variable {b : Boundary} {g : Fin 3} {s t u : State}

theorem GradeStands.refl (g : Fin 3) (s : State) : GradeStands g s s := ⟨rfl, rfl, rfl, rfl⟩

theorem GradeStands.trans (h : GradeStands g s t) (k : GradeStands g t u) : GradeStands g s u :=
  ⟨k.fiu.trans h.fiu, k.grade.trans h.grade, k.supply.trans h.supply, k.works.trans h.works⟩

theorem gradeStands_of_same (fiu : t.fiu = s.fiu) (gbu : t.gbu = s.gbu) : GradeStands g s t :=
  ⟨fiu, by rw [gbu], by rw [gbu], by rw [gbu]⟩

/-- An evaluation is the same from any state in which its grade and the field inputs stand. -/
theorem Evaluated.after (h : Evaluated b g t u) (k : GradeStands g s t) : Evaluated b g s u := by
  have same : evaluationOf b t g = evaluationOf b s g := by
    unfold evaluationOf
    rw [k.fiu, k.grade, k.supply, k.works]
  obtain ⟨grade, supply, works⟩ := h
  rw [same, k.grade] at grade
  rw [k.fiu, k.supply] at supply
  rw [k.fiu, k.works] at works
  exact ⟨grade, supply, works⟩

/-- What an evaluation has written stands where its grade stands. -/
theorem Evaluated.before (h : Evaluated b g s t) (k : GradeStands g t u) : Evaluated b g s u :=
  ⟨k.grade.trans h.grade, k.supply.trans h.supply, k.works.trans h.works⟩

theorem Signals.gradeStands (h : Signals s t) : GradeStands g s t := by
  obtain ⟨_, rfl⟩ := h
  exact gradeStands_of_same rfl rfl

theorem Expires.gradeStands (h : Expires s t) : GradeStands g s t := by
  obtain ⟨_, _, _, _, rfl⟩ := h
  exact gradeStands_of_same rfl rfl

theorem Exports.gradeStands (h : Exports s t) : GradeStands g s t := by
  obtain ⟨_, _, _, _, rfl⟩ := h
  exact gradeStands_of_same rfl rfl

theorem Retires.gradeStands (h : Retires s t) : GradeStands g s t := by
  obtain ⟨_, _, _, _, rfl⟩ := h
  exact gradeStands_of_same rfl rfl

/-- The allocation reads the grades and writes none (R61). -/
theorem gradeStands_allocate (b s) : GradeStands g s (allocate b s) := by
  obtain ⟨r, d, h⟩ := allocate_frame b s
  rw [h]
  exact ⟨rfl, rfl, rfl, rfl⟩

/-! ## The three grades in their order -/

theorem evaluated_evaluateGrade (b) (used : s.gbu.grades[g].used = true) : Evaluated b g s (evaluateGrade b s g) := by
  unfold evaluateGrade
  dsimp only
  rw [if_neg (by rw [used]; decide)]
  refine .before (.before ?_ (signals_reportClamp ..).gradeStands) (signals_reportClamp ..).gradeStands
  exact ⟨put_getElem_self .., put_getElem_self .., put_getElem_self ..⟩

theorem gradeStands_evaluateGrade {k : Fin 3} (b s) (other : k ≠ g) : GradeStands g s (evaluateGrade b s k) := by
  unfold evaluateGrade
  dsimp only
  split
  · exact ⟨rfl, put_getElem_ne _ _ other, rfl, rfl⟩
  · refine .trans (.trans ?_ (signals_reportClamp ..).gradeStands) (signals_reportClamp ..).gradeStands
    exact ⟨rfl, put_getElem_ne _ _ other, put_getElem_ne _ _ other, put_getElem_ne _ _ other⟩

theorem gradeStands_evaluations {l : List (Fin 3)} (h : g ∉ l) (s : State) :
    GradeStands g s (l.foldl (evaluateGrade b) s) := by
  induction l generalizing s with
  | nil => exact .refl g s
  | cons k l ih =>
    obtain ⟨here, later⟩ := not_or.1 (List.mem_cons.not.1 h)
    exact (gradeStands_evaluateGrade b s (Ne.symm here)).trans (ih later _)

/-- Each grade is evaluated once, and the others leave it (R42). -/
theorem evaluated_evaluateGrades (b) (used : s.gbu.grades[g].used = true) : Evaluated b g s (evaluateGrades b s) := by
  obtain ⟨l, r, split⟩ := List.append_of_mem (List.mem_finRange g)
  have once := List.nodup_finRange 3
  rw [split, List.nodup_middle, List.nodup_cons, List.mem_append, not_or] at once
  obtain ⟨⟨before, after⟩, -⟩ := once
  have stands := gradeStands_evaluations (b := b) before s
  unfold evaluateGrades
  rw [split, List.foldl_append, List.foldl_cons]
  refine .before (.before (.after ?_ stands) (gradeStands_evaluations after _)) (signals_followHolders ..).gradeStands
  exact evaluated_evaluateGrade b (by rw [stands.grade, used])

theorem evaluated_balanceBoundary (b) (used : s.gbu.grades[g].used = true) :
    Evaluated b g s (balanceBoundary b s) :=
  (evaluated_evaluateGrades b used).before (gradeStands_allocate b _)

/-! ## The tick -/

theorem countDownQueue_sck (n s) : (countDownQueue n s).sck = s.sck := by
  obtain ⟨_, _, _, _, h⟩ := retires_countDownQueue n s
  rw [h]

theorem evaluated_balanceAndExport (o b) (used : s.gbu.grades[g].used = true) :
    Evaluated b g s (balanceAndExport o b s) := by
  unfold balanceAndExport
  split
  · have stands : GradeStands g s (exportBoundary b s) := (exports_exportBoundary b s).gradeStands
    exact (evaluated_balanceBoundary b (by rw [stands.grade, used])).after stands
  · exact (evaluated_balanceBoundary b used).before (exports_exportBoundary ..).gradeStands

theorem evaluated_timersAndBlocks (o b) (used : s.gbu.grades[g].used = true) :
    Evaluated b g s (timersAndBlocks o b s) := by
  unfold timersAndBlocks
  split
  · have stands : GradeStands g s (stepStart s) := (expires_stepStart s).gradeStands
    exact (evaluated_balanceAndExport o b (by rw [stands.grade, used])).after stands
  · exact (evaluated_balanceAndExport o b used).before (expires_stepStart _).gradeStands

theorem evaluated_takeBoundary (o) (used : s.gbu.grades[g].used = true) :
    Evaluated (boundaryOf s.sck) g s (takeBoundary o s) := by
  have begun : GradeStands g s (beginNext s) := gradeStands_of_same rfl rfl
  unfold takeBoundary
  dsimp only
  exact ((evaluated_timersAndBlocks o _ (s := beginNext s) used).after begun).before
    (retires_meterBoundaries ..).gradeStands

/-- The boundary, with the readings counted down before or after it (R136). -/
def takeCounted (o : TickOrder) (s : State) : State :=
  if o.hmuFirst then takeBoundary o (countDownQueue s.hmu.queue.length s)
  else countDownQueue s.hmu.queue.length (takeBoundary o s)

theorem evaluated_takeCounted (o) (used : s.gbu.grades[g].used = true) :
    Evaluated (boundaryOf s.sck) g s (takeCounted o s) := by
  unfold takeCounted
  split
  · have counted : GradeStands g s (countDownQueue s.hmu.queue.length s) := (retires_countDownQueue ..).gradeStands
    have evaluated := evaluated_takeBoundary o (by rw [counted.grade, used])
    rw [countDownQueue_sck] at evaluated
    exact evaluated.after counted
  · exact (evaluated_takeBoundary o used).before (retires_countDownQueue ..).gradeStands

/-- The state whose sample points a boundary reads: before or after the tick's ageing (R33). -/
def agedFirst (o : TickOrder) (s : State) : State := if o.fiuFirst then agePoints s else s

theorem agedFirst_frame (o s) :
    (agedFirst o s).gbu = s.gbu ∧ (agedFirst o s).sck = s.sck ∧ (agedFirst o s).fiu.pulses = s.fiu.pulses := by
  unfold agedFirst
  split
  · obtain ⟨_, _, h⟩ := ages_agePoints s
    rw [h]
    exact ⟨rfl, rfl, rfl⟩
  · exact ⟨rfl, rfl, rfl⟩

theorem agedFirst_points (o s) : (agedFirst o s).fiu.points =
    if o.fiuFirst then each s.fiu.points fun _ p => agePoint p else s.fiu.points := by
  unfold agedFirst
  rw [apply_ite (fun t : State => t.fiu.points), agePoints_fiu]
  rfl

theorem boundaryTick_eq (o s) : boundaryTick o s =
    if o.fiuFirst then takeCounted o (agedFirst o s) else agePoints (takeCounted o (agedFirst o s)) := by
  cases counted : o.hmuFirst <;>
    simp only [boundaryTick, takeCounted, agedFirst, counted, if_true, Bool.false_eq_true, if_false]

/-- Whatever the order of the tick, it evaluates each USED grade from the clock before it (R5, R42). -/
theorem evaluated_boundaryTick (o) (used : s.gbu.grades[g].used = true) :
    Evaluated (boundaryOf s.sck) g (agedFirst o s) (boundaryTick o s) := by
  obtain ⟨gbu, sck, -⟩ := agedFirst_frame o s
  have taken := evaluated_takeCounted o (s := agedFirst o s) (g := g) (by rw [gbu, used])
  rw [sck] at taken
  rw [boundaryTick_eq]
  split
  · exact taken
  · obtain ⟨_, _, h⟩ := ages_agePoints (takeCounted o (agedFirst o s))
    rw [h]
    exact ⟨taken.grade, taken.supply, taken.works⟩

end

/-! ## The items of an evaluation -/

section
variable {v : Vector PulseChannel 24} {role : PulseRole}

/-- The volume of a role that a channel holds: its delta, up to the channel's limit, at its scale (R43). -/
theorem gasCount_volume (base : Nat) {ch : Fin 24} (h : holderOf v role = some ch) :
    (gasCount v role base).elim 0 (·.volume) = min (deltaOf v ch base) v[ch].limit * v[ch].scale := by
  simp only [gasCount, h, Option.map_some, Option.elim_some]

theorem gasCount_unbound (base : Nat) (h : holderOf v role = none) : gasCount v role base = none := by
  simp only [gasCount, h, Option.map_none]

theorem baseAfter_bound (base : Nat) {ch : Fin 24} (h : holderOf v role = some ch) :
    baseAfter v role base = countOf v ch := by
  rw [baseAfter_eq, h]
  rfl

theorem baseAfter_unbound (base : Nat) (h : holderOf v role = none) : baseAfter v role base = base := by
  rw [baseAfter_eq, h]
  rfl

end

theorem holderTerm_eq (e : GradeEntry) (level : Option Int) :
    holderTerm e level = (level.map fun l : Int => ((l - e.target) * e.gain).tdiv 100).getD 0 := by
  cases level <;> rfl

theorem calorific_eq (sample : Option Int) (configured : Nat) :
    sample.elim configured Int.toNat = (sample.map Int.toNat).getD configured := by
  cases sample <;> rfl

/-- Ag as R53 words it: Sg and Hg together, within 0 and the grade's greatest Ag. -/
theorem availablePower_eq (e : GradeEntry) (sg hg : Int) (band : Band) : availablePower e sg hg band =
    if band = .lowlow then 0 else (max 0 (min (sg + hg) e.agMax)).toNat := by
  unfold availablePower
  split
  · rfl
  · omega

/-- Settles O25: the tick evaluates the grade from the clock, the counts and the points it finds. -/
theorem gradesEvaluated : Obligations.GradesEvaluated := by
  unfold Obligations.GradesEvaluated
  intro s o g ch v e points used running ends inUse bound
  have due := (boundaryDue_iff s.sck).2 ⟨running, ends⟩
  have ticked : tick o s = boundaryTick o s := if_pos due
  obtain ⟨grade, supply, works⟩ := evaluated_boundaryTick o (s := s) inUse
  obtain ⟨gbu, -, pulses⟩ := agedFirst_frame o s
  rw [gbu] at grade
  rw [gbu, pulses] at supply works
  have evaluation : evaluationOf (boundaryOf s.sck) (agedFirst o s) g =
      usedEvaluation (boundaryOf s.sck) e g points (gasCount v (.gasSupply g) s.gbu.supplyBase[g])
        (gasCount v (.gasWorks g) s.gbu.worksBase[g]) := by
    unfold evaluationOf
    rw [gbu, pulses, agedFirst_points]
  rw [evaluation] at grade
  refine ⟨boundaryTick o s, congrArg Host.Outcome.next ((if_pos due).trans ticked), _, _, _, _, grade, rfl, rfl, rfl,
    rfl, rfl, gasCount_volume _ bound, supply.trans (baseAfter_bound _ bound), fun w hw => ?_, fun unbound => ?_,
    calorific_eq .., rfl, holderTerm_eq .., rfl, rfl, availablePower_eq ..⟩
  · exact ⟨gasCount_volume _ hw, works.trans (baseAfter_bound _ hw)⟩
  · exact ⟨by rw [gasCount_unbound _ unbound]; rfl, works.trans (baseAfter_unbound _ unbound)⟩

end Sys2Proof.Machine
end

section
/-!
The division of an amount in proportion to weights, with the remainder 1 kW at a time (R65, R67, R68).
-/
namespace Sys2Proof.Machine

/-! ## Sums over a list -/

section
variable {α : Type} {l : List α} {f g : α → Nat}

theorem sumOver_congr (h : ∀ a ∈ l, f a = g a) : sumOver l f = sumOver l g :=
  congrArg List.sum (List.map_congr_left h)

theorem sumOver_mono (h : ∀ a ∈ l, f a ≤ g a) : sumOver l f ≤ sumOver l g := List.sum_le_sum h

theorem sumOver_add (l : List α) (f g : α → Nat) : sumOver l (fun a => f a + g a) = sumOver l f + sumOver l g :=
  List.sum_map_add

theorem sumOver_mul (k : Nat) (l : List α) (f : α → Nat) : sumOver l (fun a => k * f a) = k * sumOver l f :=
  List.sum_map_mul_left l f k

/-- The sum over the members of a part is the sum over all of what the part's members have. -/
theorem sumOver_filter (p : α → Bool) (l : List α) (f : α → Nat) :
    sumOver (l.filter p) f = sumOver l fun a => if p a then f a else 0 := by
  induction l with
  | nil => rfl
  | cons a l ih => cases h : p a <;> simp_all [sumOver]

theorem length_filter_eq_sumOver (p : α → Bool) (l : List α) :
    (l.filter p).length = sumOver l fun a => if p a then 1 else 0 := by
  rw [← sumOver_filter p l fun _ => 1]
  simp [sumOver]

end

/-! ## The round of the remainder -/

section
variable {n : Nat} {members : List (Fin n)} {weight : Fin n → Nat} {amount : Nat} {i j : Fin n}

/-- The floor of a member's proportion (R65, R67, R68). -/
def floorPart (members : List (Fin n)) (weight : Fin n → Nat) (amount : Nat) (i : Fin n) : Nat :=
  weight i * amount / sumOver members weight

/-- What the floors leave of the amount. -/
def remainder (members : List (Fin n)) (weight : Fin n → Nat) (amount : Nat) : Nat :=
  amount - sumOver members (floorPart members weight amount)

/-- The members that get 1 kW in the round. -/
def favoured (members : List (Fin n)) (weight : Fin n → Nat) (amount : Nat) : List (Fin n) :=
  (receivers members weight amount (sumOver members weight)).take (remainder members weight amount)

theorem share_whole (enough : sumOver members weight ≤ amount) (member : i ∈ members) :
    share members weight amount i = weight i := by
  unfold share
  rw [if_neg (not_not.2 member), if_pos enough]

theorem share_short (short : amount < sumOver members weight) (member : i ∈ members) :
    share members weight amount i =
      floorPart members weight amount i + if i ∈ favoured members weight amount then 1 else 0 := by
  unfold share
  rw [if_neg (not_not.2 member), if_neg (Nat.not_le.2 short)]
  rfl

/-- A short amount leaves each member with a weight below it after the floor. -/
theorem mem_receivers (short : amount < sumOver members weight) :
    i ∈ receivers members weight amount (sumOver members weight) ↔ i ∈ members ∧ 0 < weight i := by
  simp only [receivers, List.mem_filter, decide_eq_true_eq, and_congr_right_iff]
  refine fun _ => ⟨Nat.zero_lt_of_lt, fun weighs => Nat.div_lt_of_lt_mul ?_⟩
  rw [Nat.mul_comm]
  exact Nat.mul_lt_mul_of_pos_right short weighs

theorem floors_le (members : List (Fin n)) (weight : Fin n → Nat) (short : amount < sumOver members weight) :
    sumOver members (floorPart members weight amount) ≤ amount := by
  refine Nat.le_of_mul_le_mul_left ?_ (Nat.zero_lt_of_lt short)
  calc sumOver members weight * sumOver members (floorPart members weight amount)
      = sumOver members (fun i => sumOver members weight * floorPart members weight amount i) := (sumOver_mul ..).symm
    _ ≤ sumOver members (fun i => amount * weight i) :=
        sumOver_mono fun i _ => by rw [Nat.mul_comm amount]; exact Nat.mul_div_le ..
    _ = sumOver members weight * amount := by rw [sumOver_mul, Nat.mul_comm]

/-- What the floors leave is less than 1 for each member of the round. -/
theorem le_floors_add_receivers (short : amount < sumOver members weight) :
    amount ≤ sumOver members (floorPart members weight amount) +
      (receivers members weight amount (sumOver members weight)).length := by
  rw [receivers, length_filter_eq_sumOver, ← sumOver_add]
  refine Nat.le_of_mul_le_mul_left ?_ (Nat.zero_lt_of_lt short)
  rw [← sumOver_mul, Nat.mul_comm, ← sumOver_mul]
  refine sumOver_mono fun i member => ?_
  rw [Nat.mul_comm amount]
  split
  · exact (Nat.lt_mul_div_succ _ (Nat.zero_lt_of_lt short)).le
  · next outside =>
    have weightless : weight i = 0 := by
      by_contra weighs
      exact outside (List.mem_filter.1 ((mem_receivers short).2 ⟨member, Nat.pos_of_ne_zero weighs⟩)).2
    rw [weightless, Nat.zero_mul]
    exact Nat.zero_le _

/-- As many members get 1 kW as the floors leave. -/
theorem favoured_length (short : amount < sumOver members weight) :
    (favoured members weight amount).length = remainder members weight amount := by
  have few := le_floors_add_receivers short
  rw [favoured, List.length_take, Nat.min_eq_left]
  unfold remainder
  omega

/-- The members that a sublist of distinct members names are as many as the sublist is long. -/
theorem sumOver_mem_sublist {l part : List (Fin n)} (distinct : l.Nodup) (sub : part.Sublist l) :
    (sumOver l fun i => if i ∈ part then 1 else 0) = part.length := by
  have same : (l.filter fun i => decide (i ∈ part)).Perm part :=
    (List.perm_ext_iff_of_nodup (distinct.filter _) (distinct.sublist sub)).2 fun i => by
      simpa using fun h => sub.subset h
  rw [← same.length_eq, length_filter_eq_sumOver]
  simp only [decide_eq_true_eq]

/-- A division gives out the whole of what there is to give. -/
theorem sumOver_share (distinct : members.Nodup) :
    sumOver members (share members weight amount) = min (sumOver members weight) amount := by
  obtain short | enough := Nat.lt_or_ge amount (sumOver members weight)
  · have floors := floors_le members weight short
    have sub : (favoured members weight amount).Sublist members :=
      (List.take_sublist ..).trans List.filter_sublist
    calc sumOver members (share members weight amount)
        = sumOver members (fun i => floorPart members weight amount i +
            if i ∈ favoured members weight amount then 1 else 0) := sumOver_congr fun i => share_short short
      _ = sumOver members (floorPart members weight amount) + remainder members weight amount := by
          rw [sumOver_add, sumOver_mem_sublist distinct sub, favoured_length short]
      _ = min (sumOver members weight) amount := by unfold remainder; omega
  · rw [Nat.min_eq_left enough]
    exact sumOver_congr fun i member => share_whole enough member

/-- The round serves the lower number first. -/
theorem favoured_of_lt (ascending : members.Pairwise (· < ·)) (short : amount < sumOver members weight)
    (member : i ∈ members) (weighs : 0 < weight i) (below : i < j) (later : j ∈ favoured members weight amount) :
    i ∈ favoured members weight amount := by
  have sorted := ascending.filter fun i => decide (weight i * amount / sumOver members weight < weight i)
  have receives := (mem_receivers short).2 ⟨member, weighs⟩
  rw [receivers, ← List.take_append_drop (remainder members weight amount) (members.filter _)] at receives
  rw [← List.take_append_drop (remainder members weight amount) (members.filter _)] at sorted
  obtain ⟨-, -, order⟩ := List.pairwise_append.1 sorted
  obtain first | dropped := List.mem_append.1 receives
  · exact first
  · exact absurd (order j later i dropped) (Fin.lt_asymm below)

end

/-- Settles O28: the floors and the round of the remainder. -/
theorem divisionInProportion : Obligations.DivisionInProportion := by
  intro n members weight amount ascending total part
  refine ⟨fun i out => share_not_mem out, fun enough i => share_whole enough,
    sumOver_share (ascending.imp Fin.ne_of_lt), fun short i member => ?_,
    fun short i member j hj below weighs top => ?_⟩
  · refine ⟨share_le .., ?_⟩
    have shared : part i = weight i * amount / total + _ := share_short short member
    rw [shared]
    split <;> omega
  · have sharedI : part i = floorPart members weight amount i + _ := share_short short member
    have sharedJ : part j = floorPart members weight amount j + _ := share_short short hj
    have later : j ∈ favoured members weight amount := by
      by_contra out
      rw [sharedJ, if_neg out] at top
      exact absurd top (Nat.ne_of_lt (Nat.lt_succ_self _))
    rw [sharedI, if_pos (favoured_of_lt ascending short member weighs below later)]
    rfl

end Sys2Proof.Machine
end

section
/-!
CONSUMER-SET, CONSUMER-ENABLE and REQUEST-SET: what they write of a consumer, and CONSUMER-BLOCKED, which they may begin
or end (R57 to R59, R77).
-/
namespace Sys2Proof.Machine

theorem followBlocked_eq (time : Tag) (s : State) :
    followBlocked time s = { s with cnu := (followBlocked time s).cnu } := rfl

theorem followBlocked_others (time : Tag) (s : State) :
    OthersStand [condConsumerBlocked] s.cnu (followBlocked time s).cnu := followCond_others _ _ _ _ s.cnu

/-! ## CONSUMER-SET -/

theorem consumerKindOf_code (kind : ConsumerKind) : consumerKindOf kind.code = some kind := by cases kind <;> rfl

/-- The dependent fields of CONSUMER-SET: Smax stands with the supplementary channel, wc with POWER (R57, R165). -/
theorem parseConsumerSet_dependent {p : List Byte} {f : ConsumerSetFields} (h : parseConsumerSet p = some f) :
    f.smax.isSome = f.supp.isSome ∧ f.weight.isSome = (f.kind == 1) := by
  simp only [parseConsumerSet, Option.bind_eq_bind, Option.bind_eq_some_iff, Prod.exists,
    dependent_eq_some (fun l q n => u24_eq_some), dependent_eq_some (fun l q n => u8_eq_some), ending_eq_some] at h
  obtain ⟨_, _, _, _, _, _, _, _, _, _, _, _, _, _, _, _, _, _, _, _, _, _, _, _, smax, _, ⟨hsmax, _⟩, weight, _,
    ⟨hweight, _⟩, rfl, _⟩ := h
  exact ⟨hsmax, hweight⟩

/-- Items 8 and 9 as CONSUMER-SET permits them (Table 4-2). -/
theorem suppFits_of {kind : ConsumerKind} {main supp : Option Nat}
    (h : ∀ k ∈ supp, kind = .heat ∧ k < 16 ∧ main ≠ some k) : suppFits kind main supp = true := by
  cases supp with
  | none => rfl
  | some k => simpa [suppFits, and_assoc] using h k rfl

theorem smaxFits_of {supp smax : Option Nat} (dependent : smax.isSome = supp.isSome)
    (h : ∀ x ∈ smax, 1 ≤ x ∧ x ≤ 2000000) : smaxFits supp smax = true := by
  cases smax with
  | none => cases supp with
    | none => rfl
    | some k => cases dependent
  | some x => cases supp with
    | none => cases dependent
    | some k => exact decide_eq_true (h x rfl)

/-- Item 10 as CONSUMER-SET permits it (Table 4-2). -/
theorem weightFits_of {kind : ConsumerKind} {weight : Option Nat} (dependent : weight.isSome = (kind.code == 1))
    (h : ∀ w ∈ weight, 1 ≤ w ∧ w ≤ 100) : weightFits kind weight = true := by
  cases weight with
  | none => cases kind with
    | power => cases dependent
    | _ => rfl
  | some w => cases kind with
    | power => exact decide_eq_true (h w rfl)
    | _ => cases dependent

/-- The consumer as CONSUMER-SET writes it, with the channels that its fields name (R57). -/
theorem consumerSetTo_eq {f : ConsumerSetFields} {kind : ConsumerKind} {main supp : Option (Fin 16)}
    (hmain : main.map Fin.val = f.main) (hsupp : supp.map Fin.val = f.supp) (c : Consumer) :
    consumerSetTo f kind c = { c with
      kind := kind, tier := f.tier, mc := f.mc, xc := f.xc, dc := f.dc, main := main, supp := supp, smax := f.smax
      weight := f.weight, request := if kind = .power then 0 else min c.request f.xc
      enabled := c.enabled && f.main.isSome, state := if f.main.isSome then c.state else .out } := by
  have indexed : ∀ {k : Option Nat} {i : Option (Fin 16)}, i.map Fin.val = k → k.bind (asFin 16) = i := by
    rintro _ (_ | i) rfl
    · rfl
    · exact asFin_val i
  unfold consumerSetTo
  rw [indexed hmain, indexed hsupp, ← hmain, Option.isSome_map]

/-- Fields that Table 4-2 permits pass the checks of CONSUMER-SET. -/
theorem consumerItemFailing_eq_none {f : ConsumerSetFields} {kind : ConsumerKind} (tierLow : 1 ≤ f.tier)
    (tier : f.tier ≤ 4) (mc : kind = .towngas ∨ 1 ≤ f.mc) (least : f.mc ≤ f.xc) (xcLow : 1 ≤ f.xc)
    (xc : f.xc ≤ 2000000) (dcLow : 1 ≤ f.dc) (dc : f.dc ≤ 2000000) (main : ∀ k ∈ f.main, k < 16)
    (supp : suppFits kind f.main f.supp = true) (smax : smaxFits f.supp f.smax = true)
    (weight : weightFits kind f.weight = true) : consumerItemFailing f kind = none := by
  have enough : ¬ ((f.mc < 1 ∧ kind ≠ .towngas) ∨ 2000000 < f.mc) := by
    rintro (⟨low, other⟩ | high)
    · exact mc.elim other (Nat.not_le.2 low)
    · omega
  have channel : ¬ 15 < f.main.getD 0 := by
    cases hmain : f.main with
    | none => exact Nat.not_lt_zero 15
    | some k => exact Nat.not_lt.2 (Nat.le_of_lt_succ (main k hmain))
  unfold consumerItemFailing
  rw [if_neg (by omega), if_neg enough, if_neg (by omega), if_neg (by omega), if_neg channel, supp, smax, weight]
  rfl

/-- CONSUMER-SET in SETUP with permitted fields is carried out; a consumer that keeps a main channel ends no
CONSUMER-BLOCKED (R57, R77). -/
theorem judgeConsumerSet_permitted {s : State} {f : ConsumerSetFields} {n : Fin 12} {kind : ConsumerKind}
    (mode : s.lkp.mode = .setup) (hn : f.consumer = n.1) (hkind : f.kind = kind.code)
    (items : consumerItemFailing f kind = none) :
    ∃ d, judgeConsumerSet f s = okWith [] { s with
        gbu := { s.gbu with consumers := put s.gbu.consumers n (consumerSetTo f kind s.gbu.consumers[n]) }, cnu := d } ∧
      OthersStand [condConsumerBlocked] s.cnu d ∧ (f.main.isSome = true → d = s.cnu) := by
  unfold judgeConsumerSet
  rw [unlessRun_setup mode, hn, asFin_val, hkind, consumerKindOf_code]
  simp only [items]
  split
  · exact ⟨s.cnu, rfl, fun _ _ => rfl, fun _ => rfl⟩
  · next undefined => exact ⟨_, rfl, followBlocked_others _ (setConsumers _ s), fun defined => absurd defined undefined⟩

/-! ## CONSUMER-ENABLE and REQUEST-SET -/

/-- CONSUMER-ENABLE of IN without a main channel is refused (R58). -/
theorem judgeConsumerEnable_undefined {s : State} {n : Fin 12} (absent : s.gbu.consumers[n].main = none) :
    judgeConsumerEnable (n.1, 0) s = rangeItem 2 := by
  have refuses : (true && s.gbu.consumers[n].main.isNone) = true := by rw [absent]; rfl
  unfold judgeConsumerEnable
  rw [asFin_val]
  exact if_pos refuses

/-- The consumer with its enable written and its state judged (R58). -/
def enabledTo (v : Vector DriveChannel 16) (enable : Bool) (c : Consumer) : Consumer :=
  { c with enabled := enable, state := judgedState v { c with enabled := enable } }

theorem judgeConsumerEnable_permitted {s : State} {n : Fin 12} {k : Nat} (named : k < 2)
    (permitted : k = 1 ∨ s.gbu.consumers[n].main ≠ none) :
    judgeConsumerEnable (n.1, k) s = okWith [] (followBlocked s.sck.pos
      (setConsumers (put s.gbu.consumers n (enabledTo s.dcu.channels (decide (k = 0)) s.gbu.consumers[n])) s)) := by
  have fits : (decide (k = 0) && s.gbu.consumers[n].main.isNone) = false := by
    obtain rfl | defined := permitted
    · rfl
    · rw [Option.isNone_eq_false_iff.2 (Option.isSome_iff_ne_none.2 defined), Bool.and_false]
  unfold judgeConsumerEnable
  rw [asFin_val, firstOfTwo_eq_some named]
  simp only [fits]
  rfl

theorem judgedState_disabled (v : Vector DriveChannel 16) {c : Consumer} (h : c.enabled = false) :
    judgedState v c = .out := by
  unfold judgedState
  split
  · rfl
  · rw [h]; rfl

theorem judgedState_enabled (v : Vector DriveChannel 16) {c : Consumer} {ch : Fin 16} (h : c.enabled = true)
    (main : c.main = some ch) : judgedState v c = if channelState v ch = .running then .ready else .blocked := by
  unfold judgedState
  rw [main]
  simp only [h, Bool.not_true, Bool.false_eq_true, if_false]

theorem judgeRequestSet_power {s : State} {n : Fin 12} (k : Nat) (power : s.gbu.consumers[n].kind = .power) :
    judgeRequestSet (n.1, k) s = rangeItem 1 := by
  unfold judgeRequestSet
  rw [asFin_val]
  exact if_pos power

theorem judgeRequestSet_other {s : State} {n : Fin 12} (k : Nat) (other : s.gbu.consumers[n].kind ≠ .power) :
    judgeRequestSet (n.1, k) s = .done (if k ≤ s.gbu.consumers[n].xc then .ok else .clamped) []
      (setConsumers (put s.gbu.consumers n { s.gbu.consumers[n] with request := min k s.gbu.consumers[n].xc }) s) := by
  unfold judgeRequestSet
  rw [asFin_val]
  exact if_neg other

/-- Settles O26: the three requests by their checks, and the state of a consumer by its enable and its main channel. -/
theorem consumersDirected : Obligations.ConsumersDirected := by
  refine ⟨?_, fun s n heard => ⟨fun p k parsed named => ⟨?_, fun permitted => ?_⟩, fun p k parsed => ⟨?_, ?_⟩⟩⟩
  · intro s p f n kind heard mode parsed hn hkind tierLow tier mc least xcLow xc dcLow dc main supp smax weight old
    obtain ⟨smaxDepends, weightDepends⟩ := parseConsumerSet_dependent parsed
    obtain ⟨m, -, hmain⟩ := optIndex_eq_some main
    obtain ⟨u, -, hsupp⟩ := optIndex_eq_some fun k hk => let ⟨_, channel, _⟩ := supp k hk; channel
    have items := consumerItemFailing_eq_none tierLow tier mc least xcLow xc dcLow dc main (suppFits_of supp)
      (smaxFits_of smaxDepends smax) (weightFits_of (hkind ▸ weightDepends) weight)
    obtain ⟨d, judged, others, same⟩ := judgeConsumerSet_permitted mode hn hkind items
    rw [consumerSetTo_eq hmain hsupp] at judged
    exact ⟨_, d, answers_of_done (by decide) heard parsed judged rfl, rfl, hmain, hsupp, others, same⟩
  · rintro ⟨rfl, absent⟩
    exact declines_of_refuse (by decide) heard parsed (judgeConsumerEnable_undefined absent) rfl
  · have judged := judgeConsumerEnable_permitted named permitted
    rw [followBlocked_eq] at judged
    refine ⟨_, _, answers_of_done (by decide) heard parsed judged rfl, ?_, ?_, followBlocked_others _ _⟩
    · rintro rfl
      exact judgedState_disabled _ rfl
    · rintro ch rfl main
      exact judgedState_enabled _ rfl main
  · intro power
    exact declines_of_refuse (by decide) heard parsed (judgeRequestSet_power k power) rfl
  · intro other
    exact answers_of_done (by decide) heard parsed (judgeRequestSet_other k other) rfl

end Sys2Proof.Machine
end

section
/-!
The allocation that a step boundary makes, in whatever order the blocks take it: what it finds and what it leaves
(R5, R42, R61).
-/
namespace Sys2Proof.Machine

/-! ## What an allocation leaves -/

/-- What the tiers give out of the gas that the evaluation has handed over (R61). -/
def allotted (s : State) : Results := tierLoop (inputsOf s) (handedPower s.gbu.grades)

/-- The step record of an allocation (R75). -/
def allotmentOf (b : Boundary) (s : State) : StepRecord :=
  stepRecordOf b s (inputsOf s) (allotted s) (flaresOf s (allotted s))

/-- What an allocation writes, but for the conditions (R61). -/
theorem allocate_eq (b s) : ∃ d, allocate b s =
    { writeAllocation b (inputsOf s) (allotted s) (flaresOf s (allotted s)) (allotmentOf b s) s with cnu := d } := by
  obtain ⟨_, h⟩ := ((signals_followBlocked b.ended (setConsumers (inputsOf s).consumers s)).trans
    (signals_raiseReleased (inputsOf s) (allotted s) b.ended _)).trans
      (signals_raiseShort (inputsOf s) (allotted s) b.ended _)
  unfold allotted at h
  unfold allocate
  dsimp only
  rw [h]
  exact ⟨_, rfl⟩

theorem allocate_gbu (b s) :
    (allocate b s).gbu = allocatedGbu b (inputsOf s) (allotted s) (allotmentOf b s) s.gbu := by
  obtain ⟨_, h⟩ := allocate_eq b s
  rw [h]
  rfl

theorem allocate_channels (b s) : (allocate b s).dcu.channels =
    handPositions (inputsOf s) (allotted s) (flaresOf s (allotted s)) s.dcu.channels := by
  obtain ⟨_, h⟩ := allocate_eq b s
  rw [h]
  rfl

/-! ## What an allocation finds -/

/-- The GBU and the drive channels stand and, within a slot, the demand record. -/
structure BalanceStands (b : Boundary) (s t : State) : Prop where
  gbu : t.gbu = s.gbu
  dcu : t.dcu = s.dcu
  record : b.slotEnd = false → t.exs.record = s.exs.record

section
variable {b : Boundary} {s t u : State}

theorem BalanceStands.refl (b : Boundary) (s : State) : BalanceStands b s s := ⟨rfl, rfl, fun _ => rfl⟩
theorem BalanceStands.trans (h : BalanceStands b s t) (k : BalanceStands b t u) : BalanceStands b s u :=
  ⟨k.gbu.trans h.gbu, k.dcu.trans h.dcu, fun within => (k.record within).trans (h.record within)⟩

theorem Expires.balanceStands (h : Expires s t) : BalanceStands b s t := by
  obtain ⟨_, _, _, _, rfl⟩ := h
  exact ⟨rfl, rfl, fun _ => rfl⟩

theorem Retires.balanceStands (h : Retires s t) : BalanceStands b s t := by
  obtain ⟨_, _, _, _, rfl⟩ := h
  exact ⟨rfl, rfl, fun _ => rfl⟩

theorem Ages.balanceStands (h : Ages s t) : BalanceStands b s t := by
  obtain ⟨_, _, rfl⟩ := h
  exact ⟨rfl, rfl, fun _ => rfl⟩

/-- The EXS forms a demand record at a slot end alone (R112, R117). -/
theorem balanceStands_exportBoundary (b s) : BalanceStands b s (exportBoundary b s) := by
  refine ⟨?_, ?_, fun within => ?_⟩
  · obtain ⟨_, _, _, _, h⟩ := exports_exportBoundary b s
    rw [h]
  · obtain ⟨_, _, _, _, h⟩ := exports_exportBoundary b s
    rw [h]
  · unfold exportBoundary
    rw [within]
    rfl

/-! ## The grades as evaluated -/

/-- Grade `e` as an evaluation leaves it: band, placed mark and last evaluation written, with Ag 0 for an UNUSED grade
(R42, R47). -/
def GradeJudged (e f : GradeEntry) : Prop :=
  ∃ band placed x, f = { e with band := band, placed := placed, last := some x } ∧ (e.used = false → x.ag = 0)

theorem gradeJudged_evaluateGrade (b s) (g : Fin 3) :
    GradeJudged s.gbu.grades[g] (evaluateGrade b s g).gbu.grades[g] := by
  cases used : s.gbu.grades[g].used with
  | true =>
    have evaluated := evaluated_evaluateGrade b used
    exact ⟨_, _, _, evaluated.grade, fun unused => absurd (used.symm.trans unused) (by decide)⟩
  | false =>
    refine ⟨s.gbu.grades[g].band, s.gbu.grades[g].placed, unusedEvaluation b s.gbu.grades[g], ?_, fun _ => rfl⟩
    unfold evaluateGrade
    dsimp only
    rw [if_pos (by rw [used]; rfl)]
    exact put_getElem_self ..

theorem gradeJudged_evaluateGrades (b s) (g : Fin 3) :
    GradeJudged s.gbu.grades[g] (evaluateGrades b s).gbu.grades[g] := by
  obtain ⟨l, r, split⟩ := List.append_of_mem (List.mem_finRange g)
  have once := List.nodup_finRange 3
  rw [split, List.nodup_middle, List.nodup_cons, List.mem_append, not_or] at once
  obtain ⟨⟨before, after⟩, -⟩ := once
  have judged := gradeJudged_evaluateGrade b (l.foldl (evaluateGrade b) s) g
  rw [(gradeStands_evaluations before s).grade] at judged
  unfold evaluateGrades
  rw [(signals_followHolders ..).gbu, split, List.foldl_append, List.foldl_cons,
    (gradeStands_evaluations after _).grade]
  exact judged

/-! ## The allocation of a tick -/

/-- State `a` holds of `s` what an allocation reads: consumers and channels as they stood, the grades evaluated and,
within a slot, the demand record as it stood (R62). -/
structure Found (b : Boundary) (s a : State) : Prop where
  consumers : a.gbu.consumers = s.gbu.consumers
  rhoNow : a.gbu.rhoNow = s.gbu.rhoNow
  channels : a.dcu.channels = s.dcu.channels
  record : b.slotEnd = false → a.exs.record = s.exs.record
  grades : ∀ g : Fin 3, GradeJudged s.gbu.grades[g] a.gbu.grades[g]

/-- From `s` to `t` there is one allocation, and nothing else touches what it reads and writes. -/
def Allocated (b : Boundary) (s t : State) : Prop :=
  ∃ a, Found b s a ∧ t.gbu = (allocate b a).gbu ∧ t.dcu.channels = (allocate b a).dcu.channels

theorem Allocated.after (h : Allocated b t u) (k : BalanceStands b s t) : Allocated b s u := by
  obtain ⟨a, ⟨consumers, rhoNow, channels, record, grades⟩, writes⟩ := h
  rw [k.gbu] at consumers rhoNow grades
  rw [k.dcu] at channels
  exact ⟨a, ⟨consumers, rhoNow, channels, fun within => (record within).trans (k.record within), grades⟩, writes⟩

theorem Allocated.before (h : Allocated b s t) (k : BalanceStands b t u) : Allocated b s u := by
  obtain ⟨a, found, gbu, channels⟩ := h
  exact ⟨a, found, k.gbu.trans gbu, by rw [k.dcu, channels]⟩

theorem allocated_balanceBoundary (b s) : Allocated b s (balanceBoundary b s) := by
  have grades := gradeJudged_evaluateGrades b s
  refine ⟨evaluateGrades b s, ?_, rfl, rfl⟩
  obtain ⟨_, _, _, _, h⟩ := evaluates_evaluateGrades b s
  rw [h] at grades ⊢
  exact ⟨rfl, rfl, rfl, fun _ => rfl, grades⟩

theorem allocated_balanceAndExport (o b s) : Allocated b s (balanceAndExport o b s) := by
  unfold balanceAndExport
  split
  · exact (allocated_balanceBoundary b _).after (balanceStands_exportBoundary b s)
  · exact (allocated_balanceBoundary b s).before (balanceStands_exportBoundary b _)

theorem allocated_timersAndBlocks (o b s) : Allocated b s (timersAndBlocks o b s) := by
  unfold timersAndBlocks
  split
  · exact (allocated_balanceAndExport o b _).after (expires_stepStart s).balanceStands
  · exact (allocated_balanceAndExport o b s).before (expires_stepStart _).balanceStands

theorem allocated_takeBoundary (o s) : Allocated (boundaryOf s.sck) s (takeBoundary o s) := by
  have begun : BalanceStands (boundaryOf s.sck) s (beginNext s) := ⟨rfl, rfl, fun _ => rfl⟩
  unfold takeBoundary
  exact ((allocated_timersAndBlocks o _ (beginNext s)).after begun).before (retires_meterBoundaries ..).balanceStands

theorem allocated_takeCounted (o s) : Allocated (boundaryOf s.sck) s (takeCounted o s) := by
  unfold takeCounted
  split
  · have taken := allocated_takeBoundary o (countDownQueue s.hmu.queue.length s)
    rw [countDownQueue_sck] at taken
    exact taken.after (retires_countDownQueue ..).balanceStands
  · exact (allocated_takeBoundary o s).before (retires_countDownQueue ..).balanceStands

/-- Whatever the order of the tick, a boundary makes one allocation (R5, R61). -/
theorem allocated_boundaryTick (o s) : Allocated (boundaryOf s.sck) s (boundaryTick o s) := by
  rw [boundaryTick_eq]
  unfold agedFirst
  split
  · have aged := ages_agePoints s
    have taken := allocated_takeCounted o (agePoints s)
    rw [show (agePoints s).sck = s.sck by obtain ⟨_, _, h⟩ := aged; rw [h]] at taken
    exact taken.after aged.balanceStands
  · exact (allocated_takeCounted o s).before (ages_agePoints _).balanceStands

end

/-- A due STEP_BOUNDARY makes an allocation and names the step that begins (R4, R5, R61). -/
theorem stepBoundary_allocates {s : State} (o : TickOrder) (running : s.sck.running = true)
    (ends : s.sck.endCount ≤ s.sck.ticks + 1) :
    ∃ t a, exec (.stepBoundary o) s = .next t ∧ Found (boundaryOf s.sck) s a ∧ t.sck.pos = nextTag s.sck ∧
      t.gbu = allocatedGbu (boundaryOf s.sck) (inputsOf a) (allotted a) (allotmentOf (boundaryOf s.sck) a) a.gbu ∧
      t.dcu.channels = handPositions (inputsOf a) (allotted a) (flaresOf a (allotted a)) a.dcu.channels := by
  have due := (boundaryDue_iff s.sck).2 ⟨running, ends⟩
  have ticked : tick o s = boundaryTick o s := if_pos due
  obtain ⟨_, _, _, clock⟩ := boundaryTick_sck o s
  obtain ⟨a, found, gbu, channels⟩ := allocated_boundaryTick o s
  rw [allocate_gbu] at gbu
  rw [allocate_channels] at channels
  exact ⟨boundaryTick o s, a, congrArg Host.Outcome.next ((if_pos due).trans ticked), found, by rw [clock]; rfl, gbu,
    channels⟩

end Sys2Proof.Machine
end

section
/-!
The state, the request and the target that an allocation records for a consumer (R58, R62, R63).
-/
namespace Sys2Proof.Machine

/-! ## States -/

section
variable {v : Vector DriveChannel 16} {c : Consumer}

theorem judgedState_out_iff : judgedState v c = .out ↔ c.main = none ∨ c.enabled = false := by
  cases main : c.main with
  | none => simp [judgedState_none main]
  | some ch =>
    cases enabled : c.enabled with
    | false => simp [judgedState_disabled v enabled]
    | true =>
      rw [judgedState_enabled v enabled main]
      split <;> simp

theorem judgedState_ready_iff : judgedState v c = .ready ↔
    c.enabled = true ∧ ∃ ch ∈ c.main, channelState v ch = .running := by
  cases main : c.main with
  | none => simp [judgedState_none main]
  | some ch =>
    cases enabled : c.enabled with
    | false => simp [judgedState_disabled v enabled]
    | true =>
      rw [judgedState_enabled v enabled main]
      split <;> simp_all

end

/-! ## Requests and targets -/

section
variable {r : DemandRecord} {c : Consumer} {n : Fin 12} {state : ConsumerState} {request : Nat}

theorem requestUsed_power (h : c.kind = .power) : requestUsed r c n = (r.requests[n]).getD 0 := by
  unfold requestUsed
  rw [h]

theorem requestUsed_other (h : c.kind ≠ .power) : requestUsed r c n = c.request := by
  unfold requestUsed
  split
  · contradiction
  · rfl
  · rfl

/-- What a consumer that takes part asks for: its request, within Mc and Xc (R63, step 2). -/
def wantedOf (c : Consumer) (request : Nat) : Nat := max (min request c.xc) c.mc

theorem targetOf_none (h : state ≠ .ready ∨ request = 0) : targetOf c state request = 0 := by
  unfold targetOf
  exact if_neg fun ⟨_, ready, asks⟩ => h.elim (· ready) asks

theorem targetOf_ready (defined : c.defined = true) (asks : request ≠ 0) : targetOf c .ready request =
    max (c.pc - c.dc) (min (rampTop c) (wantedOf c request)) := by
  unfold targetOf wantedOf
  rw [if_pos ⟨defined, rfl, asks⟩, Nat.max_comm c.mc]

/-- A target that is not 0 is a permitted firing, where the last firing was one (R63). -/
theorem targetOf_between (least : c.mc ≤ c.xc) (last : c.pc = 0 ∨ c.mc ≤ c.pc ∧ c.pc ≤ c.xc)
    (fires : targetOf c state request ≠ 0) : c.mc ≤ targetOf c state request ∧ targetOf c state request ≤ c.xc := by
  unfold targetOf at fires ⊢
  split at fires
  · next taking =>
    rw [if_pos taking]
    unfold rampTop
    split <;> omega
  · exact absurd rfl fires

end

/-! ## The record -/

theorem ofFn_getElem {α : Type} {k : Nat} (f : Fin k → α) (i : Fin k) : (Vector.ofFn f)[i] = f i := by simp

/-- The request that an allocation uses for a consumer (R62). -/
def requestIn (s : State) (n : Fin 12) : Nat := requestUsed s.exs.record s.gbu.consumers[n] n

/-- The target that an allocation sets for a consumer (R63). -/
def targetIn (s : State) (n : Fin 12) : Nat :=
  targetOf s.gbu.consumers[n] (judgedState s.dcu.channels s.gbu.consumers[n]) (requestIn s n)

theorem inputsOf_target (s) (n : Fin 12) : (inputsOf s).targets[n] = targetIn s n := by
  have consumer := inputsOf_consumer s n
  unfold inputsOf at consumer ⊢
  simp only [ofFn_getElem] at consumer ⊢
  rw [consumer]
  rfl

theorem allotmentOf_consumer (b s) (n : Fin 12) : (allotmentOf b s).consumers[n] =
    { state := judgedState s.dcu.channels s.gbu.consumers[n], request := requestIn s n, target := targetIn s n
      ac := (allotted s).ac[n], sc := (allotted s).sc[n], released := (allotted s).released[n] } := by
  simp only [allotmentOf, stepRecordOf, ofFn_getElem, inputsOf_target, inputsOf_consumer]
  rfl

theorem allocatedGbu_consumer (b x w r u) (n : Fin 12) : (allocatedGbu b x w r u).consumers[n] =
    { x.consumers[n] with pc := w.ac[n] + w.sc[n] } := by
  simp only [allocatedGbu, each_getElem]

theorem within_slot {c : Sck} : (boundaryOf c).slotEnd = false ↔ c.pos.step + 1 < stepsPerSlot c := by
  simp [boundaryOf, lastOfSlot]

/-- What a state holds of a consumer before the boundary that finds it. -/
theorem Found.requestIn_eq {b : Boundary} {s a : State} (h : Found b s a) {n : Fin 12} :
    (s.gbu.consumers[n].kind ≠ .power → requestIn a n = s.gbu.consumers[n].request) ∧
    (s.gbu.consumers[n].kind = .power → b.slotEnd = false → requestIn a n = (s.exs.record.requests[n]).getD 0) := by
  unfold requestIn
  rw [h.consumers]
  exact ⟨fun other => requestUsed_other other, fun power within => by rw [requestUsed_power power, h.record within]⟩

/-- Settles O27: what the allocation of the boundary records, from the consumers and channels that it finds. -/
theorem targetsRamp : Obligations.TargetsRamp := by
  intro s o n c running ends
  obtain ⟨t, a, stepped, found, -, gbu, -⟩ := stepBoundary_allocates o running ends
  have consumer : a.gbu.consumers[n] = c := by rw [found.consumers]
  have recorded := allotmentOf_consumer (boundaryOf s.sck) a n
  have state : t.gbu.consumers[n].state = judgedState s.dcu.channels c := by
    rw [gbu, allocatedGbu_consumer, inputsOf_consumer, consumer, found.channels]
  have target : targetIn a n = targetOf c (judgedState s.dcu.channels c) (requestIn a n) := by
    rw [targetIn, consumer, found.channels]
  rw [consumer, found.channels] at recorded
  refine ⟨t, stepped, allotmentOf (boundaryOf s.sck) a, by rw [gbu]; rfl, ?_⟩
  intro x low top wanted
  have hx : x = _ := recorded
  rw [hx]
  dsimp only
  rw [target]
  refine ⟨state, judgedState_out_iff, judgedState_ready_iff, found.requestIn_eq.1,
    fun power within => found.requestIn_eq.2 power (within_slot.2 within), targetOf_none, fun ready asks => ?_,
    targetOf_between⟩
  have defined : c.defined = true := by
    obtain ⟨-, ch, main, -⟩ := judgedState_ready_iff.1 ready
    exact Option.isSome_of_mem main
  rw [ready, targetOf_ready defined asks]
  have asked : wanted = wantedOf c (requestIn a n) := by unfold wanted; rw [hx]; rfl
  have ramp : rampTop c = top := rfl
  have upward : low ≤ top := by unfold low top; split <;> omega
  rw [ramp, ← asked]
  exact ⟨by omega, by omega, by omega⟩

end Sys2Proof.Machine
end

section
/-!
The positions that an allocation hands to the drive channels (R73, R76, R82).
-/
namespace Sys2Proof.Machine

/-! ## A setpoint applied -/

/-- The channel keeps its mode and its source, and its staged setpoint becomes `p` (R84). -/
structure Staged (p : Nat) (c d : DriveChannel) : Prop where
  mode : d.mode = c.mode
  source : d.source = c.source
  staged : d.staged = p

theorem Staged.trans {p q : Nat} {c d e : DriveChannel} (h : Staged p c d) (k : Staged q d e) : Staged q c e :=
  ⟨k.mode.trans h.mode, k.source.trans h.source, k.staged⟩

theorem staged_judgePair {p : Nat} {c : DriveChannel} (h : c.staged = p) : Staged p c (judgePair c) := by
  subst h
  obtain ⟨-, h⟩ | ⟨-, h⟩ | ⟨-, -, h⟩ := judgePair_cases c <;> (rw [h]; exact ⟨rfl, rfl, rfl⟩)

theorem staged_retarget {p : Nat} {c : DriveChannel} (h : c.staged = p) : Staged p c (retarget c) := by
  unfold retarget
  dsimp only
  generalize (if c.sub = .raising then _ else _ : Int) = toward
  split
  · exact ⟨rfl, rfl, h⟩
  split
  · exact ⟨rfl, rfl, h⟩
  · exact ⟨rfl, rfl, h⟩

theorem staged_pairSetpoint (p c) : Staged p c (pairSetpoint p c) := by
  have waits : Staged p c { c with staged := p } := ⟨rfl, rfl, rfl⟩
  have aims : Staged p c { c with staged := p, active := p } := ⟨rfl, rfl, rfl⟩
  unfold pairSetpoint
  split
  · exact waits
  · exact waits
  all_goals split
  · exact waits
  · exact aims.trans (staged_judgePair rfl)
  · exact waits
  · exact aims.trans (staged_retarget rfl)
  · exact waits
  · exact aims.trans (staged_retarget rfl)

/-- A setpoint replaces its channel alone or, of a pair, moves the pin of the lower line with it (R84, R88). -/
theorem applySetpoint_cases (v : Vector DriveChannel 16) (ch p) :
    ∃ c, (applySetpoint v ch p = put v ch c ∨ v[ch].mode = .raise ∧
        ∃ pin, applySetpoint v ch p = put (put v ch c) (ch + 1) { v[ch + 1] with pin := pin }) ∧
      Staged p v[ch] c := by
  unfold applySetpoint
  split
  · exact ⟨_, .inl rfl, ⟨rfl, rfl, rfl⟩⟩
  · exact ⟨_, .inl rfl, ⟨rfl, rfl, rfl⟩⟩
  split
  · next raise =>
    obtain ⟨mode, source, staged⟩ := staged_pairSetpoint p v[ch]
    unfold putPair
    exact ⟨_, .inr ⟨raise, _, rfl⟩, ⟨mode, source, staged⟩⟩
  · exact ⟨_, .inl rfl, ⟨rfl, rfl, rfl⟩⟩

theorem applySetpoint_self (v : Vector DriveChannel 16) (ch p) : Staged p v[ch] (applySetpoint v ch p)[ch] := by
  have next : ch + 1 ≠ ch := by intro h; simp at h
  obtain ⟨c, h | ⟨-, _, h⟩, staged⟩ := applySetpoint_cases v ch p
  · rw [h, put_getElem_self]
    exact staged
  · rw [h, put_getElem_ne _ _ next, put_getElem_self]
    exact staged

theorem applySetpoint_other (v : Vector DriveChannel 16) {ch k : Fin 16} (p) (other : ch ≠ k) :
    ∃ pin, (applySetpoint v ch p)[k] = { v[k] with pin := pin } := by
  obtain ⟨c, h | ⟨-, pin, h⟩, -⟩ := applySetpoint_cases v ch p
  · exact ⟨v[k].pin, by rw [h, put_getElem_ne _ _ other]⟩
  · by_cases next : ch + 1 = k
    · subst next
      exact ⟨pin, by rw [h, put_getElem_self]⟩
    · exact ⟨v[k].pin, by rw [h, put_getElem_ne _ _ next, put_getElem_ne _ _ other]⟩

/-- A channel of its own stands when another channel is set, where no odd channel is a pair. -/
theorem applySetpoint_own {v : Vector DriveChannel 16} {ch k : Fin 16} (p) (other : ch ≠ k)
    (own : isMember v k = false) (even : ∀ k : Fin 16, k.1 % 2 = 1 → v[k].mode ≠ .raise) :
    (applySetpoint v ch p)[k] = v[k] := by
  obtain ⟨c, h | ⟨raise, pin, h⟩, -⟩ := applySetpoint_cases v ch p
  · rw [h, put_getElem_ne _ _ other]
  · have next : ch + 1 ≠ k := by
      rintro rfl
      have first : ch.1 % 2 = 0 := by
        by_contra odd
        exact even ch (by omega) raise
      exact absurd (isMember_iff.2 ⟨ch, rfl, first, by rw [raise]; rfl⟩) (Bool.eq_false_iff.1 own)
    rw [h, put_getElem_ne _ _ next, put_getElem_ne _ _ other]

/-! ## A position handed over -/

/-- The channels keep their modes and their sources. -/
structure SameRoles (v w : Vector DriveChannel 16) : Prop where
  mode : ∀ k : Fin 16, w[k].mode = v[k].mode
  source : ∀ k : Fin 16, w[k].source = v[k].source

section
variable {v w : Vector DriveChannel 16} {ch : Fin 16} {source : DriveSource}

theorem SameRoles.refl (v : Vector DriveChannel 16) : SameRoles v v := ⟨fun _ => rfl, fun _ => rfl⟩
theorem SameRoles.trans {u : Vector DriveChannel 16} (h : SameRoles u v) (k : SameRoles v w) : SameRoles u w :=
  ⟨fun i => (k.mode i).trans (h.mode i), fun i => (k.source i).trans (h.source i)⟩

theorem SameRoles.channelSource (h : SameRoles v w) (ch : Fin 16) : channelSource w ch = channelSource v ch := by
  unfold Machine.channelSource
  rw [isMember_congr h.mode, h.source]

theorem sameRoles_handTo (target source p v) : SameRoles v (handTo target source p v) := by
  unfold handTo handPosition
  split
  · exact .refl v
  split
  · next ch _ =>
    have roles : ∀ k : Fin 16, (applySetpoint v ch p)[k].mode = v[k].mode ∧
        (applySetpoint v ch p)[k].source = v[k].source := fun k => by
      by_cases same : ch = k
      · subst same
        exact ⟨(applySetpoint_self v ch p).mode, (applySetpoint_self v ch p).source⟩
      · obtain ⟨_, h⟩ := applySetpoint_other v p same
        rw [h]
        exact ⟨rfl, rfl⟩
    exact ⟨fun k => (roles k).1, fun k => (roles k).2⟩
  · exact .refl v

/-- The channel whose source names who hands the position takes it (R82). -/
theorem handTo_takes (p) (named : channelSource v ch = some source) :
    (handTo (some ch) source p v)[ch].staged = p := by
  unfold handTo handPosition
  dsimp only
  rw [if_pos named]
  exact (applySetpoint_self v ch p).staged

/-- Every other channel keeps its staged setpoint (R82). -/
theorem handTo_keeps (target p) (unnamed : channelSource v ch ≠ some source) :
    (handTo target source p v)[ch].staged = v[ch].staged := by
  unfold handTo handPosition
  split
  · rfl
  split
  · next named =>
    obtain ⟨_, h⟩ := applySetpoint_other v p (k := ch) fun same => unnamed (same ▸ named)
    rw [h]
  · rfl

/-- A channel of its own stands whole, where no odd channel is a pair (R82). -/
theorem handTo_stands (target p) (unnamed : channelSource v ch ≠ some source) (own : isMember v ch = false)
    (even : ∀ k : Fin 16, k.1 % 2 = 1 → v[k].mode ≠ .raise) : (handTo target source p v)[ch] = v[ch] := by
  unfold handTo handPosition
  split
  · rfl
  split
  · next named => exact applySetpoint_own p (fun same => unnamed (same ▸ named)) own even
  · rfl

end

/-! ## Every position handed over -/

/-- What one pass of a loop brings about and no pass undoes holds after the loop. -/
theorem foldl_brings {α β : Type} {f : β → α → β} {Inv Q : β → Prop} {a : α} (inv : ∀ v x, Inv v → Inv (f v x))
    (brings : ∀ v, Inv v → Q (f v a)) (keeps : ∀ v x, x ≠ a → Inv v → Q v → Q (f v x)) :
    ∀ (l : List α) (v : β), Inv v → a ∈ l ∨ Q v → Q (l.foldl f v)
  | [], _, _, h => h.resolve_left List.not_mem_nil
  | x :: l, v, hv, h => by
    refine foldl_brings inv brings keeps l (f v x) (inv v x hv) ?_
    by_cases same : x = a
    · subst same
      exact .inr (brings v hv)
    · exact h.imp (fun mem => (List.mem_cons.1 mem).resolve_left (Ne.symm same)) (keeps v x same hv)

section
variable {x : Inputs} {w : Results} {flares : Vector Nat 3} {v : Vector DriveChannel 16} {ch : Fin 16}

theorem sameRoles_handConsumer (v n) : SameRoles v (handConsumer x w v n) := by
  unfold handConsumer
  dsimp only
  split
  · exact (sameRoles_handTo ..).trans (sameRoles_handTo ..)
  · exact sameRoles_handTo ..

theorem sameRoles_handFlare (v g) : SameRoles v (handFlare x flares v g) := by
  unfold handFlare
  dsimp only
  split
  · exact sameRoles_handTo ..
  · exact .refl v

/-- A channel whose source names neither position of a consumer keeps its staged setpoint. -/
theorem handConsumer_keeps {n : Fin 12} (main : channelSource v ch ≠ some (.consumerMain n))
    (supp : channelSource v ch ≠ some (.consumerSupp n)) : (handConsumer x w v n)[ch].staged = v[ch].staged := by
  unfold handConsumer
  dsimp only
  split
  · rw [handTo_keeps _ _ (by rwa [(sameRoles_handTo ..).channelSource]), handTo_keeps _ _ main]
  · exact handTo_keeps _ _ main

theorem handFlare_keeps {g : Fin 3} (flare : channelSource v ch ≠ some (.flare g)) :
    (handFlare x flares v g)[ch].staged = v[ch].staged := by
  unfold handFlare
  dsimp only
  split
  · exact handTo_keeps _ _ flare
  · rfl

theorem handConsumer_main {n : Fin 12} (main : x.consumers[n].main = some ch)
    (named : channelSource v ch = some (.consumerMain n)) :
    (handConsumer x w v n)[ch].staged = positionOf w.ac[n] x.consumers[n].xc := by
  have takes := handTo_takes (positionOf w.ac[n] x.consumers[n].xc) named
  unfold handConsumer
  dsimp only
  rw [main]
  split
  · rw [handTo_keeps _ _ (by rw [(sameRoles_handTo ..).channelSource, named]; nofun), takes]
  · exact takes

theorem handConsumer_supp {n : Fin 12} (heat : x.consumers[n].kind = .heat) (supp : x.consumers[n].supp = some ch)
    (named : channelSource v ch = some (.consumerSupp n)) :
    (handConsumer x w v n)[ch].staged = positionOf w.sc[n] (x.consumers[n].smax.getD 0) := by
  unfold handConsumer
  dsimp only
  rw [if_pos heat, supp]
  exact handTo_takes _ (by rw [(sameRoles_handTo ..).channelSource, named])

theorem handFlare_takes {g : Fin 3} (used : x.grades[g].used = true) (flare : x.grades[g].flareChannel = some ch)
    (named : channelSource v ch = some (.flare g)) :
    (handFlare x flares v g)[ch].staged = positionOf flares[g] x.grades[g].flareCapacity := by
  unfold handFlare
  dsimp only
  rw [if_pos used, flare]
  exact handTo_takes _ named

/-- The channels once the consumers have handed over their positions. -/
theorem sameRoles_handConsumers (x w v) : SameRoles v ((List.finRange 12).foldl (handConsumer x w) v) :=
  foldl_related .refl .trans sameRoles_handConsumer _ v

/-- A channel that is fed by no flare keeps what the consumers have handed it. -/
theorem handPositions_of_consumers (unnamed : ∀ g, channelSource v ch ≠ some (.flare g)) :
    (handPositions x w flares v)[ch].staged = ((List.finRange 12).foldl (handConsumer x w) v)[ch].staged := by
  have roles := sameRoles_handConsumers x w v
  unfold handPositions
  refine (List.foldlRecOn (motive := fun u => SameRoles v u ∧ u[ch].staged = _) _ _ ⟨roles, rfl⟩
    fun u ⟨roles, same⟩ g _ => ⟨roles.trans (sameRoles_handFlare u g), ?_⟩).2
  rw [handFlare_keeps (by rw [roles.channelSource]; exact unnamed g), same]

/-- The main channel of a consumer is handed the consumer's position (R73). -/
theorem handPositions_main {n : Fin 12} (main : x.consumers[n].main = some ch)
    (named : channelSource v ch = some (.consumerMain n)) :
    (handPositions x w flares v)[ch].staged = positionOf w.ac[n] x.consumers[n].xc := by
  rw [handPositions_of_consumers (by rw [named]; nofun)]
  refine foldl_brings (Inv := SameRoles v) (Q := fun u => u[ch].staged = _)
    (fun u m roles => roles.trans (sameRoles_handConsumer u m))
    (fun u roles => handConsumer_main main (by rw [roles.channelSource, named])) (fun u m other roles same => ?_) _ v
    (.refl v) (.inl (List.mem_finRange n))
  rw [handConsumer_keeps (by rw [roles.channelSource, named]; simpa using other.symm)
    (by rw [roles.channelSource, named]; nofun), same]

/-- The supplementary channel of a HEAT consumer is handed its purchased firing (R73). -/
theorem handPositions_supp {n : Fin 12} (heat : x.consumers[n].kind = .heat) (supp : x.consumers[n].supp = some ch)
    (named : channelSource v ch = some (.consumerSupp n)) :
    (handPositions x w flares v)[ch].staged = positionOf w.sc[n] (x.consumers[n].smax.getD 0) := by
  rw [handPositions_of_consumers (by rw [named]; nofun)]
  refine foldl_brings (Inv := SameRoles v) (Q := fun u => u[ch].staged = _)
    (fun u m roles => roles.trans (sameRoles_handConsumer u m))
    (fun u roles => handConsumer_supp heat supp (by rw [roles.channelSource, named])) (fun u m other roles same => ?_)
    _ v (.refl v) (.inl (List.mem_finRange n))
  rw [handConsumer_keeps (by rw [roles.channelSource, named]; nofun)
    (by rw [roles.channelSource, named]; simpa using other.symm), same]

/-- The flare channel of a USED grade is handed the flare (R73). -/
theorem handPositions_flare {g : Fin 3} (used : x.grades[g].used = true) (flare : x.grades[g].flareChannel = some ch)
    (named : channelSource v ch = some (.flare g)) :
    (handPositions x w flares v)[ch].staged = positionOf flares[g] x.grades[g].flareCapacity := by
  refine foldl_brings (Inv := SameRoles v) (Q := fun u => u[ch].staged = _)
    (fun u m roles => roles.trans (sameRoles_handFlare u m))
    (fun u roles => handFlare_takes used flare (by rw [roles.channelSource, named])) (fun u m other roles same => ?_)
    _ _ (sameRoles_handConsumers x w v) (.inl (List.mem_finRange g))
  rw [handFlare_keeps (by rw [roles.channelSource, named]; simpa using other.symm), same]

/-! ## MANUAL channels -/

/-- Channel `ch` is of its own with source MANUAL, and no odd channel is a pair. -/
structure ByHand (ch : Fin 16) (v : Vector DriveChannel 16) : Prop where
  manual : channelSource v ch = some .manual
  even : ∀ k : Fin 16, k.1 % 2 = 1 → v[k].mode ≠ .raise

theorem ByHand.own (h : ByHand ch v) : isMember v ch = false := by
  have manual := h.manual
  unfold channelSource at manual
  split at manual
  · cases manual
  · next own => simpa using own

theorem ByHand.roles (h : ByHand ch v) {u : Vector DriveChannel 16} (k : SameRoles v u) : ByHand ch u :=
  ⟨by rw [k.channelSource, h.manual], fun i odd => by rw [k.mode]; exact h.even i odd⟩

theorem ByHand.handTo (h : ByHand ch v) (target p) {source : DriveSource} (other : source ≠ .manual) :
    (handTo target source p v)[ch] = v[ch] :=
  handTo_stands target p (by rw [h.manual]; simpa using other.symm) h.own h.even

theorem ByHand.handConsumer (h : ByHand ch v) (n) : (handConsumer x w v n)[ch] = v[ch] := by
  unfold Machine.handConsumer
  dsimp only
  split
  · rw [(h.roles (sameRoles_handTo ..)).handTo _ _ (by nofun), h.handTo _ _ (by nofun)]
  · exact h.handTo _ _ (by nofun)

theorem ByHand.handFlare (h : ByHand ch v) (g) : (handFlare x flares v g)[ch] = v[ch] := by
  unfold Machine.handFlare
  dsimp only
  split
  · exact h.handTo _ _ (by nofun)
  · rfl

/-- A MANUAL channel is left as it was (R82). -/
theorem handPositions_manual (h : ByHand ch v) : (handPositions x w flares v)[ch] = v[ch] := by
  have consumers := List.foldlRecOn (motive := fun u => SameRoles v u ∧ u[ch] = v[ch]) (List.finRange 12)
    (handConsumer x w) ⟨.refl v, rfl⟩ fun u ⟨roles, same⟩ n _ =>
      ⟨roles.trans (sameRoles_handConsumer u n), ((h.roles roles).handConsumer n).trans same⟩
  exact (List.foldlRecOn (motive := fun u => SameRoles v u ∧ u[ch] = v[ch]) (List.finRange 3) (handFlare x flares)
    consumers fun u ⟨roles, same⟩ g _ =>
      ⟨roles.trans (sameRoles_handFlare u g), ((h.roles roles).handFlare g).trans same⟩).2

end

theorem allotmentOf_grade (b s) (g : Fin 3) : (allotmentOf b s).grades[g] =
    gradeShareOf s.gbu.grades[g] (handedPower s.gbu.grades)[g] (flaresOf s (allotted s))[g] (allotted s).ug[g]
      (allotted s).takes[g] := by
  simp only [allotmentOf, stepRecordOf, ofFn_getElem]

/-- Settles O31: each channel takes the position of the one that its source names, and of no other. -/
theorem positionsHanded : Obligations.PositionsHanded := by
  intro s o ch running ends
  obtain ⟨t, a, stepped, found, -, gbu, channels⟩ := stepBoundary_allocates o running ends
  rw [found.channels] at channels
  refine ⟨t, stepped, allotmentOf (boundaryOf s.sck) a, by rw [gbu]; rfl, fun even manual => ?_, fun n main named => ?_,
    fun n heat supp named => ?_, fun g used flare named => ?_⟩
  · rw [channels]
    exact handPositions_manual ⟨manual, even⟩
  · have consumer := inputsOf_consumer a n
    rw [found.consumers] at consumer
    rw [channels, handPositions_main (by rw [consumer]; exact main) named, consumer, allotmentOf_consumer]
    rfl
  · have consumer := inputsOf_consumer a n
    rw [found.consumers] at consumer
    rw [channels, handPositions_supp (by rw [consumer]; exact heat) (by rw [consumer]; exact supp) named, consumer,
      allotmentOf_consumer]
    rfl
  · obtain ⟨_, _, _, grade, -⟩ := found.grades g
    have here : (inputsOf a).grades[g] = a.gbu.grades[g] := rfl
    rw [channels, handPositions_flare (by rw [here, grade]; exact used) (by rw [here, grade]; exact flare) named, here,
      grade, allotmentOf_grade]
    rfl

end Sys2Proof.Machine
end

section
/-!
The tier loop: what each tier takes and what it leaves, and the balance of every grade (R61, R64 to R68).
-/
namespace Sys2Proof.Machine

/-! ## The passes of a tier -/

theorem sumOver_zero {α : Type} {l : List α} {f : α → Nat} (h : ∀ a ∈ l, f a = 0) : sumOver l f = 0 :=
  (sumOver_congr h).trans (by simp [sumOver])

/-- A division among some of a list, summed over the whole list. -/
theorem sumOver_share_filter {n : Nat} {l : List (Fin n)} (distinct : l.Nodup) (p : Fin n → Bool)
    (weight : Fin n → Nat) (amount : Nat) :
    sumOver l (share (l.filter p) weight amount) = min (sumOver (l.filter p) weight) amount := by
  rw [← sumOver_share (distinct.filter p), sumOver_filter p l (share _ _ _)]
  refine sumOver_congr fun i _ => ?_
  split
  · rfl
  · next out => exact share_not_mem fun mem => out (List.mem_filter.1 mem).2

theorem tierMembers_distinct (v : Vector Consumer 12) (t : Fin 4) : (tierMembers v t).Nodup :=
  (List.nodup_finRange 12).filter _

/-- The first pass gives out the pool, up to the tier's demand (R65). -/
theorem sumOver_firstPass (x : Inputs) (t : Fin 4) (pool : Nat) :
    sumOver (tierMembers x.consumers t) (firstPass x t pool) = min (tierDemand x t) pool :=
  sumOver_share (tierMembers_distinct ..)

/-- What the second pass adds to a consumer's allocation (R67). -/
def secondShare (x : Inputs) (t : Fin 4) (first : Fin 12 → Nat) : Fin 12 → Nat :=
  share (takingPart x t first) (fun i => x.targets[i] - first i) (releasedAmount x t first)

theorem secondPass_eq (x : Inputs) (t : Fin 4) (first : Fin 12 → Nat) (n : Fin 12) : secondPass x t first n =
    if isReleased x n (first n) then 0 else first n + secondShare x t first n := rfl

/-- The second pass gives out nothing but what the first has given (R66, R67). -/
theorem sumOver_secondPass_le (x : Inputs) (t : Fin 4) (first : Fin 12 → Nat) :
    sumOver (tierMembers x.consumers t) (secondPass x t first) ≤ sumOver (tierMembers x.consumers t) first := by
  have given : sumOver (tierMembers x.consumers t) (secondShare x t first) ≤ releasedAmount x t first :=
    (sumOver_share_filter (tierMembers_distinct ..) _ _ _).trans_le (Nat.min_le_right ..)
  have spread : sumOver (tierMembers x.consumers t) (fun n => secondPass x t first n +
      if isReleased x n (first n) then first n else 0) ≤
        sumOver (tierMembers x.consumers t) fun n => first n + secondShare x t first n := by
    refine sumOver_mono fun n _ => ?_
    rw [secondPass_eq]
    split
    · omega
    · exact Nat.le_refl _
  rw [sumOver_add, sumOver_add, ← sumOver_filter] at spread
  unfold releasedAmount at given
  omega

/-! ## One tier -/

/-- What tier `t + 1` takes together, out of this pool (R68). -/
def tierTotal (x : Inputs) (t : Fin 4) (pool : Nat) : Nat :=
  sumOver (tierMembers x.consumers t) (secondPass x t (firstPass x t pool))

theorem tierTotal_le (x t pool) : tierTotal x t pool ≤ min (tierDemand x t) pool :=
  sumOver_firstPass x t pool ▸ sumOver_secondPass_le x t (firstPass x t pool)

section
variable {x : Inputs} {t : Fin 4} {pool demand : Nat} {v w : Results}

theorem serveTier_ac (n : Fin 12) : (serveTier x t pool demand w).ac[n] =
    if n ∈ tierMembers x.consumers t then secondPass x t (firstPass x t pool) n else w.ac[n] := by
  simp only [serveTier, each_getElem, ofFn_getElem]

/-- What a served tier takes of a grade (R68). -/
def takeOf (x : Inputs) (t : Fin 4) (pool : Nat) (w : Results) : Fin 3 → Nat :=
  share (eligible x.grades t) (fun g => w.ug[g]) (tierTotal x t pool)

/-- The total that a served tier records, over what its members are allotted. -/
theorem sumOver_serveTier_ac : sumOver (tierMembers x.consumers t) (fun n => (serveTier x t pool demand w).ac[n]) =
    tierTotal x t pool :=
  sumOver_congr fun n member => by rw [serveTier_ac, if_pos member]

theorem serveTier_eq : serveTier x t pool demand w =
    { ug := each w.ug fun g u => u - takeOf x t pool w g
      ac := (serveTier x t pool demand w).ac
      sc := (serveTier x t pool demand w).sc
      released := (serveTier x t pool demand w).released
      takes := each w.takes fun g old => put old t (takeOf x t pool w g)
      tiers := put w.tiers t { pool := pool, demand := demand, total := tierTotal x t pool, skipped := false } } := by
  unfold takeOf
  rw [← sumOver_serveTier_ac (x := x) (t := t) (demand := demand) (w := w)]
  rfl

theorem takeOf_le (x t pool w) (g : Fin 3) : takeOf x t pool w g ≤ w.ug[g] := share_le ..

/-- The takes of a served tier are its total (R68). -/
theorem sumOver_takeOf :
    sumOver (List.finRange 3) (takeOf x t (tierPool x t w) w) = tierTotal x t (tierPool x t w) := by
  have fits := (tierTotal_le x t (tierPool x t w)).trans (Nat.min_le_right ..)
  exact (sumOver_share_filter (List.nodup_finRange 3) _ _ _).trans (Nat.min_eq_right fits)

/-- Tier `t + 1` has been given nothing yet. -/
structure Awaits (x : Inputs) (t : Fin 4) (w : Results) : Prop where
  takes : ∀ g : Fin 3, w.takes[g][t] = 0
  ac : ∀ n ∈ tierMembers x.consumers t, w.ac[n] = 0

/-- What tier `t + 1` makes of the results `v` of the tiers before it (R64 to R68). -/
structure Serves (x : Inputs) (t : Fin 4) (v w : Results) : Prop where
  pool : w.tiers[t].pool = tierPool x t v
  demand : w.tiers[t].demand = tierDemand x t
  takes : w.tiers[t].total = sumOver (List.finRange 3) fun g => w.takes[g][t]
  ac : w.tiers[t].total = sumOver (tierMembers x.consumers t) fun n => w.ac[n]
  fits : w.tiers[t].total ≤ w.tiers[t].pool
  asked : w.tiers[t].total ≤ w.tiers[t].demand
  skipped : w.tiers[t].skipped = true ↔ w.tiers[t].demand = 0

theorem serves_tierStep (h : Awaits x t w) : Serves x t w (tierStep x w t) := by
  unfold tierStep
  split
  · next none =>
    have takes := sumOver_zero (l := List.finRange 3) fun g _ => h.takes g
    have ac := sumOver_zero h.ac
    constructor <;> simp only [skipTier, put_getElem_self, none, takes, ac, Nat.zero_le]
  · next some =>
    have least := tierTotal_le x t (tierPool x t w)
    have ac := sumOver_serveTier_ac (x := x) (t := t) (pool := tierPool x t w) (demand := tierDemand x t) (w := w)
    rw [serveTier_eq]
    constructor <;> simp only [put_getElem_self, each_getElem, some, Bool.false_eq_true]
    · exact sumOver_takeOf.symm
    · exact ac.symm
    · exact least.trans (Nat.min_le_right ..)
    · exact least.trans (Nat.min_le_left ..)

/-- A tier takes what a grade has less after it (R68). -/
theorem tierStep_ug (h : Awaits x t w) (g : Fin 3) :
    (tierStep x w t).ug[g] + (tierStep x w t).takes[g][t] = w.ug[g] := by
  unfold tierStep
  split
  · exact congrArg (w.ug[g] + ·) (h.takes g)
  · rw [serveTier_eq]
    simp only [each_getElem, put_getElem_self]
    exact Nat.sub_add_cancel (takeOf_le ..)

end

/-! ## The other tiers -/

/-- What the results hold of tier `t + 1` stands. -/
structure TierStands (x : Inputs) (t : Fin 4) (v w : Results) : Prop where
  tier : w.tiers[t] = v.tiers[t]
  takes : ∀ g : Fin 3, w.takes[g][t] = v.takes[g][t]
  ac : ∀ n ∈ tierMembers x.consumers t, w.ac[n] = v.ac[n]

section
variable {x : Inputs} {j t : Fin 4} {u v w : Results}

theorem TierStands.refl (x t w) : TierStands x t w w := ⟨rfl, fun _ => rfl, fun _ _ => rfl⟩
theorem TierStands.trans (h : TierStands x t u v) (k : TierStands x t v w) : TierStands x t u w :=
  ⟨k.tier.trans h.tier, fun g => (k.takes g).trans (h.takes g), fun n hn => (k.ac n hn).trans (h.ac n hn)⟩

theorem Awaits.stands (h : Awaits x t v) (k : TierStands x t v w) : Awaits x t w :=
  ⟨fun g => (k.takes g).trans (h.takes g), fun n hn => (k.ac n hn).trans (h.ac n hn)⟩

theorem Serves.stands (h : Serves x t u v) (k : TierStands x t v w) : Serves x t u w := by
  obtain ⟨pool, demand, takes, ac, fits, asked, skipped⟩ := h
  refine ⟨by rw [k.tier, pool], by rw [k.tier, demand], ?_, ?_, by rwa [k.tier], by rwa [k.tier], by rwa [k.tier]⟩
  · rw [k.tier, takes]
    exact sumOver_congr fun g _ => (k.takes g).symm
  · rw [k.tier, ac]
    exact sumOver_congr fun n hn => (k.ac n hn).symm

/-- A consumer belongs to one tier. -/
theorem tierMembers_disjoint {c : Vector Consumer 12} {n : Fin 12} (other : j ≠ t) (member : n ∈ tierMembers c t) :
    n ∉ tierMembers c j := by
  simp only [tierMembers, List.mem_filter, decide_eq_true_eq, not_and] at member ⊢
  omega

theorem tierStands_tierStep (other : j ≠ t) (w) : TierStands x t w (tierStep x w j) := by
  unfold tierStep
  split
  · exact ⟨put_getElem_ne _ _ other, fun _ => rfl, fun _ _ => rfl⟩
  · have ac : ∀ n ∈ tierMembers x.consumers t, (serveTier x j (tierPool x j w) (tierDemand x j) w).ac[n] = w.ac[n] :=
      fun n member => by rw [serveTier_ac, if_neg (tierMembers_disjoint other member)]
    rw [serveTier_eq]
    refine ⟨put_getElem_ne _ _ other, fun g => ?_, ac⟩
    simp only [each_getElem]
    exact put_getElem_ne _ _ other

theorem tierStands_foldl {l : List (Fin 4)} (out : t ∉ l) (w) : TierStands x t w (l.foldl (tierStep x) w) :=
  List.foldlRecOn (motive := TierStands x t w) l (tierStep x) (.refl x t w) fun v stands _ mem =>
    stands.trans (tierStands_tierStep (ne_of_mem_of_not_mem mem out) v)

theorem awaits_start (x ag t) : Awaits x t (Results.start ag) := by
  constructor <;> intros <;> simp [Results.start]

/-! ## The loop -/

/-- What a grade has after some tiers, and what these have taken, is what it had before (R68). -/
theorem foldl_ug (g : Fin 3) {l : List (Fin 4)} (distinct : l.Nodup) (waits : ∀ j ∈ l, Awaits x j w) :
    (l.foldl (tierStep x) w).ug[g] + sumOver l (fun j => (l.foldl (tierStep x) w).takes[g][j]) = w.ug[g] := by
  induction l generalizing w with
  | nil => rfl
  | cons j l ih =>
    obtain ⟨out, distinct⟩ := List.nodup_cons.1 distinct
    have step := tierStep_ug (waits j (List.mem_cons_self ..)) g
    have rest := ih (w := tierStep x w j) distinct fun k mem =>
      (waits k (List.mem_cons_of_mem _ mem)).stands (tierStands_tierStep (ne_of_mem_of_not_mem mem out).symm w)
    have taken := (tierStands_foldl (x := x) out (tierStep x w j)).takes g
    simp only [List.foldl_cons, sumOver, List.map_cons, List.sum_cons] at rest ⊢
    omega

/-- The tiers that are served before tier `k + 1`, and those after it. -/
def tiersBefore (k : Fin 4) : List (Fin 4) := (List.finRange 4).filter (· < k)
def tiersAfter (k : Fin 4) : List (Fin 4) := (List.finRange 4).filter (k < ·)

theorem tiers_split : ∀ k : Fin 4, List.finRange 4 = tiersBefore k ++ k :: tiersAfter k := by decide
theorem mem_tiersBefore {j k : Fin 4} : j ∈ tiersBefore k ↔ j < k := by simp [tiersBefore]
theorem mem_tiersAfter {j k : Fin 4} : j ∈ tiersAfter k ↔ k < j := by simp [tiersAfter]

/-- The results as tier `k + 1` finds them. -/
def resultsBefore (x : Inputs) (ag : Vector Nat 3) (k : Fin 4) : Results :=
  (tiersBefore k).foldl (tierStep x) (Results.start ag)

theorem tierLoop_split (x ag k) :
    tierLoop x ag = (tiersAfter k).foldl (tierStep x) (tierStep x (resultsBefore x ag k) k) := by
  unfold tierLoop resultsBefore
  rw [tiers_split k, List.foldl_append, List.foldl_cons]

theorem serves_tierLoop (x ag k) : Serves x k (resultsBefore x ag k) (tierLoop x ag) := by
  have waits : Awaits x k (resultsBefore x ag k) :=
    (awaits_start x ag k).stands (tierStands_foldl (fun mem => absurd (mem_tiersBefore.1 mem) (lt_irrefl k)) _)
  rw [tierLoop_split x ag k]
  exact (serves_tierStep waits).stands
    (tierStands_foldl (fun mem => absurd (mem_tiersAfter.1 mem) (lt_irrefl k)) _)

/-- Each grade's Ag is what is left of it and what the tiers have taken (R68). -/
theorem tierLoop_ug (x ag) (g : Fin 3) :
    (tierLoop x ag).ug[g] + sumOver (List.finRange 4) (fun j => (tierLoop x ag).takes[g][j]) = ag[g] :=
  foldl_ug g (List.nodup_finRange 4) fun j _ => awaits_start x ag j

/-- A tier finds of a grade what the tiers before it have left (R64). -/
theorem resultsBefore_ug (x ag k) (g : Fin 3) : (resultsBefore x ag k).ug[g] =
    ag[g] - sumOver (tiersBefore k) fun j => (tierLoop x ag).takes[g][j] := by
  have balance := foldl_ug (x := x) (w := Results.start ag) g ((List.nodup_finRange 4).filter (· < k)) fun j _ =>
    awaits_start x ag j
  have taken : sumOver (tiersBefore k) (fun j => (tierLoop x ag).takes[g][j]) =
      sumOver (tiersBefore k) fun j => (resultsBefore x ag k).takes[g][j] := by
    refine sumOver_congr fun j mem => ?_
    have below := mem_tiersBefore.1 mem
    rw [tierLoop_split x ag k]
    exact (((tierStands_tierStep below.ne' _).trans
      (tierStands_foldl (fun later => absurd (mem_tiersAfter.1 later) below.asymm) _)).takes g)
  rw [taken]
  exact Nat.eq_sub_of_add_eq balance

end

end Sys2Proof.Machine
end

section
/-!
The record of an allocation: the grades and the tiers, the recovered share and the sufficiency (R64, R68, R70 to R72,
R75).
-/
namespace Sys2Proof.Machine

/-! ## Flares -/

section
variable {e : GradeEntry} {running : Bool} {ug : Nat}

theorem flareAmount_idle (h : (e.used && running) = false) : flareAmount e running ug = 0 := by
  unfold flareAmount
  rw [h]
  rfl

/-- The flare of a grade whose flare channel is RUNNING, by its band (R70). -/
theorem flareAmount_running (h : (e.used && running) = true) : flareAmount e running ug =
    if e.band = .high then min e.flareCapacity (ug - e.retain)
    else if e.band = .highhigh then min ug e.flareCapacity
    else 0 := by
  unfold flareAmount
  rw [if_pos h]
  cases e.band <;> rfl

theorem flareAmount_le_ug (e running ug) : flareAmount e running ug ≤ ug := by
  cases h : e.used && running with
  | false => rw [flareAmount_idle h]; exact Nat.zero_le _
  | true =>
    rw [flareAmount_running h]
    split
    · exact (Nat.min_le_right ..).trans (Nat.sub_le ..)
    split
    · exact Nat.min_le_left ..
    · exact Nat.zero_le _

theorem channelRunning_iff {v : Vector DriveChannel 16} {ch : Option (Fin 16)} :
    channelRunning v ch = true ↔ ∃ k ∈ ch, channelState v k = .running := by
  cases ch <;> simp [channelRunning]

end

/-! ## Grades -/

theorem sumOver_finRange_four (f : Fin 4 → Nat) : sumOver (List.finRange 4) f = f 0 + f 1 + f 2 + f 3 := by
  simp [sumOver, List.finRange_succ, Nat.add_assoc]

theorem sumOver_finRange_three (f : Fin 3 → Nat) : sumOver (List.finRange 3) f = f 0 + f 1 + f 2 := by
  simp [sumOver, List.finRange_succ, Nat.add_assoc]

/-- What is flared of a grade (R70). -/
def flaredOf (s : State) (g : Fin 3) : Nat :=
  flareAmount s.gbu.grades[g] (channelRunning s.dcu.channels s.gbu.grades[g].flareChannel) (allotted s).ug[g]

theorem flaresOf_grade (s) (g : Fin 3) : (flaresOf s (allotted s))[g] = flaredOf s g := ofFn_getElem ..

theorem handedPower_grade {v : Vector GradeEntry 3} {g : Fin 3} {x : Evaluation} (h : v[g].last = some x) :
    (handedPower v)[g] = x.ag := by
  rw [handedPower, ofFn_getElem, h]

section
variable (b : Boundary) (s : State) (g : Fin 3)

/-- What is flared and what is retained of a grade is what the tiers have left of it (R70). -/
theorem allotmentOf_left : (allotmentOf b s).grades[g].flare + (allotmentOf b s).grades[g].retained =
    (allotted s).ug[g] := by
  rw [allotmentOf_grade, flaresOf_grade]
  exact Nat.add_sub_cancel' (flareAmount_le_ug ..)

/-- The flare of a grade in the record, from what its tiers have left (R70). -/
theorem allotmentOf_flare : (allotmentOf b s).grades[g].flare =
    flareAmount s.gbu.grades[g] (channelRunning s.dcu.channels s.gbu.grades[g].flareChannel)
      ((allotmentOf b s).grades[g].flare + (allotmentOf b s).grades[g].retained) := by
  rw [allotmentOf_left, allotmentOf_grade, flaresOf_grade]
  rfl

/-- The balance of a grade in the record (R68, R70). -/
theorem allotmentOf_balance : sumOver (List.finRange 4) (fun j => (allotmentOf b s).grades[g].takes[j]) +
    (allotmentOf b s).grades[g].flare + (allotmentOf b s).grades[g].retained = (allotmentOf b s).grades[g].ag := by
  have balance : (allotted s).ug[g] + sumOver (List.finRange 4) (fun j => (allotted s).takes[g][j]) = _ :=
    tierLoop_ug (inputsOf s) (handedPower s.gbu.grades) g
  rw [Nat.add_assoc, allotmentOf_left, allotmentOf_grade]
  exact (Nat.add_comm ..).trans balance

end

/-! ## Tiers -/

theorem tierMembers_inputsOf (s k) : tierMembers (inputsOf s).consumers k = tierMembers s.gbu.consumers k :=
  List.filter_congr fun n _ => by rw [inputsOf_consumer]

section
variable (b : Boundary) (s : State) (k : Fin 4)

theorem allotmentOf_tiers : (allotmentOf b s).tiers = (allotted s).tiers := by
  simp only [allotmentOf, stepRecordOf]

theorem allotmentOf_takes (g : Fin 3) : (allotmentOf b s).grades[g].takes = (allotted s).takes[g] := by
  rw [allotmentOf_grade, gradeShareOf]

theorem allotted_serves :
    Serves (inputsOf s) k (resultsBefore (inputsOf s) (handedPower s.gbu.grades) k) (allotted s) := serves_tierLoop ..

/-- A tier takes what it takes of the three grades (R68). -/
theorem allotmentOf_total : (allotmentOf b s).tiers[k].total =
    sumOver (List.finRange 3) fun g => (allotmentOf b s).grades[g].takes[k] := by
  rw [allotmentOf_tiers, (allotted_serves s k).takes]
  exact sumOver_congr fun g _ => by rw [allotmentOf_takes]

/-- A tier takes what its consumers are allotted (R68). -/
theorem allotmentOf_members : (allotmentOf b s).tiers[k].total =
    sumOver (tierMembers s.gbu.consumers k) fun n => (allotmentOf b s).consumers[n].ac := by
  rw [allotmentOf_tiers, (allotted_serves s k).ac, tierMembers_inputsOf]
  exact sumOver_congr fun n _ => by rw [allotmentOf_consumer]

theorem allotmentOf_fits :
    (allotmentOf b s).tiers[k].total ≤ (allotmentOf b s).tiers[k].pool ∧
    (allotmentOf b s).tiers[k].total ≤ (allotmentOf b s).tiers[k].demand ∧
    ((allotmentOf b s).tiers[k].skipped = true ↔ (allotmentOf b s).tiers[k].demand = 0) := by
  obtain ⟨-, -, -, -, fits, asked, skipped⟩ := allotted_serves s k
  rw [allotmentOf_tiers]
  exact ⟨fits, asked, skipped⟩

/-- A tier's pool is what the tiers before it have left in the grades that reach it (R64). -/
theorem allotmentOf_pool : (allotmentOf b s).tiers[k].pool =
    sumOver (List.finRange 3) fun g =>
      if reaches s.gbu.grades[g] (k.1 + 1) then
        (allotmentOf b s).grades[g].ag - sumOver (tiersBefore k) fun j => (allotmentOf b s).grades[g].takes[j]
      else 0 := by
  rw [allotmentOf_tiers, (allotted_serves s k).pool, tierPool, eligible, sumOver_filter]
  refine sumOver_congr fun g _ => ?_
  rw [resultsBefore_ug, allotmentOf_takes, allotmentOf_grade]
  rfl

end

/-! ## The recovered share and the sufficiency -/

theorem heatConsumers_inputsOf (s) : heatConsumers (inputsOf s).consumers = heatConsumers s.gbu.consumers :=
  List.filter_congr fun n _ => by rw [inputsOf_consumer]

theorem inputsOf_isPower (s) (n : Fin 12) : (inputsOf s).consumers[n].isPower = s.gbu.consumers[n].isPower := by
  rw [inputsOf_consumer]
  rfl

theorem allotmentOf_rho (b s) :
    (allotmentOf b s).rho = recoveredShare (inputsOf s) (allotted s) s.gbu.rhoNow.value ∧
    (allotmentOf b s).rhoHeld = decide (heatFiring (inputsOf s) (allotted s) = 0) := by
  simp only [allotmentOf, stepRecordOf, and_self]

theorem allotmentOf_demand (b s) : (allotmentOf b s).neff = s.exs.record.neff ∧
    (allotmentOf b s).gNominal = s.exs.record.gasNominal ∧
    (allotmentOf b s).sufficient =
      sufficiencyFlag (inputsOf s).consumers (allotted s) (allotmentOf b s).gNominal := by
  simp only [allotmentOf, stepRecordOf, and_self]

/-- The firing of the HEAT consumers, from the record (R71). -/
theorem allotmentOf_fired (b s) : heatFiring (inputsOf s) (allotted s) =
    sumOver (heatConsumers s.gbu.consumers) fun n =>
      (allotmentOf b s).consumers[n].ac + (allotmentOf b s).consumers[n].sc := by
  rw [heatFiring, heatConsumers_inputsOf]
  exact sumOver_congr fun n _ => by rw [allotmentOf_consumer]

theorem allotmentOf_recovered (b s) :
    sumOver (heatConsumers (inputsOf s).consumers) (fun n => (allotted s).ac[n]) =
      sumOver (heatConsumers s.gbu.consumers) fun n => (allotmentOf b s).consumers[n].ac := by
  rw [heatConsumers_inputsOf]
  exact sumOver_congr fun n _ => by rw [allotmentOf_consumer]

section
variable {x : Inputs} {w : Results} {old : Nat}

theorem recoveredShare_held (h : heatFiring x w = 0) : recoveredShare x w old = old := if_pos h

theorem recoveredShare_fired (h : heatFiring x w ≠ 0) : recoveredShare x w old =
    1000 * sumOver (heatConsumers x.consumers) (fun n => w.ac[n]) / heatFiring x w := if_neg h

theorem recoveredShare_le (h : heatFiring x w ≠ 0) : recoveredShare x w old ≤ 1000 := by
  rw [recoveredShare_fired h]
  refine Nat.div_le_of_le_mul ?_
  rw [Nat.mul_comm _ 1000]
  exact Nat.mul_le_mul_left 1000 (sumOver_mono fun n _ => Nat.le_add_right ..)

end

theorem sufficiencyFlag_none {v : Vector Consumer 12} (h : ∀ n : Fin 12, ¬ v[n].isPower = true) (w gas) :
    sufficiencyFlag v w gas = false := by
  have empty : powerConsumers v = [] := List.eq_nil_iff_forall_not_mem.2 fun n hn => h n (mem_powerConsumers.1 hn)
  rw [sufficiencyFlag, empty]
  rfl

/-- The flag is judged on the pool of the first POWER consumer's tier (R72). -/
theorem sufficiencyFlag_iff {v : Vector Consumer 12} {n : Fin 12} {k : Fin 4} (power : v[n].isPower = true)
    (first : ∀ m < n, ¬ v[m].isPower = true) (tier : v[n].tier = k.1 + 1) (w gas) :
    sufficiencyFlag v w gas = true ↔ gas ≤ w.tiers[k].pool := by
  obtain ⟨rest, list⟩ := powerConsumers_first power first
  have index : asFin 4 (v[n].tier - 1) = some k := by rw [tier, Nat.add_sub_cancel, asFin_val]
  unfold sufficiencyFlag
  rw [list]
  simp only [List.head?_cons, index, decide_eq_true_eq]

/-! ## The record of the allocation that a boundary finds -/

section
variable {b : Boundary} {s a : State}

theorem Found.unused (found : Found b s a) {g : Fin 3} (unused : s.gbu.grades[g].used = false) :
    (allotmentOf b a).grades[g].ag = 0 ∧ (allotmentOf b a).grades[g].flare = 0 := by
  obtain ⟨_, _, x, grade, idle⟩ := found.grades g
  refine ⟨?_, ?_⟩
  · have handed : (handedPower a.gbu.grades)[g] = x.ag := handedPower_grade (by rw [grade])
    rw [allotmentOf_grade]
    exact handed.trans (idle unused)
  · rw [allotmentOf_flare]
    exact flareAmount_idle (by rw [grade]; simp only [unused, Bool.false_and])

theorem Found.flare_le (found : Found b s a) (g : Fin 3) :
    (allotmentOf b a).grades[g].flare ≤ s.gbu.grades[g].flareCapacity := by
  obtain ⟨_, _, _, grade, -⟩ := found.grades g
  rw [allotmentOf_flare, grade]
  exact flareAmount_le ..

/-- Whether a grade flares is judged on its use and its flare channel as they stood (R70). -/
theorem Found.flares_iff (found : Found b s a) (g : Fin 3) :
    (a.gbu.grades[g].used && channelRunning a.dcu.channels a.gbu.grades[g].flareChannel) = true ↔
      s.gbu.grades[g].used = true ∧
        ∃ ch ∈ s.gbu.grades[g].flareChannel, channelState s.dcu.channels ch = .running := by
  obtain ⟨_, _, _, grade, -⟩ := found.grades g
  rw [grade, found.channels, Bool.and_eq_true, channelRunning_iff]

end

/-- Settles O29: the record of the boundary's allocation, grade by grade, tier by tier and as a whole. -/
theorem allocationsBalance : Obligations.AllocationsBalance := by
  refine ⟨fun s o running ends => ?_, fun s o running ends => ?_⟩
  · obtain ⟨t, a, stepped, found, -, gbu, -⟩ := stepBoundary_allocates o running ends
    have grades : t.gbu.grades = a.gbu.grades := by rw [gbu]; rfl
    refine ⟨t, stepped, allotmentOf (boundaryOf s.sck) a, by rw [gbu]; rfl, fun g => ?_, fun g => ?_, fun k => ?_⟩
    · have balance := allotmentOf_balance (boundaryOf s.sck) a g
      rw [sumOver_finRange_four] at balance
      exact ⟨balance, found.flare_le g, found.unused⟩
    · obtain ⟨_, _, _, grade, -⟩ := found.grades g
      have band : (allotmentOf (boundaryOf s.sck) a).grades[g].band = a.gbu.grades[g].band := by
        rw [allotmentOf_grade]
        rfl
      intro x e left runs
      refine ⟨by rw [grades]; exact band, fun idle => ?_, fun flaring => ?_⟩
      · have flare : x.flare = _ := allotmentOf_flare ..
        rw [flare]
        exact flareAmount_idle (Bool.eq_false_iff.2 (mt (found.flares_iff g).1 idle))
      · have flare : x.flare = _ :=
          (allotmentOf_flare ..).trans (flareAmount_running ((found.flares_iff g).2 flaring))
        rw [flare, ← band, grade]
        cases x.band <;> rfl
    · have pool := allotmentOf_pool (boundaryOf s.sck) a k
      have total := allotmentOf_total (boundaryOf s.sck) a k
      have members := allotmentOf_members (boundaryOf s.sck) a k
      rw [sumOver_finRange_three] at total
      rw [found.consumers] at members
      rw [← grades] at pool
      exact ⟨pool, total, members, allotmentOf_fits ..⟩
  · obtain ⟨t, a, stepped, found, pos, gbu, -⟩ := stepBoundary_allocates o running ends
    obtain ⟨rho, held⟩ := allotmentOf_rho (boundaryOf s.sck) a
    obtain ⟨neff, nominal, flag⟩ := allotmentOf_demand (boundaryOf s.sck) a
    have powers : ∀ n : Fin 12, (inputsOf a).consumers[n].isPower = s.gbu.consumers[n].isPower := fun n => by
      rw [inputsOf_isPower, found.consumers]
    refine ⟨t, stepped, allotmentOf (boundaryOf s.sck) a, by rw [gbu]; rfl, rfl, rfl, rfl, pos,
      by rw [gbu, ← found.rhoNow]; rfl, by rw [gbu]; rfl, ?_, fun within => ?_, fun none => ?_,
      fun n k power first tier => ?_⟩
    · have allFired := allotmentOf_fired (boundaryOf s.sck) a
      have allRecovered := allotmentOf_recovered (boundaryOf s.sck) a
      rw [found.consumers] at allFired allRecovered
      rw [found.rhoNow] at rho
      refine ⟨fun cold => ?_, fun fires => ?_⟩
      · have cold : heatFiring (inputsOf a) (allotted a) = 0 := allFired.trans cold
        exact ⟨rho.trans (recoveredShare_held cold), held.trans (decide_eq_true cold)⟩
      · have fires : heatFiring (inputsOf a) (allotted a) ≠ 0 := fun cold => fires (allFired.symm.trans cold)
        have share := rho.trans (recoveredShare_fired fires)
        rw [allRecovered, allFired] at share
        exact ⟨share, held.trans (decide_eq_false fires), rho.trans_le (recoveredShare_le fires)⟩
    · rw [neff, nominal, found.record (within_slot.2 within)]
      exact ⟨rfl, rfl⟩
    · rw [flag]
      exact sufficiencyFlag_none (fun n => by rw [powers n]; exact none n) ..
    · have tier : (inputsOf a).consumers[n].tier = k.1 + 1 := by rw [inputsOf_consumer, found.consumers]; exact tier
      rw [flag, allotmentOf_tiers]
      exact sufficiencyFlag_iff (by rw [powers n]; exact power) (fun m below => by rw [powers m]; exact first m below)
        tier ..

end Sys2Proof.Machine
end

section
/-!
The drive pins and the permissives, channel by channel (R79, R85, R87, R88): what is sound of one channel and of the pin
of its odd partner, and what a change of one channel has to keep.
-/
namespace Sys2Proof.Machine

/-! ## Steps of a pair -/

/-- The mode, the state, the idle level and the permissive of a channel stand. -/
structure Steers (c d : DriveChannel) : Prop where
  mode : d.mode = c.mode
  state : d.state = c.state
  idle : d.idle = c.idle
  permissive : d.permissive = c.permissive

section
variable {c d e : DriveChannel}

theorem Steers.trans (h : Steers c d) (k : Steers d e) : Steers c e :=
  ⟨k.mode.trans h.mode, k.state.trans h.state, k.idle.trans h.idle, k.permissive.trans h.permissive⟩

theorem steers_judgePair (c) : Steers c (judgePair c) := by
  obtain ⟨-, h⟩ | ⟨-, h⟩ | ⟨-, -, h⟩ := judgePair_cases c <;> (rw [h]; exact ⟨rfl, rfl, rfl, rfl⟩)

theorem steers_retarget (c) : Steers c (retarget c) := by
  unfold retarget
  dsimp only
  generalize (if c.sub = .raising then _ else _ : Int) = toward
  split
  · exact ⟨rfl, rfl, rfl, rfl⟩
  split
  · exact ⟨rfl, rfl, rfl, rfl⟩
  · exact ⟨rfl, rfl, rfl, rfl⟩

theorem steers_pairSetpoint (p c) : Steers c (pairSetpoint p c) := by
  have waits : Steers c { c with staged := p } := ⟨rfl, rfl, rfl, rfl⟩
  have aims : Steers c { c with staged := p, active := p } := ⟨rfl, rfl, rfl, rfl⟩
  unfold pairSetpoint
  split
  · exact waits
  · exact waits
  all_goals split
  · exact waits
  · exact aims.trans (steers_judgePair _)
  · exact waits
  · exact aims.trans (steers_retarget _)
  · exact waits
  · exact aims.trans (steers_retarget _)

theorem steers_moveTick (c) : Steers c (moveTick c) := by
  unfold moveTick
  dsimp only
  split
  · split
    · exact ⟨rfl, rfl, rfl, rfl⟩
    · exact ⟨rfl, rfl, rfl, rfl⟩
  · exact ⟨rfl, rfl, rfl, rfl⟩

theorem steers_pauseTick (c) : Steers c (pauseTick c) := by
  unfold pauseTick
  dsimp only
  split
  · exact ⟨rfl, rfl, rfl, rfl⟩
  split
  · exact ⟨rfl, rfl, rfl, rfl⟩
  · obtain ⟨mode, state, idle, permissive⟩ :=
      steers_judgePair { c with active := c.staged, remaining := 0, divider := 0, sub := .atRest }
    exact ⟨mode, state, idle, permissive⟩

theorem steers_pairBaseTick (c) : Steers c (pairBaseTick c) := by
  unfold pairBaseTick
  cases c.sub with
  | atRest => exact ⟨rfl, rfl, rfl, rfl⟩
  | raising => exact steers_moveTick c
  | lowering => exact steers_moveTick c
  | reversalPause => exact steers_pauseTick c
  | seating => exact steers_pauseTick c

theorem steers_rejudged (c) : Steers { c with state := .running } (rejudged c) := by
  obtain ⟨mode, state, idle, permissive⟩ :=
    steers_judgePair { c with state := .running, active := c.staged, sub := .atRest }
  exact ⟨mode, state, idle, permissive⟩

/-! ## Permissives -/

theorem permissiveMet_iff {lines : Vector EventLine 8} :
    permissiveMet lines c = true ↔ ∀ x ∈ c.permissive, lines[x.1].debounced = x.2 := by
  unfold permissiveMet
  cases h : c.permissive <;> simp

theorem permissiveMet_congr (lines : Vector EventLine 8) (h : d.permissive = c.permissive) :
    permissiveMet lines d = permissiveMet lines c := by
  rw [Bool.eq_iff_iff, permissiveMet_iff, permissiveMet_iff, h]

theorem permissiveMet_congr_lines {lines lines' : Vector EventLine 8}
    (h : ∀ x ∈ c.permissive, lines'[x.1].debounced = lines[x.1].debounced) :
    permissiveMet lines' c = permissiveMet lines c := by
  rw [Bool.eq_iff_iff, permissiveMet_iff, permissiveMet_iff]
  exact forall₂_congr fun x hx => by rw [h x hx]

/-! ## One channel -/

/-- A channel of its own, with its permissive met or not, and the pin `next` of its odd partner: both pins stand as it
drives them, and it runs exactly while its permissive is met, unless it is STOPPED (R79, R85, R87, R88). -/
structure ChannelSound (met : Bool) (c : DriveChannel) (next : Level) : Prop where
  idle : c.state ≠ .running → c.pin = c.idle
  pair : c.mode = .raise → c.pin = levelWhen (raiseDriven c) c ∧ next = levelWhen (lowerDriven c) c
  held : c.mode = .cascade → next = c.idle
  runs : c.state ≠ .stopped → (c.state = .running ↔ met = true)

variable {met b : Bool} {next next' : Level}

theorem activeLevel_congr (idle : d.idle = c.idle) : activeLevel d = activeLevel c := by
  unfold activeLevel
  rw [idle]

theorem levelWhen_congr (idle : d.idle = c.idle) (on : Bool) : levelWhen on d = levelWhen on c := by
  unfold levelWhen
  rw [activeLevel_congr idle, idle]

theorem raiseDriven_still (h : c.state ≠ .running) : raiseDriven c = false := by simp [raiseDriven, h]
theorem lowerDriven_still (h : c.state ≠ .running) : lowerDriven c = false := by simp [lowerDriven, h]

/-- A channel that does not run holds its pins idle (R86, R87, R88). -/
theorem channelSound_idle (still : c.state ≠ .running) (pin : c.pin = c.idle)
    (partner : c.mode.takesPartner = true → next = c.idle) (unmet : c.state ≠ .stopped → met = false) :
    ChannelSound met c next where
  idle _ := pin
  pair raise := by
    rw [raiseDriven_still still, lowerDriven_still still]
    exact ⟨pin, partner (by rw [raise]; rfl)⟩
  held cascade := partner (by rw [cascade]; rfl)
  runs started := iff_of_false still (by rw [unmet started]; decide)

/-- A pair whose lines stand as it drives them (R88). -/
theorem channelSound_pair (raise : c.mode = .raise) (runs : c.state ≠ .stopped → (c.state = .running ↔ met = true)) :
    ChannelSound met { c with pin := levelWhen (raiseDriven c) c } (levelWhen (lowerDriven c) c) where
  idle still := by
    have idle := raiseDriven_still (c := c) still
    dsimp only
    rw [idle]
    rfl
  pair _ := ⟨rfl, rfl⟩
  held cascade := absurd (raise.symm.trans cascade) (by decide)
  runs := runs

/-- A RUNNING channel that works in periods drives its pin as its period says (R88, R90). -/
theorem channelSound_period (period : c.mode ≠ .raise) (running : c.state = .running)
    (held : c.mode = .cascade → next = c.idle) (isMet : met = true) : ChannelSound met c next where
  idle still := absurd running still
  pair raise := absurd raise period
  held := held
  runs _ := iff_of_true running isMet

/-- Of the partner's pin a channel that takes no partner asks nothing. -/
theorem ChannelSound.partner (h : ChannelSound met c next) (same : c.mode.takesPartner = true → next' = next) :
    ChannelSound met c next' where
  idle := h.idle
  pair raise := by
    rw [same (by rw [raise]; rfl)]
    exact h.pair raise
  held cascade := by
    rw [same (by rw [cascade]; rfl)]
    exact h.held cascade
  runs := h.runs

/-- A change that leaves mode, state, levels, permissive and sub-state alone. -/
theorem ChannelSound.stands (h : ChannelSound met c next) (same : Steers c d) (pin : d.pin = c.pin)
    (sub : d.sub = c.sub) : ChannelSound met d next := by
  obtain ⟨mode, state, idle, -⟩ := same
  have raises : levelWhen (raiseDriven d) d = levelWhen (raiseDriven c) c := by
    rw [levelWhen_congr idle, raiseDriven, state, sub, raiseDriven]
  have lowers : levelWhen (lowerDriven d) d = levelWhen (lowerDriven c) c := by
    rw [levelWhen_congr idle, lowerDriven, state, sub, lowerDriven]
  refine ⟨fun still => ?_, fun raise => ?_, fun cascade => ?_, fun started => ?_⟩
  · rw [pin, idle]
    exact h.idle (state ▸ still)
  · rw [pin, raises, lowers]
    exact h.pair (mode ▸ raise)
  · rw [idle]
    exact h.held (mode ▸ cascade)
  · rw [state] at started ⊢
    exact h.runs started

/-- The reaction to a change of the permissive follows the permissive (R87). -/
theorem channelSound_reacted (h : ChannelSound b c next) :
    ChannelSound met (reacted met c) (partnerPin met c next) := by
  by_cases blocks : c.state = .running ∧ met = false
  · obtain ⟨running, rfl⟩ := blocks
    obtain ⟨own, partner⟩ := reacted_blocks running
    rw [own]
    exact channelSound_idle nofun rfl (partner next) fun _ => rfl
  by_cases returns : c.state = .blocked ∧ met = true
  · obtain ⟨blocked, rfl⟩ := returns
    by_cases raise : c.mode = .raise
    · obtain ⟨own, partner⟩ := reacted_pair blocked raise next
      have steers := steers_rejudged c
      rw [own, partner]
      exact channelSound_pair (steers.mode.trans raise) fun _ => iff_of_true steers.state rfl
    · have partner : partnerPin true c next = next := by
        unfold partnerPin
        rw [blocked]
        exact if_neg raise
      rw [reacted_period blocked raise, partner]
      exact channelSound_period raise rfl h.held rfl
  obtain ⟨own, partner⟩ := reacted_stands blocks returns next
  rw [own, partner]
  refine { h with runs := fun started => ?_ }
  cases state : c.state with
  | stopped => exact absurd state started
  | running => exact iff_of_true rfl (by simpa [state] using blocks)
  | blocked => exact iff_of_false nofun (by simpa [state] using returns)

end

/-! ## All channels -/

/-- Only even channels take a partner, a member has no state of its own, and every other channel is sound (R79, R85,
R87, R88). -/
structure DrivesKept (lines : Vector EventLine 8) (v : Vector DriveChannel 16) : Prop where
  even : EvenPairs v
  member : ∀ k : Fin 16, isMember v k = true → v[k].state = .stopped
  own : ∀ k : Fin 16, isMember v k = false → ChannelSound (permissiveMet lines v[k]) v[k] v[k + 1].pin

theorem drivesSound_iff {s : State} : DrivesSound s ↔ DrivesKept s.fiu.lines s.dcu.channels := by
  constructor
  · rintro ⟨pins, follow⟩
    refine ⟨evenPairs_of_pinsSound pins, fun k => (pins k).2.1, fun k own => ?_⟩
    obtain ⟨idle, pair, held⟩ := (pins k).2.2 own
    exact ⟨idle, pair, held, follow k own⟩
  · rintro ⟨even, member, own⟩
    refine ⟨fun k => ⟨fun odd => ?_, member k, fun free => ?_⟩, fun k free => (own k free).runs⟩
    · rw [← not_or]
      intro takes
      have := even k (by rw [takesPartner_eq, Bool.or_eq_true, decide_eq_true_iff, decide_eq_true_iff]; exact takes)
      omega
    · obtain ⟨idle, pair, held, -⟩ := own k free
      exact ⟨idle, pair, held⟩

/-- From `v` to `w` channel `ch` alone is written, in its mode, with the pin of the odd partner that it takes. -/
structure Revises (ch : Fin 16) (v w : Vector DriveChannel 16) : Prop where
  mode : w[ch].mode = v[ch].mode
  next : ∃ pin, w[ch + 1] = { v[ch + 1] with pin := pin }
  alone : v[ch].mode.takesPartner = false → w[ch + 1] = v[ch + 1]
  other : ∀ k : Fin 16, k ≠ ch → k ≠ ch + 1 → w[k] = v[k]

section
variable {lines : Vector EventLine 8} {v w : Vector DriveChannel 16} {ch k : Fin 16} {c : DriveChannel}

theorem revises_put (mode : c.mode = v[ch].mode) : Revises ch v (put v ch c) where
  mode := by rw [put_getElem_self, mode]
  next := ⟨_, put_getElem_ne _ _ (Ne.symm (next_ne ch))⟩
  alone _ := put_getElem_ne _ _ (Ne.symm (next_ne ch))
  other _ own _ := put_getElem_ne _ _ (Ne.symm own)

theorem revises_putIdle (mode : c.mode = v[ch].mode) : Revises ch v (putIdle v ch c) where
  mode := by rw [putIdle_self, mode]
  next := ⟨_, putIdle_next ..⟩
  alone alone := by
    rw [putIdle_next, mode, alone]
    rfl
  other _ := putIdle_ne _ _

theorem revises_putPair (mode : c.mode = v[ch].mode) (raise : v[ch].mode = .raise) :
    Revises ch v (putPair v ch c) where
  mode := by rw [putPair_self, mode]
  next := ⟨_, putPair_next ..⟩
  alone alone := by
    rw [raise] at alone
    exact absurd alone (by decide)
  other _ := putPair_ne _ _

theorem Revises.modes (h : Revises ch v w) (k : Fin 16) : w[k].mode = v[k].mode := by
  by_cases own : k = ch
  · rw [own, h.mode]
  by_cases next : k = ch + 1
  · obtain ⟨_, same⟩ := h.next
    rw [next, same]
  · rw [h.other k own next]

theorem next_next_ne : ∀ ch : Fin 16, ch + 1 + 1 ≠ ch := by decide

/-- The channel before one that is no member takes no partner. -/
theorem EvenPairs.not_takes_before (even : EvenPairs v) (own : isMember v (k + 1) = false) :
    v[k].mode.takesPartner = false :=
  Bool.eq_false_iff.2 fun takes => Bool.eq_false_iff.1 own (member_of_takesPartner even takes)

/-- A change of one channel of its own keeps the drives where it keeps that channel. -/
theorem DrivesKept.revise (h : DrivesKept lines v) (own : isMember v ch = false) (r : Revises ch v w)
    (sound : ChannelSound (permissiveMet lines w[ch]) w[ch] w[ch + 1].pin) : DrivesKept lines w := by
  refine ⟨h.even.congr r.modes, fun k member => ?_, fun k free => ?_⟩
  · rw [isMember_congr r.modes] at member
    have other : k ≠ ch := fun same => Bool.eq_false_iff.1 own (same ▸ member)
    by_cases next : k = ch + 1
    · obtain ⟨_, same⟩ := r.next
      rw [next] at member ⊢
      rw [same]
      exact h.member _ member
    · rw [r.other k other next]
      exact h.member k member
  · rw [isMember_congr r.modes] at free
    by_cases here : k = ch
    · rw [here]
      exact sound
    by_cases next : k = ch + 1
    · subst next
      rw [r.alone (h.even.not_takes_before free), r.other _ (next_next_ne ch) (next_ne _)]
      exact h.own _ free
    · rw [r.other k here next]
      refine (h.own k free).partner fun takes => ?_
      have before : k + 1 ≠ ch := fun same => by
        rw [h.even.not_takes_before (same ▸ own)] at takes
        exact absurd takes (by decide)
      rw [r.other _ before fun same => here (add_right_cancel same)]

/-- A channel replaced by one that drives the same pins. -/
theorem DrivesKept.stands (h : DrivesKept lines v) (own : isMember v ch = false) (same : Steers v[ch] c)
    (pin : c.pin = v[ch].pin) (sub : c.sub = v[ch].sub) : DrivesKept lines (put v ch c) := by
  refine h.revise own (revises_put same.mode) ?_
  rw [put_getElem_self, put_getElem_ne _ _ (Ne.symm (next_ne ch)), permissiveMet_congr lines same.permissive]
  exact (h.own ch own).stands same pin sub

/-- A channel that runs no longer, or not yet (R86, R87). -/
theorem DrivesKept.idles (h : DrivesKept lines v) (own : isMember v ch = false) (mode : c.mode = v[ch].mode)
    (still : c.state ≠ .running) (unmet : c.state ≠ .stopped → permissiveMet lines c = false) :
    DrivesKept lines (putIdle v ch c) := by
  refine h.revise own (revises_putIdle mode) ?_
  rw [putIdle_self, putIdle_next]
  exact channelSound_idle still rfl (fun takes => if_pos takes) unmet

/-- A pair that takes a step, with its lines (R88). -/
theorem DrivesKept.pair (h : DrivesKept lines v) (own : isMember v ch = false) (raise : v[ch].mode = .raise)
    (mode : c.mode = v[ch].mode) (runs : c.state ≠ .stopped → (c.state = .running ↔ permissiveMet lines c = true)) :
    DrivesKept lines (putPair v ch c) := by
  refine h.revise own (revises_putPair mode raise) ?_
  rw [putPair_self, putPair_next]
  exact channelSound_pair (mode.trans raise) runs

/-- A pair that takes a step in its state. -/
theorem DrivesKept.steers (h : DrivesKept lines v) (own : isMember v ch = false) (raise : v[ch].mode = .raise)
    (steers : Steers v[ch] c) : DrivesKept lines (putPair v ch c) := by
  refine h.pair own raise steers.mode ?_
  rw [steers.state, permissiveMet_congr lines steers.permissive]
  exact (h.own ch own).runs

/-- A RUNNING channel that works in periods, with its pin as its period says (R88, R90). -/
theorem DrivesKept.period (h : DrivesKept lines v) (own : isMember v ch = false) (period : v[ch].mode ≠ .raise)
    (mode : c.mode = v[ch].mode) (idle : c.idle = v[ch].idle) (running : c.state = .running)
    (met : permissiveMet lines c = true) : DrivesKept lines (put v ch c) := by
  refine h.revise own (revises_put mode) ?_
  rw [put_getElem_self, put_getElem_ne _ _ (Ne.symm (next_ne ch))]
  refine channelSound_period (by rw [mode]; exact period) running (fun cascade => ?_) met
  rw [idle]
  exact (h.own ch own).held (mode ▸ cascade)

theorem DrivesKept.running_met (h : DrivesKept lines v) (own : isMember v ch = false)
    (running : v[ch].state = .running) : permissiveMet lines v[ch] = true :=
  ((h.own ch own).runs (by rw [running]; decide)).1 running

/-- The drives depend on the lines by their debounced levels alone. -/
theorem DrivesKept.sameLevels {lines' : Vector EventLine 8} (h : DrivesKept lines v)
    (same : ∀ l : Fin 8, lines'[l].debounced = lines[l].debounced) : DrivesKept lines' v :=
  ⟨h.even, h.member, fun k own => by
    rw [permissiveMet_congr_lines fun x _ => same x.1]
    exact h.own k own⟩

end

end Sys2Proof.Machine
end

section
/-!
The operations on drive channels, each of which keeps pins and permissives: DRIVE-SET, setpoints, starts and stops, the
events of periods and pairs, and a sample of the event lines (R80 to R98).
-/
namespace Sys2Proof.Machine

section
variable {lines : Vector EventLine 8} {v : Vector DriveChannel 16} {ch : Fin 16}

/-! ## DRIVE-SET -/

section
variable (f : DriveSetFields) (k : DriveConfig) (v : Vector DriveChannel 16) (ch : Fin 16)

theorem driveSetTo_self : (driveSetTo f k v ch)[ch] = configured f k v[ch] := by
  unfold driveSetTo
  dsimp only
  split
  · rw [put_getElem_ne _ _ (next_ne ch), put_getElem_self]
  split
  · rw [put_getElem_ne _ _ (next_ne ch), put_getElem_self]
  · exact put_getElem_self ..

/-- The odd partner becomes a member: its pin is held (R79, R81). -/
theorem driveSetTo_takes (takes : k.mode.takesPartner = true) :
    (driveSetTo f k v ch)[ch + 1] = { v[ch + 1] with pin := k.idle } := by
  unfold driveSetTo
  dsimp only
  rw [if_pos takes, put_getElem_self, put_getElem_ne _ _ (Ne.symm (next_ne ch))]

/-- The odd partner becomes a channel of its own again (R81). -/
theorem driveSetTo_frees (alone : k.mode.takesPartner = false) (even : ch.1 % 2 = 0)
    (took : v[ch].mode.takesPartner = true) :
    (driveSetTo f k v ch)[ch + 1] = { v[ch + 1] with state := .stopped, pin := v[ch + 1].idle } := by
  unfold driveSetTo
  dsimp only
  rw [if_neg (by rw [alone]; decide), if_pos (by rw [decide_eq_true even, took]; rfl), put_getElem_self,
    put_getElem_ne _ _ (Ne.symm (next_ne ch))]

/-- Every other channel stands. -/
theorem driveSetTo_ne {i : Fin 16} (own : i ≠ ch)
    (other : i = ch + 1 → k.mode.takesPartner = false ∧ (ch.1 % 2 = 0 → v[ch].mode.takesPartner = false)) :
    (driveSetTo f k v ch)[i] = v[i] := by
  have away {x : DriveChannel} (h : i ≠ ch + 1) : (put (put v ch (configured f k v[ch])) (ch + 1) x)[i] = v[i] := by
    rw [put_getElem_ne _ _ (Ne.symm h), put_getElem_ne _ _ (Ne.symm own)]
  unfold driveSetTo
  dsimp only
  split
  · next takes => exact away fun h => absurd (takes.symm.trans (other h).1) (by decide)
  split
  · next frees =>
    rw [Bool.and_eq_true, decide_eq_true_iff] at frees
    exact away fun h => absurd (frees.2.symm.trans ((other h).2 frees.1)) (by decide)
  · exact put_getElem_ne _ _ (Ne.symm own)

end

/-- No even channel is a member (R79). -/
theorem isMember_even (even : ch.1 % 2 = 0) : isMember v ch = false := by
  unfold isMember
  rw [decide_eq_false (by omega), Bool.false_and]

theorem DrivesKept.driveSet (h : DrivesKept lines v) {f : DriveSetFields} {k : DriveConfig}
    (own : isMember v ch = false) (stopped : v[ch].state = .stopped)
    (even : k.mode.takesPartner = true → ch.1 % 2 = 0)
    (partner : k.mode.takesPartner = true → v[ch + 1].state = .stopped) : DrivesKept lines (driveSetTo f k v ch) := by
  have self := driveSetTo_self f k v ch
  have modes : ∀ i : Fin 16, i ≠ ch → (driveSetTo f k v ch)[i].mode = v[i].mode := fun i other => by
    obtain ⟨same, -⟩ | ⟨-, _, same⟩ | ⟨-, -, _, same⟩ := driveSetTo_cases f k v ch i
    · exact absurd same other
    · rw [same]
    · rw [same]
  -- Of the channels that were members, only the partner of `ch` is written.
  have behind : ∀ j : Fin 16, j ≠ ch → v[j].mode.takesPartner = true → (driveSetTo f k v ch)[j + 1] = v[j + 1] :=
    fun j other takes => by
      refine driveSetTo_ne f k v ch (fun same => ?_) fun same => absurd (add_right_cancel same) other
      rw [h.even.not_takes_before (same ▸ own)] at takes
      exact absurd takes (by decide)
  generalize hw : driveSetTo f k v ch = w at self modes behind
  have evens : EvenPairs w := fun i takes => by
    by_cases here : i = ch
    · subst here
      rw [self] at takes
      exact even takes
    · exact h.even i (by rw [← modes i here]; exact takes)
  refine ⟨evens, fun i member => ?_, fun i free => ?_⟩
  · obtain ⟨j, rfl, evenJ, takes⟩ := isMember_iff.1 member
    by_cases here : j = ch
    · subst here
      rw [self] at takes
      rw [← hw, driveSetTo_takes f k v j takes]
      exact partner takes
    · rw [modes j here] at takes
      rw [behind j here takes]
      exact h.member _ (member_of_takesPartner h.even takes)
  · by_cases here : i = ch
    · subst here
      rw [self]
      refine channelSound_idle (by rw [configured, stopped]; decide) rfl (fun takes => ?_)
        fun started => absurd stopped started
      rw [← hw, driveSetTo_takes f k v i takes]
      rfl
    by_cases next : i = ch + 1
    · subst next
      have alone : k.mode.takesPartner = false := Bool.eq_false_iff.2 fun takes =>
        Bool.eq_false_iff.1 free (member_of_takesPartner evens (by rw [self]; exact takes))
      by_cases frees : ch.1 % 2 = 0 ∧ v[ch].mode.takesPartner = true
      · have odd : v[ch + 1].mode.takesPartner = false := Bool.eq_false_iff.2 fun takes => by
          have := h.even _ takes
          have := odd_next ch frees.1
          omega
        rw [← hw, driveSetTo_frees f k v ch alone frees.1 frees.2]
        exact channelSound_idle nofun rfl (fun takes => absurd (takes.symm.trans odd) (by decide))
          fun started => absurd rfl started
      · have took : v[ch].mode.takesPartner = false := Bool.eq_false_iff.2 fun takes =>
          frees ⟨h.even ch takes, takes⟩
        have before : isMember v (ch + 1) = false := Bool.eq_false_iff.2 fun member => by
          obtain ⟨j, same, -, takes⟩ := isMember_iff.1 member
          rw [add_right_cancel same, took] at takes
          exact absurd takes (by decide)
        rw [← hw, driveSetTo_ne f k v ch (next_ne ch) fun _ => ⟨alone, fun _ => took⟩,
          driveSetTo_ne f k v ch (next_next_ne ch) fun same => absurd same (next_ne _)]
        exact h.own _ before
    · have before : isMember v i = false := Bool.eq_false_iff.2 fun member => by
        obtain ⟨j, rfl, evenJ, takes⟩ := isMember_iff.1 member
        have other : j ≠ ch := fun same => next (same ▸ rfl)
        exact Bool.eq_false_iff.1 free (member_of_takesPartner evens (by rw [modes j other]; exact takes))
      have stands : w[i] = v[i] := by
        rw [← hw]
        exact driveSetTo_ne f k v ch here fun same => absurd same next
      rw [stands]
      refine (h.own i before).partner fun takes => ?_
      rw [behind i here takes]

/-! ## Setpoints and positions -/

/-- A channel that has a source is a channel of its own, and the source is its own (R79). -/
theorem channelSource_eq_some {source : DriveSource} :
    channelSource v ch = some source ↔ isMember v ch = false ∧ v[ch].source = source := by
  unfold channelSource
  cases isMember v ch <;> simp

theorem DrivesKept.setpoint (h : DrivesKept lines v) (own : isMember v ch = false) (p) :
    DrivesKept lines (applySetpoint v ch p) := by
  unfold applySetpoint
  split
  · exact h.stands own ⟨rfl, rfl, rfl, rfl⟩ rfl rfl
  · exact h.stands own ⟨rfl, rfl, rfl, rfl⟩ rfl rfl
  split
  · next raise => exact h.steers own raise (steers_pairSetpoint p _)
  · exact h.stands own ⟨rfl, rfl, rfl, rfl⟩ rfl rfl

theorem DrivesKept.handTo (h : DrivesKept lines v) (target source p) :
    DrivesKept lines (handTo target source p v) := by
  unfold Machine.handTo handPosition
  split
  · exact h
  split
  · next named => exact h.setpoint (channelSource_eq_some.1 named).1 p
  · exact h

theorem DrivesKept.foldl {α : Type} {f : Vector DriveChannel 16 → α → Vector DriveChannel 16}
    (hf : ∀ v x, DrivesKept lines v → DrivesKept lines (f v x)) (l : List α) (h : DrivesKept lines v) :
    DrivesKept lines (l.foldl f v) :=
  foldl_related (R := fun v w => DrivesKept lines v → DrivesKept lines w) (fun _ => id) (fun h k => k ∘ h) hf l v h

/-- The positions of an allocation (R82, R84). -/
theorem DrivesKept.positions (h : DrivesKept lines v) (x w flares) :
    DrivesKept lines (handPositions x w flares v) := by
  refine DrivesKept.foldl (fun v g hv => ?_) _ (DrivesKept.foldl (fun v n hv => ?_) _ h)
  · unfold handFlare
    dsimp only
    split
    · exact hv.handTo ..
    · exact hv
  · unfold handConsumer
    dsimp only
    split
    · exact (hv.handTo ..).handTo ..
    · exact hv.handTo ..

/-- E written into a pair of its own (R98). -/
theorem DrivesKept.position (h : DrivesKept lines v) (own : isMember v ch = false) (raise : v[ch].mode = .raise) (e) :
    DrivesKept lines (positionSet v ch e) := by
  unfold positionSet
  dsimp only
  split
  · obtain ⟨mode, state, idle, permissive⟩ := steers_judgePair { v[ch] with est := e }
    exact h.steers own raise ⟨mode, state, idle, permissive⟩
  · exact h.stands own ⟨rfl, rfl, rfl, rfl⟩ rfl rfl

/-! ## Starts and stops -/

theorem DrivesKept.start (h : DrivesKept lines v) (own : isMember v ch = false) :
    DrivesKept lines (startChannel lines v ch) := by
  unfold startChannel
  split
  · next met =>
    by_cases raise : v[ch].mode = .raise
    · rw [runChannel_raise raise]
      have steers := steers_rejudged v[ch]
      exact h.pair own raise steers.mode fun _ =>
        iff_of_true steers.state ((permissiveMet_congr lines steers.permissive).trans met)
    · rw [runChannel_period raise]
      exact h.period own raise rfl rfl rfl met
  · next unmet => exact h.idles own rfl nofun fun _ => Bool.eq_false_iff.2 unmet

theorem DrivesKept.stop (h : DrivesKept lines v) (ch) : DrivesKept lines (stopChannel v ch) := by
  unfold stopChannel
  split
  · exact h
  · next started =>
    exact h.idles (Bool.eq_false_iff.2 fun member => started (h.member ch member)) rfl nofun
      fun started => absurd rfl started

theorem DrivesKept.stopAll (h : DrivesKept lines v) : DrivesKept lines (stopAll v) :=
  DrivesKept.foldl (fun _ ch hv => hv.stop ch) _ h

/-! ## Periods and pairs -/

/-- A RUNNING channel that works in periods, with a new pin (R90). -/
theorem DrivesKept.works (h : DrivesKept lines v) (works : worksInPeriods v ch = true)
    (running : v[ch].state = .running) {c : DriveChannel} (same : Steers v[ch] c) : DrivesKept lines (put v ch c) := by
  unfold worksInPeriods at works
  rw [Bool.and_eq_true, Bool.not_eq_true', decide_eq_true_iff] at works
  obtain ⟨own, period⟩ := works
  exact h.period own period same.mode same.idle (same.state.trans running)
    ((permissiveMet_congr lines same.permissive).trans (h.running_met own running))

theorem isRunningPair_iff : isRunningPair v ch = true ↔
    ch.1 % 2 = 0 ∧ v[ch].mode = .raise ∧ v[ch].state = .running := by
  unfold isRunningPair
  simp only [Bool.and_eq_true, decide_eq_true_iff, and_assoc]

theorem DrivesKept.tick (h : DrivesKept lines v) (running : isRunningPair v ch = true) :
    DrivesKept lines (putPair v ch (pairBaseTick v[ch])) := by
  obtain ⟨even, raise, -⟩ := isRunningPair_iff.1 running
  exact h.steers (isMember_even even) raise (steers_pairBaseTick _)

/-- A divider moves no pin. -/
theorem dividerTick_stands (c : DriveChannel) :
    Steers c (dividerTick c) ∧ (dividerTick c).pin = c.pin ∧ (dividerTick c).sub = c.sub := by
  unfold dividerTick
  split
  · exact ⟨⟨rfl, rfl, rfl, rfl⟩, rfl, rfl⟩
  split
  · exact ⟨⟨rfl, rfl, rfl, rfl⟩, rfl, rfl⟩
  split
  · exact ⟨⟨rfl, rfl, rfl, rfl⟩, rfl, rfl⟩
  · exact ⟨⟨rfl, rfl, rfl, rfl⟩, rfl, rfl⟩

theorem DrivesKept.dividers (h : DrivesKept lines v) : DrivesKept lines (each v fun _ c => dividerTick c) := by
  have modes : ∀ k : Fin 16, (each v fun _ c => dividerTick c)[k].mode = v[k].mode := fun k => by
    rw [each_getElem, (dividerTick_stands _).1.mode]
  refine ⟨h.even.congr modes, fun k member => ?_, fun k own => ?_⟩
  · rw [isMember_congr modes] at member
    rw [each_getElem, (dividerTick_stands _).1.state]
    exact h.member k member
  · rw [isMember_congr modes] at own
    obtain ⟨steers, pin, sub⟩ := dividerTick_stands v[k]
    rw [each_getElem, each_getElem, (dividerTick_stands v[k + 1]).2.1, permissiveMet_congr lines steers.permissive]
    exact (h.own k own).stands steers pin sub

end

/-! ## Event lines -/

/-- Every channel follows its permissive through a sample (R26, R87). -/
theorem drivesKept_sampleLines {s : State} (h : DrivesKept s.fiu.lines s.dcu.channels) (levels) :
    DrivesKept (sampleLines levels s).fiu.lines (sampleLines levels s).dcu.channels := by
  have reacts := reacts_sampleLines (levels := levels) h.even
  refine ⟨h.even.congr reacts.mode, fun k member => ?_, fun k own => ?_⟩
  · rw [isMember_congr reacts.mode] at member
    rw [reacts.member k member]
    exact h.member k member
  · rw [isMember_congr reacts.mode] at own
    have met : permissiveMet (sampleLines levels s).fiu.lines (sampleLines levels s).dcu.channels[k] =
        metAt (sampledLevel levels s) s.dcu.channels k := by
      rw [permissiveMet_congr _ (reacts.permissive k), Bool.eq_iff_iff, permissiveMet_iff, metAt_iff]
    have before := h.own k own
    have self := reacts.own k own
    have partner := reacts.partner k own
    rw [met]
    by_cases alerted : ((List.finRange 8).any fun l => alerts levels s l k) = true
    · rw [if_pos alerted] at self partner
      rw [self]
      refine (channelSound_reacted before).partner fun takes => partner ?_
      rw [← reacts.mode k, self]
      exact takes
    · rw [if_neg alerted] at self partner
      rw [self] at met ⊢
      rw [← met, permissiveMet_congr_lines fun x hx => ?_]
      · exact before.partner partner
      · by_contra changed
        exact alerted (alerted_iff.2 ⟨x, hx, changed⟩)

end Sys2Proof.Machine
end

section
/-!
Pins and permissives through the other blocks: most operations leave the drive channels and the event lines alone; ticks,
the modes and the resets keep what is sound of them.
-/
namespace Sys2Proof.Machine

/-- The drive channels and the event lines stand. -/
structure DrivesStand (s t : State) : Prop where
  dcu : t.dcu = s.dcu
  lines : t.fiu.lines = s.fiu.lines

/-- The drives are sound in a state. -/
abbrev Driven (s : State) : Prop := DrivesKept s.fiu.lines s.dcu.channels

section
variable {s t u : State}

theorem Driven.stand (h : Driven s) (k : DrivesStand s t) : Driven t := by
  unfold Driven
  rw [k.dcu, k.lines]
  exact h

theorem DrivesStand.refl (s : State) : DrivesStand s s := ⟨rfl, rfl⟩
theorem DrivesStand.trans (h : DrivesStand s t) (k : DrivesStand t u) : DrivesStand s u :=
  ⟨k.dcu.trans h.dcu, k.lines.trans h.lines⟩

/-- What leaves the drives alone does so after any change beside them. -/
theorem DrivesStand.after (k : DrivesStand t u) (dcu : t.dcu = s.dcu) (lines : t.fiu.lines = s.fiu.lines) :
    DrivesStand s u := .trans ⟨dcu, lines⟩ k

theorem Relinked.drivesStand : Relinked s t → DrivesStand s t := by rintro ⟨_, _, rfl, -⟩; exact ⟨rfl, rfl⟩
theorem Captures.drivesStand : Captures s t → DrivesStand s t := by rintro ⟨_, _, _, rfl⟩; exact ⟨rfl, rfl⟩
theorem Exports.drivesStand : Exports s t → DrivesStand s t := by rintro ⟨_, _, _, _, rfl⟩; exact ⟨rfl, rfl⟩
theorem Retires.drivesStand : Retires s t → DrivesStand s t := by rintro ⟨_, _, _, _, rfl⟩; exact ⟨rfl, rfl⟩
theorem Receives.drivesStand : Receives s t → DrivesStand s t := by rintro ⟨_, _, _, _, _, _, rfl⟩; exact ⟨rfl, rfl⟩

/-! ## Ticks -/

theorem driven_tick (h : Driven s) (o) : Driven (tick o s) := by
  obtain ⟨-, -, fiu⟩ := ticks_tick o s
  have lines : (tick o s).fiu.lines = s.fiu.lines := by rw [fiu]
  have channels : DrivesKept s.fiu.lines (tick o s).dcu.channels := by
    unfold tick
    split
    · obtain ⟨a, found, -, channels⟩ := allocated_boundaryTick o s
      rw [channels, allocate_channels, found.channels]
      exact h.positions ..
    · have aged : DrivesStand s (agePoints { s with sck := { s.sck with
          ticks := if s.sck.running then s.sck.ticks + 1 else 0, phaseMs := 0 } }) :=
        .after (ages_agePoints _).receives.drivesStand rfl rfl
      have dcu : (plainTick s).dcu = s.dcu := ((retires_countDownQueue ..).drivesStand.dcu).trans aged.dcu
      rw [dcu]
      exact h
  unfold Driven
  rw [lines]
  exact channels

/-! ## The modes and the resets -/

theorem drivesStand_modeStart (s) : DrivesStand s (modeStart s) := by
  obtain ⟨_, _, _, _, _, frame⟩ := modeStart_frame s
  rw [frame]
  exact ⟨rfl, rfl⟩

theorem driven_modeStop (h : Driven s) : Driven (modeStop s) := by
  obtain ⟨_, _, _, _, _, _, frame⟩ := modeStop_frame s
  have channels : (modeStop s).dcu.channels = stopAll s.dcu.channels := by rw [frame]
  have lines : (modeStop s).fiu.lines = s.fiu.lines := by rw [frame]
  unfold Driven
  rw [channels, lines]
  exact h.stopAll

theorem driven_warmReset (h : Driven s) : Driven (warmReset s) := by
  have rest : ∀ t : State, Driven t → Driven { t with
      cnu := clearConds (BitVec.allOnes 32) t.cnu
      abu := { t.abu with lookaside := [] }
      sck := idleTimers t.sck
      fiu := { t.fiu with sensor := .hunting }
      lkp := { t.lkp with rx := .hunting, answer := false, overrun := false, reply := none, mode := .setup } } :=
    fun _ ht => ht.stand ⟨rfl, rfl⟩
  unfold warmReset
  dsimp only
  split
  · exact rest _ (driven_modeStop h)
  · exact rest _ (h.stand (retires_flushQueue s).drivesStand)

/-- Every channel of a part that begins is STOPPED, in mode DUTY and idle (R174). -/
theorem driven_cold (lsel levels) : Driven (State.cold lsel levels) := by
  have channel : ∀ k : Fin 16, (State.cold lsel levels).dcu.channels[k] = DriveChannel.cold := fun k =>
    Vector.getElem_replicate _
  refine ⟨fun k takes => ?_, fun k _ => ?_, fun k _ => ?_⟩
  · rw [channel] at takes
    exact absurd takes (by decide)
  · rw [channel]
    rfl
  · rw [channel]
    exact channelSound_idle nofun rfl (fun takes => absurd takes (by decide)) fun started => absurd rfl started

/-! ## Emission and the sensor port -/

theorem drivesStand_emitPlace (s) : DrivesStand s (emitPlace s) := by
  obtain ⟨_, _, frame⟩ := emitPlace_frame s
  rw [frame]
  exact ⟨rfl, rfl⟩

theorem receives_sensorBytes (bytes : List Byte) (s) : Receives s (bytes.foldl sensorByte s) :=
  foldl_related .refl .trans receives_sensorByte bytes s

end
end Sys2Proof.Machine
end

section
/-!
Pins and permissives through every request: the requests of Chapter 5 keep them, the others leave the drive channels and
the event lines alone.
-/
namespace Sys2Proof.Machine

section
variable {s : State}

/-! ## Chapters 1, 2 and 10 -/

theorem judgeClockSet_stands (f s) : (judgeClockSet f s).Leaves (DrivesStand s) := by
  unfold judgeClockSet
  refine leaves_unlessRun fun _ => ?_
  repeat' split
  all_goals try trivial
  exact ⟨rfl, rfl⟩

theorem judgeClockTrim_stands (t s) : (judgeClockTrim t s).Leaves (DrivesStand s) := by
  unfold judgeClockTrim
  split
  · trivial
  · exact ⟨rfl, rfl⟩

theorem judgeTimerSet_stands (f s) : (judgeTimerSet f s).Leaves (DrivesStand s) := by
  unfold judgeTimerSet
  repeat' split
  all_goals try trivial
  exact ⟨rfl, rfl⟩

theorem judgeTimerDisarm_stands (k s) : (judgeTimerDisarm k s).Leaves (DrivesStand s) := by
  unfold judgeTimerDisarm
  split
  · trivial
  · exact ⟨rfl, rfl⟩

theorem judgeCaptureSet_stands (f s) : (judgeCaptureSet f s).Leaves (DrivesStand s) := by
  unfold judgeCaptureSet
  repeat' split
  all_goals try trivial
  exact ⟨rfl, rfl⟩

theorem judgeCaptureDisarm_stands (k s) : (judgeCaptureDisarm k s).Leaves (DrivesStand s) := by
  unfold judgeCaptureDisarm
  split
  · trivial
  · exact ⟨rfl, rfl⟩

theorem judgeCaptureTrigger_stands (k s) : (judgeCaptureTrigger k s).Leaves (DrivesStand s) := by
  unfold judgeCaptureTrigger
  split
  · trivial
  split
  · exact (captures_triggerUnit ..).drivesStand
  · trivial

theorem judgeCaptureFetch_stands (f s) : (judgeCaptureFetch f s).Leaves (DrivesStand s) := by
  unfold judgeCaptureFetch
  dsimp only
  split
  · exact ⟨rfl, rfl⟩
  · exact ⟨rfl, rfl⟩

theorem drivesStand_rebase (role ch s) : DrivesStand s (rebase role ch s) := by
  cases role <;> exact ⟨rfl, rfl⟩

theorem drivesStand_rebaseReaders (old ch s) : DrivesStand s (rebaseReaders old ch s) := by
  rw [rebaseReaders_eq]
  dsimp only
  have upper : DrivesStand s
      (if cascadeEnds old ch s.fiu.pulses then rebase s.fiu.pulses[ch + 1].role (ch + 1) s else s) := by
    split
    · exact drivesStand_rebase ..
    · exact .refl s
  split
  · exact upper.trans (drivesStand_rebase ..)
  · exact upper

theorem judgePulseSet_stands (f s) : (judgePulseSet f s).Leaves (DrivesStand s) := by
  unfold judgePulseSet
  refine leaves_unlessRun fun _ => ?_
  repeat' split
  all_goals try trivial
  all_goals exact .after (drivesStand_rebaseReaders ..) rfl rfl

/-- EVENT-SET writes a debounce and no level (R27). -/
theorem judgeEventSet_driven (h : Driven s) (f) : (judgeEventSet f s).Leaves Driven := by
  unfold judgeEventSet
  refine leaves_unlessRun fun _ => ?_
  split; · trivial
  next l _ =>
  split; · trivial
  exact h.sameLevels (put_forall (P := fun k (x : EventLine) => x.debounced = s.fiu.lines[k].debounced)
    (fun _ => rfl) rfl)

theorem judgePointSet_stands (f s) : (judgePointSet f s).Leaves (DrivesStand s) := by
  unfold judgePointSet
  refine leaves_unlessRun fun _ => ?_
  repeat' split
  all_goals try trivial
  exact ⟨rfl, rfl⟩

theorem judgeConditionRaise_stands (f s) : (judgeConditionRaise f s).Leaves (DrivesStand s) := by
  unfold judgeConditionRaise
  split
  · trivial
  · exact ⟨rfl, rfl⟩

theorem judgeConditionRoute_stands (f s) : (judgeConditionRoute f s).Leaves (DrivesStand s) := by
  unfold judgeConditionRoute
  repeat' split
  all_goals try trivial
  exact ⟨rfl, rfl⟩

/-! ## Chapters 3 and 4 -/

theorem judgeGradeSet_stands (f s) : (judgeGradeSet f s).Leaves (DrivesStand s) := by
  unfold judgeGradeSet
  refine leaves_unlessRun fun _ => ?_
  repeat' split
  all_goals try trivial
  exact ⟨rfl, rfl⟩

theorem judgeHolderSet_stands (f s) : (judgeHolderSet f s).Leaves (DrivesStand s) := by
  unfold judgeHolderSet
  refine leaves_unlessRun fun _ => ?_
  repeat' split
  all_goals try trivial
  exact ⟨rfl, rfl⟩

theorem judgeGradeRead_stands (k s) : (judgeGradeRead k s).Leaves (DrivesStand s) := by
  unfold judgeGradeRead
  split
  · trivial
  · exact .refl s

theorem judgeConsumerSet_stands (f s) : (judgeConsumerSet f s).Leaves (DrivesStand s) := by
  unfold judgeConsumerSet
  refine leaves_unlessRun fun _ => ?_
  dsimp only
  repeat' split
  all_goals try trivial
  · exact ⟨rfl, rfl⟩
  · exact ⟨rfl, rfl⟩

theorem judgeConsumerEnable_stands (f s) : (judgeConsumerEnable f s).Leaves (DrivesStand s) := by
  unfold judgeConsumerEnable
  dsimp only
  repeat' split
  all_goals try trivial
  exact ⟨rfl, rfl⟩

theorem judgeRequestSet_stands (f s) : (judgeRequestSet f s).Leaves (DrivesStand s) := by
  unfold judgeRequestSet
  split; · trivial
  dsimp only
  split; · trivial
  exact ⟨rfl, rfl⟩

theorem judgeConsumerRead_stands (k s) : (judgeConsumerRead k s).Leaves (DrivesStand s) := by
  unfold judgeConsumerRead
  split
  · trivial
  · exact .refl s

/-! ## Chapter 5 -/

theorem judgeDriveSet_driven (h : Driven s) (f) : (judgeDriveSet f s).Leaves Driven := by
  unfold judgeDriveSet
  dsimp only
  split; · trivial
  next ch _ =>
  split; · trivial
  next free =>
  split; · trivial
  next partner =>
  split; · trivial
  next k hk =>
  split; · trivial
  split; · trivial
  have checked := checkDriveSet_ok hk
  simp only [Bool.or_eq_true, not_or, decide_eq_true_eq, not_not, Bool.not_eq_true] at free
  refine DrivesKept.driveSet h free.1 free.2 checked.even fun takes => ?_
  rw [wantsPartner_of_mode checked.mode takes (checked.even takes), Bool.true_and, decide_eq_true_eq, not_not] at partner
  unfold channelState at partner
  split at partner
  · next member => exact h.member _ member
  · exact partner

theorem judgeDriveSetpoint_driven (h : Driven s) (f) : (judgeDriveSetpoint f s).Leaves Driven := by
  unfold judgeDriveSetpoint
  split; · trivial
  dsimp only
  split; · trivial
  next manual => exact h.setpoint (channelSource_eq_some.1 (not_not.1 manual)).1 _

theorem judgeDriveStart_driven (h : Driven s) (k) : (judgeDriveStart k s).Leaves Driven := by
  unfold judgeDriveStart
  split; · trivial
  split; · trivial
  split; · trivial
  next free =>
  simp only [Bool.or_eq_true, not_or, Bool.not_eq_true] at free
  exact h.start free.1

theorem judgeDriveStop_driven (h : Driven s) (k) : (judgeDriveStop k s).Leaves Driven := by
  unfold judgeDriveStop
  split; · trivial
  split; · trivial
  exact h.stop _

theorem judgeDrivePosition_driven (h : Driven s) (f) : (judgeDrivePosition f s).Leaves Driven := by
  unfold judgeDrivePosition
  split; · trivial
  dsimp only
  split; · trivial
  next pair =>
  split; · trivial
  split; · trivial
  simp only [not_or, not_not] at pair
  exact h.position (isMember_even (by omega)) pair.2 _

/-! ## Chapter 6 -/

theorem judgeExportSet_stands (f s) : (judgeExportSet f s).Leaves (DrivesStand s) := by
  unfold judgeExportSet
  repeat' split
  all_goals try trivial
  exact ⟨rfl, rfl⟩

theorem judgeNominate_stands (f s) : (judgeNominate f s).Leaves (DrivesStand s) := by
  unfold judgeNominate
  split; · trivial
  split; · trivial
  exact leaves_nominationDone fun _ => ⟨rfl, rfl⟩

theorem judgeNominateCancel_stands (f s) : (judgeNominateCancel f s).Leaves (DrivesStand s) := ⟨rfl, rfl⟩

theorem judgeNominateAmend_stands (f s) : (judgeNominateAmend f s).Leaves (DrivesStand s) := by
  unfold judgeNominateAmend
  split; · trivial
  split; · trivial
  split; · trivial
  exact leaves_nominationDone fun _ => ⟨rfl, rfl⟩

theorem judgeExportArm_stands (f s) : (judgeExportArm f s).Leaves (DrivesStand s) := by
  unfold judgeExportArm
  split; · trivial
  exact ((exports_changeExport ..).trans (exports_formRecord _)).drivesStand

theorem judgeExportHalt_stands (f s) : (judgeExportHalt f s).Leaves (DrivesStand s) := by
  unfold judgeExportHalt
  split; · trivial
  exact (((exports_changeExport ..).trans (exports_exs ..)).trans (exports_formRecord _)).drivesStand

theorem judgeExportRelease_stands (f s) : (judgeExportRelease f s).Leaves (DrivesStand s) := by
  unfold judgeExportRelease
  split; · trivial
  exact (((exports_changeExport ..).trans (exports_exs ..)).trans (exports_formRecord _)).drivesStand

theorem judgeCurtail_stands (f s) : (judgeCurtail f s).Leaves (DrivesStand s) := by
  unfold judgeCurtail
  split; · trivial
  split; · trivial
  exact ⟨rfl, rfl⟩

theorem judgeExportLogFetch_stands (f s) : (judgeExportLogFetch f s).Leaves (DrivesStand s) := by
  unfold judgeExportLogFetch
  dsimp only
  split
  · exact ⟨rfl, rfl⟩
  · exact ⟨rfl, rfl⟩

theorem judgeNominationRead_stands (f s) : (judgeNominationRead f s).Leaves (DrivesStand s) := by
  unfold judgeNominationRead
  split
  · trivial
  · exact leaves_checkRange (.refl s)

/-! ## Chapters 7 and 8 -/

theorem judgeMeterSet_stands (f s) : (judgeMeterSet f s).Leaves (DrivesStand s) := by
  unfold judgeMeterSet
  refine leaves_unlessRun fun _ => ?_
  repeat' split
  all_goals try trivial
  exact ⟨rfl, rfl⟩

theorem judgeMeterKey_stands (f s) : (judgeMeterKey f s).Leaves (DrivesStand s) := by
  unfold judgeMeterKey
  split
  · trivial
  · exact ⟨rfl, rfl⟩

theorem judgeMeterConfirm_stands (k s) : (judgeMeterConfirm k s).Leaves (DrivesStand s) := by
  unfold judgeMeterConfirm
  split
  · trivial
  · exact ⟨rfl, rfl⟩

theorem judgeMeterRead_stands (k s) : (judgeMeterRead k s).Leaves (DrivesStand s) := by
  unfold judgeMeterRead
  split
  · trivial
  · exact .refl s

theorem judgeRetireRead_stands (f s) : (judgeRetireRead f s).Leaves (DrivesStand s) := by
  unfold judgeRetireRead
  split; · trivial
  split; · trivial
  exact .refl s

theorem drivesStand_setEntry (i e s) : DrivesStand s (setEntry i e s) := ⟨rfl, rfl⟩

theorem judgeAccountAdd_stands (f s) : (judgeAccountAdd f s).Leaves (DrivesStand s) := by
  unfold judgeAccountAdd
  repeat' split
  all_goals try trivial
  exact drivesStand_setEntry ..

theorem judgeAccountRemove_stands (k s) : (judgeAccountRemove k s).Leaves (DrivesStand s) := by
  refine leaves_withAccount fun i e => ?_
  split
  · trivial
  · exact drivesStand_setEntry ..

theorem judgeAccountSuspend_stands (k s) : (judgeAccountSuspend k s).Leaves (DrivesStand s) :=
  leaves_withAccount fun _ _ => drivesStand_setEntry ..

theorem judgeAccountResume_stands (k s) : (judgeAccountResume k s).Leaves (DrivesStand s) :=
  leaves_withAccount fun _ _ => drivesStand_setEntry ..

theorem judgeAccountTariff_stands (f s) : (judgeAccountTariff f s).Leaves (DrivesStand s) := by
  unfold judgeAccountTariff
  split; · trivial
  split; · trivial
  exact leaves_withAccount fun _ _ => drivesStand_setEntry ..

theorem judgeLookasidePurge_stands (k s) : (judgeLookasidePurge k s).Leaves (DrivesStand s) := by
  unfold judgeLookasidePurge
  split
  · exact ⟨rfl, rfl⟩
  split
  · trivial
  · exact ⟨rfl, rfl⟩

theorem judgeTariffSet_stands (f s) : (judgeTariffSet f s).Leaves (DrivesStand s) := by
  unfold judgeTariffSet
  split
  · trivial
  · exact ⟨rfl, rfl⟩

theorem judgeBandmapSet_stands (f s) : (judgeBandmapSet f s).Leaves (DrivesStand s) := by
  unfold judgeBandmapSet
  repeat' split
  all_goals try trivial
  exact ⟨rfl, rfl⟩

theorem judgeSuspenseRead_stands (k s) : (judgeSuspenseRead k s).Leaves (DrivesStand s) := by
  unfold judgeSuspenseRead
  split
  · trivial
  · exact .refl s

theorem judgePeriodClose_stands (f s) : (judgePeriodClose f s).Leaves (DrivesStand s) := by
  unfold judgePeriodClose
  split; · trivial
  split; · trivial
  exact .after (retires_retireRun ..).drivesStand rfl rfl

theorem judgeStatementFetch_stands (f s) : (judgeStatementFetch f s).Leaves (DrivesStand s) := by
  unfold judgeStatementFetch
  dsimp only
  split
  · exact ⟨rfl, rfl⟩
  · exact ⟨rfl, rfl⟩

/-! ## Chapter 9 -/

theorem judgeModeStart_stands (f s) : (judgeModeStart f s).Leaves (DrivesStand s) := by
  unfold judgeModeStart
  split; · trivial
  split; · trivial
  exact drivesStand_modeStart s

theorem judgeModeStop_driven (h : Driven s) (f) : (judgeModeStop f s).Leaves Driven := by
  unfold judgeModeStop
  split
  · trivial
  · exact driven_modeStop h

end
end Sys2Proof.Machine
end

section
/-!
Pins and permissives through the events, and so through every command and every step.
-/
namespace Sys2Proof.Machine

section
variable {s t : State}

/-! ## Requests -/

section
variable {α : Type} {kind : Byte} {parse : List Byte → Option α} {judge : α → State → Answer} {p : List Byte}

/-- A request keeps the drives where its rule does (R167 to R169). -/
theorem driven_request (hs : Driven s) (h : request kind parse judge p s = .next t)
    (hj : ∀ f, (judge f s).Leaves Driven) : Driven t := by
  obtain h | ⟨f, code, q, u, hf, h⟩ := request_next h
  · exact hs.stand h.drivesStand
  · have kept := hj f
    rw [hf] at kept
    exact Driven.stand kept h.drivesStand

/-- A request whose rule leaves the drives alone. -/
theorem driven_request_stands (hs : Driven s) (h : request kind parse judge p s = .next t)
    (hj : ∀ f, (judge f s).Leaves (DrivesStand s)) : Driven t :=
  driven_request hs h fun f => (hj f).mono fun _ => hs.stand

/-- A request that reads. -/
theorem driven_request_reads (hs : Driven s) (h : request kind parse judge p s = .next t)
    (hj : ∀ f, (judge f s).Leaves (· = s)) : Driven t :=
  driven_request hs h fun f => (hj f).mono fun u same => by
    subst same
    exact hs

end

/-! ## Events -/

theorem driven_ite {c : Prop} [Decidable c] (hs : Driven s) (ht : c → Driven t) : Driven (if c then t else s) := by
  split
  · next hc => exact ht hc
  · exact hs

theorem driven_unknownKind (hs : Driven s) {kind p} (h : execUnknownKind kind p s = .next t) : Driven t := by
  unfold execUnknownKind at h
  split at h
  · cases h
    exact hs
  split at h <;> cases h
  · exact hs.stand (relinked_overrunFrame ..).drivesStand
  · exact hs.stand (relinked_answer ..).drivesStand

theorem driven_linkFrameBroken (hs : Driven s) {cause} (h : execLinkFrameBroken cause s = .next t) : Driven t := by
  unfold execLinkFrameBroken at h
  split at h <;> cases h
  · exact hs
  · exact hs.stand (relinked_breakBy ..).drivesStand

theorem driven_replySent (hs : Driven s) (h : execReplySent s = .next t) : Driven t := by
  unfold execReplySent at h
  cases h
  split
  · exact driven_warmReset hs
  · exact hs.stand ⟨rfl, rfl⟩

theorem driven_periodStart (hs : Driven s) {ch} (h : execPeriodStart ch s = .next t) : Driven t := by
  unfold execPeriodStart at h
  dsimp only at h
  split at h <;> cases h
  · next works => exact hs.works works.1 works.2 ⟨rfl, rfl, rfl, rfl⟩
  · exact hs

theorem driven_activeTimeEnd (hs : Driven s) {ch} (h : execActiveTimeEnd ch s = .next t) : Driven t := by
  unfold execActiveTimeEnd at h
  dsimp only at h
  split at h <;> cases h
  · next due =>
    rw [Bool.and_eq_true] at due
    obtain ⟨works, due⟩ := due
    simp only [activeEndDue, Bool.and_eq_true, decide_eq_true_eq] at due
    exact hs.works works due.1.1 ⟨rfl, rfl, rfl, rfl⟩
  · exact hs

theorem driven_emissionStep (hs : Driven s) (h : execEmissionStep s = .next t) : Driven t := by
  unfold execEmissionStep at h
  split at h <;> cases h
  · exact hs.stand (drivesStand_emitPlace s)
  all_goals exact hs

theorem driven_sensorRecord (hs : Driven s) {bytes} (h : execSensorRecord bytes s = .next t) : Driven t := by
  unfold execSensorRecord at h
  split at h <;> cases h
  · exact hs.stand ((receives_setSensor ..).trans (receives_sensorBytes ..)).drivesStand
  · exact hs.stand (receives_sensorBytes ..).drivesStand

theorem driven_sensorRecordBroken (hs : Driven s) {bytes cause}
    (h : execSensorRecordBroken bytes cause s = .next t) : Driven t := by
  have broken := (receives_sensorBytes bytes s).trans (receives_breakRecord _)
  unfold execSensorRecordBroken at h
  dsimp only at h
  split at h <;> cases h
  · exact hs.stand broken.drivesStand
  · split
    · exact hs.stand (broken.trans (receives_sensorByte ..)).drivesStand
    · exact hs.stand broken.drivesStand

end

/-! ## Every command -/

/-- Every command but the byte of E7H, which may complete a frame, keeps pins and permissives. -/
theorem exec_driven_of_ne {c : Instr} {s t : State} (hc : c ≠ .linkStartByte) (hs : Driven s)
    (h : exec c s = .next t) : Driven t := by
  cases c with
  | coldReset lsel levels => cases h; exact driven_cold lsel levels
  | warmReset => cases h; exact driven_warmReset hs
  | identify p => exact driven_request_reads hs h fun _ => rfl
  | status p => exact driven_request_reads hs h fun _ => rfl
  | modeStart p => exact driven_request_stands hs h fun f => judgeModeStart_stands f s
  | modeStop p => exact driven_request hs h (judgeModeStop_driven hs)
  | restart p => exact driven_request_reads hs h fun _ => rfl
  | clockSet p => exact driven_request_stands hs h fun f => judgeClockSet_stands f s
  | clockTrim p => exact driven_request_stands hs h fun f => judgeClockTrim_stands f s
  | clockRead p => exact driven_request_reads hs h fun _ => rfl
  | timerSet p => exact driven_request_stands hs h fun f => judgeTimerSet_stands f s
  | timerDisarm p => exact driven_request_stands hs h fun f => judgeTimerDisarm_stands f s
  | captureSet p => exact driven_request_stands hs h fun f => judgeCaptureSet_stands f s
  | captureDisarm p => exact driven_request_stands hs h fun f => judgeCaptureDisarm_stands f s
  | captureTrigger p => exact driven_request_stands hs h fun f => judgeCaptureTrigger_stands f s
  | captureFetch p => exact driven_request_stands hs h fun f => judgeCaptureFetch_stands f s
  | pulseSet p => exact driven_request_stands hs h fun f => judgePulseSet_stands f s
  | pulseRead p => exact driven_request_reads hs h fun _ => leaves_checkRange rfl
  | eventSet p => exact driven_request hs h (judgeEventSet_driven hs)
  | eventRead p => exact driven_request_reads hs h fun _ => rfl
  | pointSet p => exact driven_request_stands hs h fun f => judgePointSet_stands f s
  | pointRead p => exact driven_request_reads hs h fun _ => leaves_checkRange rfl
  | gradeSet p => exact driven_request_stands hs h fun f => judgeGradeSet_stands f s
  | holderSet p => exact driven_request_stands hs h fun f => judgeHolderSet_stands f s
  | gradeRead p => exact driven_request_stands hs h fun f => judgeGradeRead_stands f s
  | consumerSet p => exact driven_request_stands hs h fun f => judgeConsumerSet_stands f s
  | consumerEnable p => exact driven_request_stands hs h fun f => judgeConsumerEnable_stands f s
  | requestSet p => exact driven_request_stands hs h fun f => judgeRequestSet_stands f s
  | consumerRead p => exact driven_request_stands hs h fun f => judgeConsumerRead_stands f s
  | stepRead p => exact driven_request_reads hs h fun _ => rfl
  | driveSet p => exact driven_request hs h (judgeDriveSet_driven hs)
  | driveSetpoint p => exact driven_request hs h (judgeDriveSetpoint_driven hs)
  | driveStart p => exact driven_request hs h (judgeDriveStart_driven hs)
  | driveStop p => exact driven_request hs h (judgeDriveStop_driven hs)
  | drivePosition p => exact driven_request hs h (judgeDrivePosition_driven hs)
  | driveRead p => exact driven_request_reads hs h fun _ => leaves_checkRange rfl
  | exportSet p => exact driven_request_stands hs h fun f => judgeExportSet_stands f s
  | nominate p => exact driven_request_stands hs h fun f => judgeNominate_stands f s
  | nominateCancel p => exact driven_request_stands hs h fun f => judgeNominateCancel_stands f s
  | nominateAmend p => exact driven_request_stands hs h fun f => judgeNominateAmend_stands f s
  | exportArm p => exact driven_request_stands hs h fun f => judgeExportArm_stands f s
  | exportHalt p => exact driven_request_stands hs h fun f => judgeExportHalt_stands f s
  | exportRelease p => exact driven_request_stands hs h fun f => judgeExportRelease_stands f s
  | curtail p => exact driven_request_stands hs h fun f => judgeCurtail_stands f s
  | exportLogFetch p => exact driven_request_stands hs h fun f => judgeExportLogFetch_stands f s
  | exportRead p => exact driven_request_reads hs h fun _ => rfl
  | nominationRead p => exact driven_request_stands hs h fun f => judgeNominationRead_stands f s
  | meterSet p => exact driven_request_stands hs h fun f => judgeMeterSet_stands f s
  | meterKey p => exact driven_request_stands hs h fun f => judgeMeterKey_stands f s
  | meterConfirm p => exact driven_request_stands hs h fun f => judgeMeterConfirm_stands f s
  | meterRead p => exact driven_request_stands hs h fun f => judgeMeterRead_stands f s
  | retireRead p => exact driven_request_stands hs h fun f => judgeRetireRead_stands f s
  | accountAdd p => exact driven_request_stands hs h fun f => judgeAccountAdd_stands f s
  | accountRemove p => exact driven_request_stands hs h fun f => judgeAccountRemove_stands f s
  | accountSuspend p => exact driven_request_stands hs h fun f => judgeAccountSuspend_stands f s
  | accountResume p => exact driven_request_stands hs h fun f => judgeAccountResume_stands f s
  | accountTariff p => exact driven_request_stands hs h fun f => judgeAccountTariff_stands f s
  | accountRead p => exact driven_request_reads hs h fun _ => leaves_withAccount fun _ _ => rfl
  | directoryRead p => exact driven_request_reads hs h fun _ => leaves_checkRange rfl
  | lookasidePurge p => exact driven_request_stands hs h fun f => judgeLookasidePurge_stands f s
  | lookasideRead p => exact driven_request_reads hs h fun _ => rfl
  | tariffSet p => exact driven_request_stands hs h fun f => judgeTariffSet_stands f s
  | bandmapSet p => exact driven_request_stands hs h fun f => judgeBandmapSet_stands f s
  | tariffRead p => exact driven_request_reads hs h fun _ => rfl
  | suspenseRead p => exact driven_request_stands hs h fun f => judgeSuspenseRead_stands f s
  | periodClose p => exact driven_request_stands hs h fun f => judgePeriodClose_stands f s
  | statementFetch p => exact driven_request_stands hs h fun f => judgeStatementFetch_stands f s
  | periodRead p => exact driven_request_reads hs h fun _ => rfl
  | conditionRead p => exact driven_request_reads hs h fun _ => rfl
  | conditionClear p => exact driven_request_stands hs h fun _ => ⟨rfl, rfl⟩
  | conditionRaise p => exact driven_request_stands hs h fun f => judgeConditionRaise_stands f s
  | conditionRoute p => exact driven_request_stands hs h fun f => judgeConditionRoute_stands f s
  | unknownKind kind p => exact driven_unknownKind (p := p) hs h
  | linkFrameBroken cause => exact driven_linkFrameBroken hs h
  | frameDiscarded bytes => cases h; exact driven_ite hs fun _ => hs.stand (relinked_discardFrame ..).drivesStand
  | replySent => exact driven_replySent hs h
  | timebaseTick o => cases h; exact driven_tick hs o
  | pointAgeExpiry sp o =>
    cases h
    split
    · exact hs
    · exact driven_tick hs o
  | stepBoundary o => cases h; exact driven_ite hs fun _ => driven_tick hs o
  | timerExpiry n o => cases h; exact driven_ite hs fun _ => driven_tick hs o
  | pulseArrival ch => cases h; exact hs
  | eventLineChange l levels => cases h; exact driven_ite hs fun _ => drivesKept_sampleLines hs levels
  | sensorRecord bytes => exact driven_sensorRecord hs h
  | sensorRecordBroken bytes cause => exact driven_sensorRecordBroken hs h
  | readingExpiry i o => cases h; exact driven_ite hs fun _ => driven_tick hs o
  | emissionStep => exact driven_emissionStep hs h
  | periodStart ch => exact driven_periodStart hs h
  | activeTimeEnd ch => exact driven_activeTimeEnd hs h
  | pairTick ch => cases h; exact driven_ite hs fun running => hs.tick running
  | moveEnd ch => cases h; exact driven_ite hs fun due => hs.tick (Bool.and_eq_true_iff.1 due).1
  | pauseEnd ch => cases h; exact driven_ite hs fun due => hs.tick (Bool.and_eq_true_iff.1 due).1
  | eventLineSample levels => cases h; exact drivesKept_sampleLines hs levels
  | linkStartByte => exact absurd rfl hc
  | sensorStartByte => cases h; exact hs.stand (receives_sensorByte ..).drivesStand

/-- The byte of E7H completes a frame, whose request runs, or is collected or discarded (R166, R167). -/
theorem collectByte_driven {b l s t} (hs : Driven s) (h : collectByte b l s = .next t) : Driven t := by
  unfold collectByte completeFrame at h
  dsimp only at h
  split at h
  · cases h
    exact hs.stand (relinked_breakFrame ..).drivesStand
  split at h
  · split at h
    · cases h
      exact hs.stand (relinked_discardFrame ..).drivesStand
    · rw [dispatchFrame_eq_exec] at h
      exact exec_driven_of_ne (requestOf_ne_linkStartByte _ _) hs h
  · cases h
    exact hs.stand ⟨rfl, rfl⟩

theorem exec_driven {c : Instr} {s t : State} (hs : Driven s) (h : exec c s = .next t) : Driven t := by
  by_cases hc : c = .linkStartByte
  · subst hc
    have h : execLinkStartByte s = .next t := h
    unfold execLinkStartByte at h
    split at h
    · cases h
      exact hs.stand (relinked_huntByte ..).drivesStand
    · exact collectByte_driven hs h
  · exact exec_driven_of_ne hc hs h

/-- Settles O56: each command changes the channels one by one, or the lines with the channels that watch them, and the
idle millisecond moves dividers alone. -/
theorem drivesStaySound : Obligations.DrivesStaySound := by
  unfold Obligations.DrivesStaySound
  intro s t h sound
  have hs : Driven s := drivesSound_iff.1 sound
  refine drivesSound_iff.2 ?_
  unfold step at h
  split at h
  · cases h
    exact hs.dividers
  · refine exec_driven ?_ h
    exact hs

end Sys2Proof.Machine
end

section
/-! Periods and their active times (R90 to R92). -/
namespace Sys2Proof.Machine

/-! ## The active time -/

section
variable {c : DriveChannel} {n : Nat}

/-- A DUTY or CASCADE channel is active for half of the half-ticks, an odd one given to the odd periods (R91). -/
theorem activeTime_halves (mode : c.mode = .duty ∨ c.mode = .cascade) (period : c.period = some n) :
    activeTime c = if c.count % 2 = 1 ∧ halfTicks c.active n % 2 = 1 then halfTicks c.active n / 2 + 1
      else halfTicks c.active n / 2 := by
  unfold activeTime
  rw [period]
  obtain duty | cascade := mode
  · rw [duty]
  · rw [cascade]

/-- A PULSE channel is active for its pulse width (R92). -/
theorem activeTime_pulse {wmin : Nat} (mode : c.mode = .pulse) (period : c.period = some n) (width : c.wmin = some wmin) :
    activeTime c = pulseWidth c.active n wmin := by
  unfold activeTime
  rw [mode, period, width]
  rfl

/-- A setpoint within 100 % fills no more than the period (R91). -/
theorem halfTicks_le {p : Nat} (hp : p ≤ 10000) : halfTicks p n ≤ 2 * n := by
  have full := Nat.mul_le_mul_right (2 * n) hp
  unfold halfTicks
  omega

/-- Settles O37: an odd half-tick is given to the odd period, so that two periods make up the half-ticks; a pulse or a
gap short of Wmin is suppressed. -/
theorem waveformsKeepTime : Obligations.WaveformsKeepTime := by
  intro c n period within
  refine ⟨fun mode => ?_, fun w mode width short => ?_⟩
  · have even := activeTime_halves (c := { c with count := 0 }) mode period
    have odd := activeTime_halves (c := { c with count := 1 }) mode period
    have own := activeTime_halves mode period
    have parity := activeTime_halves (c := { c with count := c.count % 2 }) mode period
    have most := halfTicks_le (n := n) within
    dsimp only at even odd parity
    rw [Nat.mod_mod] at parity
    rw [if_neg fun h => absurd h.1 (by decide)] at even
    have whole : halfTicks c.active n = (c.active * (2 * n) + 5000) / 10000 := rfl
    rw [even, odd, ← whole]
    refine ⟨?_, rfl, own.trans parity.symm, ?_⟩
    · split <;> omega
    · rw [own]
      split <;> omega
  · intro raw
    have pulse : activeTime c = if raw < w then 0 else if n - w < raw then n else raw :=
      activeTime_pulse mode period width
    rw [pulse]
    refine ⟨?_, ?_, fun low => if_pos low, fun low high => ?_, fun high low => ?_⟩
    · split
      · exact .inl rfl
      · split <;> omega
    · split
      · omega
      · split <;> omega
    · rw [if_neg (by omega), if_neg (by omega)]
    · rw [if_neg (by omega), if_pos (by omega)]

end

/-! ## The events of a period -/

theorem worksInPeriods_iff {v : Vector DriveChannel 16} {ch : Fin 16} :
    worksInPeriods v ch = true ↔ isMember v ch = false ∧ v[ch].mode ≠ .raise := by
  unfold worksInPeriods
  rw [Bool.and_eq_true, Bool.not_eq_true', decide_eq_true_iff]

theorem activeEndDue_iff {c : DriveChannel} : activeEndDue c = true ↔
    c.state = .running ∧ c.tick < activeTime c ∧ activeTime c < c.period.getD 0 := by
  unfold activeEndDue
  simp only [Bool.and_eq_true, decide_eq_true_iff, and_assoc]

/-- Settles O36: both events are those of a RUNNING channel that works in periods. -/
theorem periodsRun : Obligations.PeriodsRun := by
  intro s ch v c works
  have works_iff : works ↔ worksInPeriods v ch = true ∧ c.state = .running := by
    rw [worksInPeriods_iff, and_assoc]
  have start : exec (.periodStart ch) s = if worksInPeriods v ch = true ∧ c.state = .running then
      .next { s with dcu := { s.dcu with channels := put v ch (startPeriod false c) } } else .next s := rfl
  have finish : exec (.activeTimeEnd ch) s = if (worksInPeriods v ch && activeEndDue c) = true then
      .next { s with dcu := { s.dcu with
        channels := put v ch { c with tick := activeTime c, divider := 0, pin := c.idle } } } else .next s := rfl
  have finish_iff : (worksInPeriods v ch && activeEndDue c) = true ↔
      works ∧ c.tick < activeTime c ∧ activeTime c < c.period.getD 0 := by
    rw [Bool.and_eq_true, activeEndDue_iff, works_iff, and_assoc]
  refine ⟨fun running => ⟨startPeriod false c, ?_, rfl, startPeriod_pin false c⟩, fun still => ?_,
    fun running late early => ?_, fun no => ?_⟩
  · rw [start, if_pos (works_iff.1 running)]
  · rw [start, if_neg (works_iff.not.1 still)]
  · rw [finish, if_pos (finish_iff.2 ⟨running, late, early⟩)]
  · rw [finish, if_neg (finish_iff.not.2 no)]

end Sys2Proof.Machine
end

section
/-! Setpoints, and what they do to a raise and lower pair (R83, R84, R94, R96, R97). -/
namespace Sys2Proof.Machine

/-! ## One pair -/

section
variable {c d : DriveChannel} {q : Nat}

/-- The distance from E to the target. -/
theorem natAbs_gap (a e : Nat) : ((a : Int) - e).natAbs = if e ≤ a then a - e else e - a := by
  split <;> omega

/-- The length of a move by the distance that it has to go (R94). -/
theorem moveLength_eq (c : DriveChannel) : moveLength c =
    max c.minMove (((if c.est ≤ c.active then c.active - c.est else c.est - c.active) * c.ttr + 9999) / 10000) := by
  unfold moveLength
  rw [natAbs_gap]

theorem judgePair_above (h : c.est + c.deadband < c.active) : judgePair c = startMove .raising c := by
  unfold judgePair
  exact if_pos (by omega)

theorem judgePair_below (h : c.active + c.deadband < c.est) : judgePair c = startMove .lowering c := by
  unfold judgePair
  dsimp only
  rw [if_neg (by omega), if_pos (by omega)]

theorem judgePair_within (up : ¬ c.est + c.deadband < c.active) (down : ¬ c.active + c.deadband < c.est) :
    judgePair c = { c with sub := .atRest } := by
  unfold judgePair
  dsimp only
  rw [if_neg (by omega), if_neg (by omega)]

/-- A moving pair whose new target lies above E runs on, or pauses before it turns (R96). -/
theorem retarget_above (moving : c.sub = .raising ∨ c.sub = .lowering) (h : c.est + c.deadband < c.active) :
    retarget c = if c.sub = .lowering then startPause c else startMove .raising c := by
  unfold retarget
  dsimp only
  obtain up | down := moving
  · simp only [up, reduceCtorEq, if_true, if_false]
    exact if_pos (by omega)
  · simp only [down, reduceCtorEq, if_true, if_false]
    rw [if_neg (by omega), if_neg (by omega)]

/-- A moving pair whose new target lies below E runs on, or pauses before it turns (R96). -/
theorem retarget_below (moving : c.sub = .raising ∨ c.sub = .lowering) (h : c.active + c.deadband < c.est) :
    retarget c = if c.sub = .raising then startPause c else startMove .lowering c := by
  unfold retarget
  dsimp only
  obtain up | down := moving
  · simp only [up, if_true]
    rw [if_neg (by omega), if_neg (by omega)]
  · simp only [down, reduceCtorEq, if_false]
    exact if_pos (by omega)

/-- A pair whose new target lies within the deadband stops (R96). -/
theorem retarget_within (up : ¬ c.est + c.deadband < c.active) (down : ¬ c.active + c.deadband < c.est) :
    retarget c = { clearMove c with sub := .atRest } := by
  unfold retarget
  dsimp only
  split
  · rw [if_neg (by omega), if_pos (by omega)]
  · rw [if_neg (by omega), if_pos (by omega)]

/-- A setpoint that is held, or that is the target already (R84, R97). -/
theorem pairSetpoint_waits (h : c.sub = .reversalPause ∨ c.sub = .seating ∨ q = c.active) :
    pairSetpoint q c = { c with staged := q } := by
  unfold pairSetpoint
  cases sub : c.sub with
  | reversalPause => rfl
  | seating => rfl
  | _ => exact if_pos (by simpa [sub] using h)

/-- A new target of a pair at rest (R94). -/
theorem pairSetpoint_atRest (rest : c.sub = .atRest) (new : q ≠ c.active) :
    pairSetpoint q c = judgePair { c with staged := q, active := q } := by
  unfold pairSetpoint
  rw [rest]
  exact if_neg new

/-- A new target of a pair that moves (R96). -/
theorem pairSetpoint_moving (moving : c.sub = .raising ∨ c.sub = .lowering) (new : q ≠ c.active) :
    pairSetpoint q c = retarget { c with staged := q, active := q } := by
  unfold pairSetpoint
  obtain up | down := moving
  · rw [up]
    exact if_neg new
  · rw [down]
    exact if_neg new

theorem moves_of_ne (rest : c.sub ≠ .atRest) (pause : c.sub ≠ .reversalPause) (seat : c.sub ≠ .seating) :
    c.sub = .raising ∨ c.sub = .lowering := by
  cases sub : c.sub with
  | raising => exact .inl rfl
  | lowering => exact .inr rfl
  | atRest => exact absurd sub rest
  | reversalPause => exact absurd sub pause
  | seating => exact absurd sub seat

/-- A target above E, beyond the deadband: the pair raises, once it has paused if it was lowering (R94, R96). -/
theorem pairSetpoint_above (pause : c.sub ≠ .reversalPause) (seat : c.sub ≠ .seating) (new : q ≠ c.active)
    (h : c.est + c.deadband < q) : pairSetpoint q c =
      if c.sub = .lowering then startPause { c with staged := q, active := q }
      else startMove .raising { c with staged := q, active := q } := by
  by_cases rest : c.sub = .atRest
  · rw [pairSetpoint_atRest rest new, judgePair_above h, if_neg (by rw [rest]; decide)]
  · have moving := moves_of_ne rest pause seat
    rw [pairSetpoint_moving moving new, retarget_above (c := { c with staged := q, active := q }) moving h]

/-- A target below E, beyond the deadband: the pair lowers, once it has paused if it was raising (R94, R96). -/
theorem pairSetpoint_below (pause : c.sub ≠ .reversalPause) (seat : c.sub ≠ .seating) (new : q ≠ c.active)
    (h : q + c.deadband < c.est) : pairSetpoint q c =
      if c.sub = .raising then startPause { c with staged := q, active := q }
      else startMove .lowering { c with staged := q, active := q } := by
  by_cases rest : c.sub = .atRest
  · rw [pairSetpoint_atRest rest new, judgePair_below h, if_neg (by rw [rest]; decide)]
  · have moving := moves_of_ne rest pause seat
    rw [pairSetpoint_moving moving new, retarget_below (c := { c with staged := q, active := q }) moving h]

/-! ## Its lines -/

/-- The lines of a RUNNING pair by its sub-state (R88). -/
theorem putPair_running (v : Vector DriveChannel 16) (ch : Fin 16) (running : d.state = .running)
    (idle : d.idle = c.idle) : putPair v ch d =
      put (put v ch { d with pin := if d.sub = .raising then activeLevel c else c.idle }) (ch + 1)
        { v[ch + 1] with pin := if d.sub = .lowering ∨ d.sub = .seating then activeLevel c else c.idle } := by
  have raises : levelWhen (raiseDriven d) d = if d.sub = .raising then activeLevel c else c.idle := by
    rw [levelWhen_congr idle]
    simp [levelWhen, raiseDriven, running]
  have lowers : levelWhen (lowerDriven d) d =
      if d.sub = .lowering ∨ d.sub = .seating then activeLevel c else c.idle := by
    rw [levelWhen_congr idle]
    simp [levelWhen, lowerDriven, running]
  unfold putPair
  rw [raises, lowers]

end

/-! ## DRIVE-SETPOINT -/

section
variable {s : State} {ch : Fin 16} {x q : Nat} {v : Vector DriveChannel 16}

theorem judgeDriveSetpoint_refuses (h : isMember s.dcu.channels ch = true ∨ s.dcu.channels[ch].source ≠ .manual) :
    judgeDriveSetpoint (ch.1, x) s = refused .state := by
  unfold judgeDriveSetpoint
  dsimp only
  rw [asFin_val]
  refine if_pos fun named => ?_
  obtain ⟨own, manual⟩ := channelSource_eq_some.1 named
  exact h.elim (Bool.eq_false_iff.1 own) fun other => other manual

theorem judgeDriveSetpoint_applies (own : isMember s.dcu.channels ch = false)
    (manual : s.dcu.channels[ch].source = .manual) {w : Vector DriveChannel 16}
    (applied : applySetpoint s.dcu.channels ch (min x 10000) = w) :
    judgeDriveSetpoint (ch.1, x) s = .done (if x ≤ 10000 then .ok else .clamped)
      (be 2 w[ch].staged ++ be 2 w[ch].active) { s with dcu := { s.dcu with channels := w } } := by
  subst applied
  unfold judgeDriveSetpoint
  dsimp only
  rw [asFin_val]
  exact if_neg (not_not.2 (channelSource_eq_some.2 ⟨own, manual⟩))

theorem applySetpoint_of_stopped (stopped : v[ch].state = .stopped) :
    applySetpoint v ch q = put v ch { v[ch] with staged := q, active := q } := by
  unfold applySetpoint
  rw [stopped]

/-- A BLOCKED channel, and a RUNNING one that works in periods, holds the setpoint staged (R84). -/
theorem applySetpoint_of_waits (h : v[ch].state = .blocked ∨ v[ch].state = .running ∧ v[ch].mode ≠ .raise) :
    applySetpoint v ch q = put v ch { v[ch] with staged := q } := by
  unfold applySetpoint
  obtain blocked | ⟨running, period⟩ := h
  · rw [blocked]
  · rw [running]
    dsimp only
    split
    · next raise => exact absurd raise period
    · rfl

theorem applySetpoint_of_pair (running : v[ch].state = .running) (raise : v[ch].mode = .raise) :
    applySetpoint v ch q = putPair v ch (pairSetpoint q v[ch]) := by
  unfold applySetpoint
  rw [running]
  dsimp only
  rw [raise]

/-- Settles O33: the setpoint by the state and the mode of the channel and, of a pair, by its sub-state and the side of
the deadband on which the target lies. -/
theorem setpointsStaged : Obligations.SetpointsStaged := by
  refine ⟨fun s p ch x heard parsed => ?_, fun s p ch x heard parsed => ?_⟩
  · intro v q code
    refine ⟨fun refuses => declines_of_refuse (by decide) heard parsed (judgeDriveSetpoint_refuses refuses) rfl,
      fun own manual => ⟨fun stopped => ?_, fun waits => ?_⟩⟩
    · refine answers_of_done (by decide) heard parsed ?_ rfl
      rw [judgeDriveSetpoint_applies own manual (applySetpoint_of_stopped stopped), put_getElem_self]
    · refine answers_of_done (by decide) heard parsed ?_ rfl
      rw [judgeDriveSetpoint_applies own manual (applySetpoint_of_waits waits), put_getElem_self]
  · intro v c q gap run rest pause own manual running raise
    have steers := steers_pairSetpoint q c
    have length : moveLength { c with staged := q, active := q } =
        max c.minMove ((gap * c.ttr + 9999) / 10000) := moveLength_eq _
    have above : c.deadband < gap → c.est < q → c.est + c.deadband < q := fun far h => by
      have : gap = q - c.est := if_pos h.le
      omega
    have below : c.deadband < gap → q < c.est → q + c.deadband < c.est := fun far h => by
      have : gap = c.est - q := if_neg (Nat.not_le.2 h)
      omega
    have within : gap ≤ c.deadband → ¬ c.est + c.deadband < q ∧ ¬ q + c.deadband < c.est := fun near => by
      dsimp only [gap] at near
      split at near <;> omega
    refine ⟨pairSetpoint q c, putPair v ch (pairSetpoint q c), ?_,
      putPair_running v ch (steers.state.trans running) steers.idle, pairSetpoint_waits,
      fun noPause noSeat new => ⟨fun atRest near => ?_, fun moving near => ?_, fun far up => ?_,
        fun far down => ?_⟩⟩
    · refine answers_of_done (by decide) heard parsed ?_ rfl
      rw [judgeDriveSetpoint_applies own manual (applySetpoint_of_pair running raise), putPair_self]
    · obtain ⟨notUp, notDown⟩ := within near
      rw [pairSetpoint_atRest atRest new, judgePair_within notUp notDown, ← atRest]
    · obtain ⟨notUp, notDown⟩ := within near
      rw [pairSetpoint_moving (moves_of_ne moving noPause noSeat) new, retarget_within notUp notDown]
      rfl
    · rw [pairSetpoint_above noPause noSeat new (above far up)]
      unfold startMove
      rw [length]
      rfl
    · rw [pairSetpoint_below noPause noSeat new (below far down)]
      unfold startMove
      rw [length]
      rfl

end

end Sys2Proof.Machine
end

section
/-! Positions written and base ticks of a raise and lower pair (R94, R95, R97, R98). -/
namespace Sys2Proof.Machine

/-! ## DRIVE-POSITION -/

/-- What judging a pair leaves, and the sub-state that it gives (R94). -/
structure Judged (c d : DriveChannel) : Prop where
  est : d.est = c.est
  active : d.active = c.active
  remaining : d.remaining = c.remaining
  raising : d.sub = .raising ↔ c.est + c.deadband < c.active
  lowering : d.sub = .lowering ↔ c.active + c.deadband < c.est
  sub : d.sub = .raising ∨ d.sub = .lowering ∨ d.sub = .atRest
  start : d.sub = .atRest ∨ d.est0 = c.est ∧ d.moved = 0

theorem judged_judgePair (c : DriveChannel) : Judged c (judgePair c) := by
  obtain ⟨up, h⟩ | ⟨down, h⟩ | ⟨up, down, h⟩ := judgePair_cases c <;> rw [h]
  · exact ⟨rfl, rfl, rfl, iff_of_true rfl up, iff_of_false nofun (by omega), .inl rfl, .inr ⟨rfl, rfl⟩⟩
  · exact ⟨rfl, rfl, rfl, iff_of_false nofun (by omega), iff_of_true rfl down, .inr (.inl rfl), .inr ⟨rfl, rfl⟩⟩
  · exact ⟨rfl, rfl, rfl, iff_of_false nofun up, iff_of_false nofun down, .inr (.inr rfl), .inl rfl⟩

theorem Judged.not_waiting {c d : DriveChannel} (h : Judged c d) : d.sub ≠ .reversalPause ∧ d.sub ≠ .seating := by
  obtain sub | sub | sub := h.sub
  all_goals
    rw [sub]
    decide

/-- Settles O35: the checks in their order; a RUNNING pair judges its target against the new estimate. -/
theorem positionsAligned : Obligations.PositionsAligned := by
  intro s p ch e heard parsed v c
  have judged : judgeDrivePosition (ch.1, e) s =
      if ch.1 % 2 = 1 ∨ c.mode ≠ .raise then refused .state
      else if 10000 < e then rangeItem 2
      else if c.sub ≠ .atRest then refused .state
      else okWith [] { s with dcu := { s.dcu with channels := positionSet v ch e } } := by
    unfold judgeDrivePosition
    dsimp only
    rw [asFin_val]
  refine ⟨fun noPair => ?_, fun even raise => ?_⟩
  · rw [if_pos noPair] at judged
    exact declines_of_refuse (by decide) heard parsed judged rfl
  rw [if_neg (by simp [even, raise])] at judged
  refine ⟨fun far => ?_, fun within busy => ?_, fun within rest still => ?_, fun within rest running => ?_⟩
  · rw [if_pos far] at judged
    exact declines_of_refuse (by decide) heard parsed judged rfl
  · rw [if_neg (Nat.not_lt.2 within), if_pos busy] at judged
    exact declines_of_refuse (by decide) heard parsed judged rfl
  · rw [if_neg (Nat.not_lt.2 within), if_neg (not_not.2 rest)] at judged
    have written : positionSet v ch e = put v ch { c with est := e } := by
      unfold positionSet
      dsimp only
      split
      · next running => exact absurd running still
      · rfl
    rw [written] at judged
    exact answers_of_done (by decide) heard parsed judged rfl
  · rw [if_neg (Nat.not_lt.2 within), if_neg (not_not.2 rest)] at judged
    have written : positionSet v ch e = putPair v ch (judgePair { c with est := e }) := by
      unfold positionSet
      dsimp only
      rw [show v[ch].state = .running from running]
    obtain ⟨est, active, -, raising, lowering, -, start⟩ := judged_judgePair { c with est := e }
    have steers := steers_judgePair { c with est := e }
    have staged := (staged_judgePair (p := c.staged) (c := { c with est := e }) rfl).staged
    rw [written] at judged
    refine ⟨_, answers_of_done (by decide) heard parsed judged rfl, ?_⟩
    rw [putPair_self]
    exact ⟨est, active, staged, steers.state.trans running, raising, lowering, start,
      fun k own next => putPair_ne _ _ own next⟩

/-! ## One base tick -/

section
variable {c : DriveChannel}

theorem pairBaseTick_moves (moves : c.sub = .raising ∨ c.sub = .lowering) : pairBaseTick c = moveTick c := by
  unfold pairBaseTick
  obtain up | down := moves
  · rw [up]
  · rw [down]

theorem pairBaseTick_waits (waits : c.sub = .reversalPause ∨ c.sub = .seating) : pairBaseTick c = pauseTick c := by
  unfold pairBaseTick
  obtain pause | seat := waits
  · rw [pause]
  · rw [seat]

theorem pairBaseTick_atRest (rest : c.sub = .atRest) : pairBaseTick c = c := by
  unfold pairBaseTick
  rw [rest]

theorem moveTick_goes (h : c.moved + 1 < c.length) :
    moveTick c = { c with moved := c.moved + 1, est := estimateAfter c (c.moved + 1), divider := 0 } := by
  unfold moveTick
  exact if_neg (Nat.not_le.2 h)

theorem moveTick_ends (h : c.length ≤ c.moved + 1) : moveTick c =
    if c.sub = .lowering ∧ c.active = 0 ∧ 0 < c.seatRun then
      { clearMove c with est := 0, sub := .seating, remaining := c.seatRun, divider := 0 }
    else { clearMove c with est := estimateAfter c (c.moved + 1), sub := .atRest, divider := 0 } := by
  unfold moveTick
  exact if_pos h

theorem pauseTick_counts (h : 1 < c.remaining) :
    pauseTick c = { c with remaining := c.remaining - 1, divider := 0 } := by
  unfold pauseTick
  exact if_pos h

theorem pauseTick_ends (h : c.remaining ≤ 1) : pauseTick c =
    if c.sub = .seating ∧ c.est + c.deadband < c.staged then
      startPause { c with active := c.staged, remaining := 0, divider := 0 }
    else judgePair { c with active := c.staged, remaining := 0, divider := 0, sub := .atRest } := by
  unfold pauseTick
  exact if_neg (Nat.not_lt.2 h)

theorem moveEndDue_iff : moveEndDue c = true ↔ (c.sub = .raising ∨ c.sub = .lowering) ∧ c.length ≤ c.moved + 1 := by
  simp [moveEndDue]

theorem pauseEndDue_iff : pauseEndDue c = true ↔ (c.sub = .reversalPause ∨ c.sub = .seating) ∧ c.remaining ≤ 1 := by
  simp [pauseEndDue]

end

/-- Settles O38: the tick by the sub-state, and by whether it ends the move, the pause or the seating run; the two rows
that name an end are that tick where the end is due. -/
theorem pairsTick : Obligations.PairsTick := by
  intro s ch v c pair travel e moves waits
  have pair_iff : isRunningPair v ch = true ↔ pair := isRunningPair_iff
  have tick : exec (.pairTick ch) s = .next (if isRunningPair v ch then tickPair ch s else s) := rfl
  have moveEnd : exec (.moveEnd ch) s =
      .next (if (isRunningPair v ch && moveEndDue c) = true then tickPair ch s else s) := rfl
  have pauseEnd : exec (.pauseEnd ch) s =
      .next (if (isRunningPair v ch && pauseEndDue c) = true then tickPair ch s else s) := rfl
  refine ⟨fun no => ?_, fun running => ?_, fun no => ?_⟩
  · rw [tick, if_neg (pair_iff.not.2 no)]
  · have isPair := pair_iff.2 running
    have steers := steers_pairBaseTick c
    rw [tick, moveEnd, pauseEnd, isPair, Bool.true_and, Bool.true_and]
    refine ⟨pairBaseTick c, putPair v ch (pairBaseTick c), rfl,
      putPair_running v ch (steers.state.trans running.2.2) steers.idle, pairBaseTick_atRest,
      fun moving goes => ?_, fun moving ends => ?_, fun waiting counts => ?_, fun waiting ends => ?_, ?_, ?_⟩
    · rw [pairBaseTick_moves moving, moveTick_goes goes]
      rfl
    · rw [pairBaseTick_moves moving, moveTick_ends ends]
      split
      · next seats => exact ⟨rfl, rfl, rfl, fun _ => ⟨rfl, rfl, rfl⟩, fun no => absurd seats no⟩
      · next rests => exact ⟨rfl, rfl, rfl, fun seats => absurd seats rests, fun _ => ⟨rfl, rfl⟩⟩
    · rw [pairBaseTick_waits waiting, pauseTick_counts counts]
    · rw [pairBaseTick_waits waiting, pauseTick_ends ends]
      split
      · next turns => exact ⟨rfl, rfl, fun _ _ => ⟨rfl, rfl⟩, fun no => absurd turns no⟩
      · next judges =>
        obtain ⟨est, active, remaining, raising, lowering, sub, -⟩ :=
          judged_judgePair { c with active := c.staged, remaining := 0, divider := 0, sub := .atRest }
        exact ⟨active, est, fun seats far => absurd ⟨seats, far⟩ judges,
          fun _ => ⟨remaining, raising, lowering, sub⟩⟩
    · by_cases due : moves ∧ c.length ≤ c.moved + 1
      · rw [if_pos due, if_pos (moveEndDue_iff.2 due)]
        rfl
      · rw [if_neg due, if_neg (moveEndDue_iff.not.2 due)]
    · by_cases due : waits ∧ c.remaining ≤ 1
      · rw [if_pos due, if_pos (pauseEndDue_iff.2 due)]
        rfl
      · rw [if_neg due, if_neg (pauseEndDue_iff.not.2 due)]
  · have noPair := Bool.eq_false_iff.2 (pair_iff.not.2 no)
    rw [moveEnd, pauseEnd, noPair]
    exact ⟨rfl, rfl⟩

end Sys2Proof.Machine
end

section
/-! DRIVE-START and DRIVE-STOP (R85, R86). -/
namespace Sys2Proof.Machine

theorem takesPartner_iff {m : DriveMode} : m.takesPartner = true ↔ m = .cascade ∨ m = .raise := by
  rw [takesPartner_eq, Bool.or_eq_true, decide_eq_true_iff, decide_eq_true_iff]

section
variable {lines : Vector EventLine 8} {v w : Vector DriveChannel 16} {ch k : Fin 16}

/-- Where one channel is written, every other but its partner stands. -/
theorem Revises.stands (r : Revises ch v w) (own : k ≠ ch)
    (other : ¬ ((v[ch].mode = .cascade ∨ v[ch].mode = .raise) ∧ k = ch + 1)) : w[k] = v[k] := by
  by_cases next : k = ch + 1
  · subst next
    exact r.alone (Bool.eq_false_iff.2 fun takes => other ⟨takesPartner_iff.1 takes, rfl⟩)
  · exact r.other k own next

/-! ## A start -/

theorem startChannel_met (met : permissiveMet lines v[ch] = true) : startChannel lines v ch = runChannel v ch := by
  unfold startChannel
  exact if_pos met

theorem startChannel_unmet (unmet : permissiveMet lines v[ch] ≠ true) :
    startChannel lines v ch = blockChannel v ch := by
  unfold startChannel
  exact if_neg unmet

theorem revises_runChannel (v ch) : Revises ch v (runChannel v ch) := by
  by_cases raise : v[ch].mode = .raise
  · rw [runChannel_raise raise]
    exact revises_putPair (steers_rejudged v[ch]).mode raise
  · rw [runChannel_period raise]
    exact revises_put rfl

theorem revises_startChannel (lines v ch) : Revises ch v (startChannel lines v ch) := by
  unfold startChannel
  split
  · exact revises_runChannel v ch
  · exact revises_putIdle rfl

/-- What a channel that begins to run holds, whatever its mode (R85, R87). -/
theorem runChannel_self (v : Vector DriveChannel 16) (ch : Fin 16) :
    (runChannel v ch)[ch].state = .running ∧ (runChannel v ch)[ch].active = v[ch].staged ∧
    (runChannel v ch)[ch].staged = v[ch].staged ∧ (runChannel v ch)[ch].est = v[ch].est := by
  by_cases raise : v[ch].mode = .raise
  · have judged := judged_judgePair { v[ch] with state := .running, active := v[ch].staged, sub := .atRest }
    have staged := staged_judgePair (p := v[ch].staged)
      (c := { v[ch] with state := .running, active := v[ch].staged, sub := .atRest }) rfl
    rw [runChannel_raise raise, putPair_self]
    exact ⟨(steers_rejudged v[ch]).state, judged.active, staged.staged, judged.est⟩
  · rw [runChannel_period raise, put_getElem_self]
    exact ⟨rfl, rfl, rfl, rfl⟩

/-- A channel that works in periods begins with a fresh one (R85, R90). -/
theorem runChannel_fresh (period : v[ch].mode ≠ .raise) :
    (runChannel v ch)[ch].count = 0 ∧ (runChannel v ch)[ch].tick = 0 ∧
    (runChannel v ch)[ch].pin = if 0 < activeTime (runChannel v ch)[ch] then activeLevel v[ch] else v[ch].idle := by
  rw [runChannel_period period, put_getElem_self]
  exact ⟨rfl, rfl, startPeriod_pin true { v[ch] with state := .running }⟩

/-- A pair begins with the judgement of its staged target (R85, R94). -/
theorem runChannel_judged (raise : v[ch].mode = .raise) :
    ((runChannel v ch)[ch].sub = .raising ↔ v[ch].est + v[ch].deadband < v[ch].staged) ∧
    ((runChannel v ch)[ch].sub = .lowering ↔ v[ch].staged + v[ch].deadband < v[ch].est) ∧
    (runChannel v ch)[ch].sub ≠ .reversalPause ∧ (runChannel v ch)[ch].sub ≠ .seating := by
  have judged := judged_judgePair { v[ch] with state := .running, active := v[ch].staged, sub := .atRest }
  rw [runChannel_raise raise, putPair_self]
  exact ⟨judged.raising, judged.lowering, judged.not_waiting⟩

/-! ## A stop -/

theorem revises_stopChannel (v ch) : Revises ch v (stopChannel v ch) := by
  unfold stopChannel
  split
  · exact ⟨rfl, ⟨_, rfl⟩, fun _ => rfl, fun _ _ _ => rfl⟩
  · exact revises_putIdle rfl

/-- The odd partner's pin goes idle with the channel's own (R86, R88). -/
theorem stopChannel_next (started : v[ch].state ≠ .stopped) (takes : v[ch].mode.takesPartner = true) :
    (stopChannel v ch)[ch + 1] = { v[ch + 1] with pin := v[ch].idle } := by
  unfold stopChannel
  rw [if_neg started, putIdle_next]
  have takes : (abandonPair v[ch]).mode.takesPartner = true := takes
  dsimp only
  rw [if_pos takes]
  rfl

end

/-! ## The requests -/

section
variable {s : State} {ch : Fin 16}

theorem judgeDriveStart_eq : judgeDriveStart ch.1 s =
    if s.lkp.mode = .setup then refused .state
    else if (isMember s.dcu.channels ch || decide (s.dcu.channels[ch].state ≠ .stopped)) = true then refused .state
    else okWith (encCode (startChannel s.fiu.lines s.dcu.channels ch)[ch].state.code)
      { s with dcu := { s.dcu with channels := startChannel s.fiu.lines s.dcu.channels ch } } := by
  unfold judgeDriveStart
  rw [asFin_val]

theorem judgeDriveStop_eq : judgeDriveStop ch.1 s =
    if isMember s.dcu.channels ch = true then refused .state
    else okWith [] { s with dcu := { s.dcu with channels := stopChannel s.dcu.channels ch } } := by
  unfold judgeDriveStop
  rw [asFin_val]

/-- Settles O34: a start by whether the permissive is met, a stop by whether the channel is stopped already. -/
theorem drivesStartAndStop : Obligations.DrivesStartAndStop := by
  intro s p ch heard parsed v c met
  have start := judgeDriveStart_eq (s := s) (ch := ch)
  have stop := judgeDriveStop_eq (s := s) (ch := ch)
  have met_iff : permissiveMet s.fiu.lines c = true ↔ met := permissiveMet_iff
  refine ⟨fun refuses => ?_, fun run own stopped => ?_, fun member => ?_, fun own stopped => ?_, fun own started => ?_⟩
  · refine declines_of_refuse (by decide) heard parsed (start.trans ?_) rfl
    by_cases setup : s.lkp.mode = .setup
    · exact if_pos setup
    · rw [if_neg setup]
      refine if_pos ?_
      rw [Bool.or_eq_true, decide_eq_true_iff]
      exact refuses.resolve_left setup
  · rw [if_neg (by rw [run]; decide), if_neg (by rw [own, decide_eq_false (not_not.2 stopped)]; decide)] at start
    refine ⟨_, answers_of_done (by decide) heard parsed start rfl, fun isMet => ?_, fun unmet => ?_,
      fun k other next => (revises_startChannel ..).stands other next⟩
    · rw [startChannel_met (met_iff.2 isMet)]
      obtain ⟨state, active, staged, est⟩ := runChannel_self v ch
      exact ⟨state, active, staged, est, runChannel_fresh, runChannel_judged⟩
    · rw [startChannel_unmet (met_iff.not.2 unmet), blockChannel, putIdle_self]
      exact ⟨rfl, rfl, rfl, rfl⟩
  · exact declines_of_refuse (by decide) heard parsed (stop.trans (if_pos member)) rfl
  · rw [if_neg (Bool.eq_false_iff.1 own), stopChannel_same stopped] at stop
    have stands : judgeDriveStop ch.1 s = .done .ok [] s := stop
    exact answers_of_done (by decide) heard parsed stands rfl
  · rw [if_neg (Bool.eq_false_iff.1 own)] at stop
    exact ⟨_, answers_of_done (by decide) heard parsed stop rfl, stopChannel_self v ch started,
      fun takes => stopChannel_next started (takesPartner_iff.2 takes),
      fun k other next => (revises_stopChannel v ch).stands other next⟩

end

end Sys2Proof.Machine
end

section
/-! DRIVE-SET: what its fields and its checks give, and what it leaves of each channel (R79 to R81). -/
namespace Sys2Proof.Machine

/-! ## The fields -/

theorem dependent_isSome {α : Type} {b : Bool} {f : List Byte → Option (α × List Byte)} {l q : List Byte} {x : Option α}
    (h : dependent b f l = some (x, q)) : x.isSome = b := by
  unfold dependent at h
  cases b with
  | false =>
    cases h
    rfl
  | true =>
    obtain ⟨y, -, same⟩ := Option.map_eq_some_iff.1 h
    cases same
    rfl

/-- Which fields of DRIVE-SET are present, and what N can be (Table 5-2, R165). -/
structure DriveFieldsPresent (f : DriveSetFields) : Prop where
  period : f.period.isSome = (f.mode != 3)
  fits : ∀ n ∈ f.period, n < 65536
  wmin : f.wmin.isSome = (f.mode == 1)
  polarity : f.polarity.isSome = f.line.isSome
  pair : f.pair.isSome = (f.mode == 3)

theorem parseDriveSet_present {p : List Byte} {f : DriveSetFields} (h : parseDriveSet p = some f) :
    DriveFieldsPresent f := by
  simp only [parseDriveSet, Option.bind_eq_bind, Option.bind_eq_some_iff, Prod.exists, ending_eq_some] at h
  obtain ⟨_, _, -, mode, _, -, _, _, -, _, _, period, _, _, wmin, _, _, -, _, _, -, _, _, polarity, _, _, -, _, _, pair,
    rfl, -⟩ := h
  obtain ⟨here, fits, -⟩ := (dependent_eq_some fun _ _ _ => u16_eq_some).1 period
  exact ⟨here, fits, dependent_isSome wmin, dependent_isSome polarity, dependent_isSome pair⟩

/-! ## The checks -/

theorem driveModeOf_code (mode : DriveMode) : driveModeOf mode.code = some mode := by cases mode <;> rfl
theorem levelOfCode_code (level : Level) : levelOfCode level.code = some level := by cases level <;> rfl

/-- The permissive that the fields spell (Table 5-2, items 7 and 8). -/
structure Spelled (line polarity : Option Nat) (x : Option (Fin 8 × Level)) : Prop where
  line : x.map (·.1.1) = line
  polarity : x.map (fun x => if x.2 = .high then 0 else 1) = polarity

theorem permissiveOf_spelled {line polarity : Option Nat} (present : polarity.isSome = line.isSome)
    (hl : ∀ l ∈ line, l < 8) (hp : ∀ x ∈ polarity, x < 2) :
    ∃ x, permissiveOf line polarity = .ok x ∧ Spelled line polarity x := by
  cases line with
  | none =>
    cases polarity with
    | none => exact ⟨none, rfl, rfl, rfl⟩
    | some x => cases present
  | some l =>
    cases polarity with
    | none => cases present
    | some x =>
      have known : ∃ pol, polarityOf x = some pol ∧ (if pol = Level.high then 0 else 1) = x := by
        have := hp x rfl
        obtain rfl | rfl : x = 0 ∨ x = 1 := by omega
        · exact ⟨.high, rfl, rfl⟩
        · exact ⟨.low, rfl, rfl⟩
      obtain ⟨pol, read, code⟩ := known
      refine ⟨some (⟨l, hl l rfl⟩, pol), ?_, rfl, congrArg some code⟩
      unfold permissiveOf
      dsimp only
      rw [asFin_val ⟨l, hl l rfl⟩]
      dsimp only
      rw [Option.bind_some, read]

theorem pairItemFailing_eq_none {x : PairFields} (h : 10 ≤ x.ttr ∧ x.deadband ≤ 500 ∧ 1 ≤ x.reversal ∧ x.minMove ≤ x.ttr) :
    pairItemFailing x = none := by
  obtain ⟨ttr, deadband, reversal, minMove⟩ := h
  unfold pairItemFailing
  rw [if_neg (by omega), if_neg (by omega), if_neg (by omega), if_neg (by omega)]

section
variable {f : DriveSetFields} {mode : DriveMode}

theorem mode_ne_three (named : f.mode = mode.code) : (f.mode != 3) = decide (mode ≠ .raise) := by
  rw [named]
  cases mode <;> rfl
theorem mode_eq_three (named : f.mode = mode.code) : (f.mode == 3) = decide (mode = .raise) := by
  rw [named]
  cases mode <;> rfl
theorem mode_eq_one (named : f.mode = mode.code) : (f.mode == 1) = decide (mode = .pulse) := by
  rw [named]
  cases mode <;> rfl

theorem periodFits_of_present (present : DriveFieldsPresent f) (named : f.mode = mode.code)
    (within : ∀ k ∈ f.period, 8 ≤ k ∧ (mode ≠ .cascade → k ≤ 4095)) : periodFits mode f.period = true := by
  have here := present.period.trans (mode_ne_three named)
  cases hp : f.period with
  | none =>
    rw [hp] at here
    have raise : mode = .raise := by simpa using here
    rw [raise]
    rfl
  | some n =>
    rw [hp] at here
    obtain ⟨low, short⟩ := within n hp
    have long := present.fits n hp
    unfold periodFits
    cases mode with
    | raise => simp at here
    | cascade => exact decide_eq_true (by omega)
    | duty => exact decide_eq_true ⟨low, short (by decide)⟩
    | pulse => exact decide_eq_true ⟨low, short (by decide)⟩

theorem wminFits_of_present (present : DriveFieldsPresent f) (named : f.mode = mode.code)
    (within : ∀ w ∈ f.wmin, w ≤ f.period.getD 0 / 2) : wminFits mode f.period f.wmin = true := by
  have here := present.wmin.trans (mode_eq_one named)
  cases hw : f.wmin with
  | none =>
    rw [hw] at here
    have other : mode ≠ .pulse := by simpa using here
    cases mode with
    | pulse => exact absurd rfl other
    | _ => rfl
  | some w =>
    rw [hw] at here
    have pulse : mode = .pulse := by simpa using here
    rw [pulse]
    exact decide_eq_true (within w hw)

/-- Fields within Table 5-2 pass the checks, and give the configuration that they spell (R80). -/
theorem checkDriveSet_passes {ch : Fin 16} {idle : Level} {source : DriveSource} (present : DriveFieldsPresent f)
    (named : f.mode = mode.code) (even : mode.takesPartner = true → ch.1 % 2 = 0) (base : f.baseTick ∈ [1, 10, 100])
    (period : ∀ k ∈ f.period, 8 ≤ k ∧ (mode ≠ .cascade → k ≤ 4095))
    (wmin : ∀ w ∈ f.wmin, w ≤ f.period.getD 0 / 2) (level : f.idle = idle.code) (line : ∀ l ∈ f.line, l < 8)
    (polarity : ∀ x ∈ f.polarity, x < 2) (origin : f.source = driveSourceCode source)
    (pair : ∀ x ∈ f.pair, 10 ≤ x.ttr ∧ x.deadband ≤ 500 ∧ 1 ≤ x.reversal ∧ x.minMove ≤ x.ttr) :
    ∃ x, checkDriveSet f ch = .ok { mode := mode, idle := idle, permissive := x, source := source } ∧
      Spelled f.line f.polarity x := by
  obtain ⟨x, read, spelled⟩ := permissiveOf_spelled present.polarity line polarity
  have tick : baseTickPermitted f.baseTick = true := by simpa [baseTickPermitted, or_assoc] using base
  have inPair : f.pair.bind pairItemFailing = none := by
    cases hp : f.pair with
    | none => rfl
    | some y => exact pairItemFailing_eq_none (pair y hp)
  have partner : ¬ (mode.takesPartner && decide (ch.1 % 2 = 1)) = true := fun odd => by
    rw [Bool.and_eq_true, decide_eq_true_iff] at odd
    have := even odd.1
    omega
  refine ⟨x, ?_, spelled⟩
  unfold checkDriveSet
  rw [named, driveModeOf_code, level, levelOfCode_code, read, origin, driveSourceOf_code, inPair, tick]
  dsimp only
  rw [periodFits_of_present present named period, wminFits_of_present present named wmin]
  exact if_neg partner

/-! ## The request -/

theorem wantsPartner_eq_false {ch : Fin 16} (named : f.mode = mode.code) (alone : mode.takesPartner = false) :
    wantsPartner f.mode ch = false := by
  unfold wantsPartner
  rw [named]
  cases mode with
  | duty => exact Bool.and_false _
  | pulse => exact Bool.and_false _
  | cascade => exact absurd alone (by decide)
  | raise => exact absurd alone (by decide)

/-- DRIVE-SET once its channel, the states and the fields have passed: the bindings in RUN are left (R80, item 4). -/
theorem judgeDriveSet_checked {s : State} {ch : Fin 16} {k : DriveConfig} (channel : f.channel = ch.1)
    (own : isMember s.dcu.channels ch = false) (stopped : s.dcu.channels[ch].state = .stopped)
    (partner : wantsPartner f.mode ch = true → channelState s.dcu.channels (ch + 1) = .stopped)
    (checked : checkDriveSet f ch = .ok k) : judgeDriveSet f s =
      if s.lkp.mode = .run ∧ isBound s.gbu ch = true ∧ k.source ≠ s.dcu.channels[ch].source then rangeItem 9
      else if s.lkp.mode = .run ∧ k.mode.takesPartner = true ∧ isBound s.gbu (ch + 1) = true then rangeItem 2
      else okWith [] { s with dcu := { s.dcu with channels := driveSetTo f k s.dcu.channels ch } } := by
  have free : ¬ (isMember s.dcu.channels ch || decide (s.dcu.channels[ch].state ≠ .stopped)) = true := by
    rw [own, decide_eq_false (not_not.2 stopped)]
    decide
  have ready : ¬ (wantsPartner f.mode ch && decide (channelState s.dcu.channels (ch + 1) ≠ .stopped)) = true := by
    rw [Bool.and_eq_true, decide_eq_true_iff]
    exact fun busy => busy.2 (partner busy.1)
  unfold judgeDriveSet
  dsimp only
  rw [channel, asFin_val]
  dsimp only
  rw [if_neg free, if_neg ready, checked]
  simp only [Bool.and_eq_true, decide_eq_true_iff, and_assoc]

end

/-- What DRIVE-SET leaves of the pair fields: those of the request, where it carries them (R81, R93). -/
theorem configured_pair (f : DriveSetFields) (k : DriveConfig) (c : DriveChannel) :
    (∀ x ∈ f.pair, (configured f k c).ttr = x.ttr ∧ (configured f k c).deadband = x.deadband ∧
      (configured f k c).reversal = x.reversal ∧ (configured f k c).minMove = x.minMove ∧
      (configured f k c).seatRun = x.seatRun) ∧
    (f.pair = none → (configured f k c).ttr = c.ttr ∧ (configured f k c).deadband = c.deadband ∧
      (configured f k c).reversal = c.reversal ∧ (configured f k c).minMove = c.minMove ∧
      (configured f k c).seatRun = c.seatRun) := by
  unfold configured
  refine ⟨fun x hx => ?_, fun none => ?_⟩
  · obtain hx : f.pair = some x := hx
    rw [hx]
    exact ⟨rfl, rfl, rfl, rfl, rfl⟩
  · rw [none]
    exact ⟨rfl, rfl, rfl, rfl, rfl⟩

/-- Settles O32: fields within Table 5-2 pass every check but those of the bindings in RUN, and each channel is as
DRIVE-SET leaves it. -/
theorem driveSetConfigures : Obligations.DriveSetConfigures := by
  intro s p f ch mode idle source v partner heard parsed channel own stopped ready named base period wmin level line
    polarity origin pair
  have present := parseDriveSet_present parsed
  have takes_iff : mode.takesPartner = true ↔ partner := takesPartner_iff
  obtain ⟨x, checked, spelled⟩ := checkDriveSet_passes (ch := ch) present named
    (fun takes => (ready (takes_iff.1 takes)).1) base period wmin level line polarity origin pair
  have judged := judgeDriveSet_checked (s := s) channel own stopped (fun wants => (ready (takes_iff.1 (by
    by_contra alone
    rw [wantsPartner_eq_false named (Bool.eq_false_iff.2 alone)] at wants
    exact absurd wants (by decide)))).2) checked
  refine ⟨fun run bound other => ?_, fun run same takes bound => ?_, fun free => ?_⟩
  · rw [if_pos ⟨run, bound, other⟩] at judged
    exact declines_of_refuse (by decide) heard parsed judged rfl
  · rw [if_neg fun bad => bad.2.2 (same bad.2.1), if_pos ⟨run, takes_iff.2 takes, bound⟩] at judged
    exact declines_of_refuse (by decide) heard parsed judged rfl
  · rw [if_neg fun bad => bad.2.2 ((free bad.1).1 bad.2.1), if_neg fun bad => by
      have unbound := (free bad.1).2 (takes_iff.1 bad.2.1)
      exact absurd (unbound.symm.trans bad.2.2) (by decide)] at judged
    refine ⟨_, answers_of_done (by decide) heard parsed judged rfl, ?_⟩
    rw [driveSetTo_self]
    obtain ⟨carried, kept⟩ := configured_pair f { mode := mode, idle := idle, permissive := x, source := source } v[ch]
    refine ⟨rfl, spelled.line, spelled.polarity, carried, fun noPair => kept ?_, fun takes => ?_,
      fun alone even took => ?_, fun i other apart => ?_⟩
    · have absent := present.pair.trans (mode_eq_three named)
      rw [decide_eq_false noPair] at absent
      simpa using absent
    · exact driveSetTo_takes f _ v ch (takes_iff.2 takes)
    · exact driveSetTo_frees f _ v ch (Bool.eq_false_iff.2 fun takes => alone (takes_iff.1 takes)) even
        (takesPartner_iff.2 took)
    · refine driveSetTo_ne f _ v ch other fun next => ⟨?_, fun even => ?_⟩
      · exact Bool.eq_false_iff.2 fun takes =>
          apart ⟨(ready (takes_iff.1 takes)).1, next, .inl (takes_iff.1 takes)⟩
      · exact Bool.eq_false_iff.2 fun took => apart ⟨even, next, .inr (takesPartner_iff.1 took)⟩

end Sys2Proof.Machine
end

section
/-!
The export demand record: N_eff, G and G_nominal, and the requests of the POWER consumers (R113, R114).
-/
namespace Sys2Proof.Machine

/-! ## Rounding up -/

theorem ceilDiv_bounds (a : Nat) {b : Nat} (pos : 0 < b) : a ≤ ceilDiv a b * b ∧ ceilDiv a b * b < a + b := by
  have low : ceilDiv a b * b ≤ a + b - 1 := Nat.div_mul_le_self ..
  have high : a + b - 1 < ceilDiv a b * b + b := Nat.lt_div_mul_add pos
  omega

/-! ## The round of the remainder -/

/-- In an ascending list the first `k` members are those with fewer than `k` members below them. -/
theorem mem_take_iff {n : Nat} {l : List (Fin n)} {i : Fin n} {k : Nat} (ascending : l.Pairwise (· < ·)) (member : i ∈ l) :
    i ∈ l.take k ↔ (l.filter (· < i)).length < k := by
  obtain ⟨below, above, split⟩ := List.append_of_mem member
  rw [split, List.pairwise_append, List.pairwise_cons] at ascending
  obtain ⟨-, ⟨later, -⟩, order⟩ := ascending
  have before : ∀ j ∈ below, j < i := fun j hj => order j hj i List.mem_cons_self
  have lower : (below ++ i :: above).filter (· < i) = below := by
    rw [List.filter_append, List.filter_eq_self.2 fun j hj => decide_eq_true (before j hj),
      List.filter_eq_nil_iff.2 fun j hj => ?_, List.append_nil]
    rw [decide_eq_true_iff, not_lt]
    obtain rfl | hj := List.mem_cons.1 hj
    · exact le_rfl
    · exact (later j hj).le
  rw [split, lower, List.take_append, List.mem_append]
  constructor
  · rintro (first | rest)
    · exact absurd (before i (List.mem_of_mem_take first)) (lt_irrefl i)
    · by_contra few
      rw [Nat.sub_eq_zero_of_le (Nat.le_of_not_lt few)] at rest
      exact List.not_mem_nil rest
  · intro few
    obtain ⟨d, hd⟩ := Nat.exists_eq_succ_of_ne_zero (Nat.sub_ne_zero_of_lt few)
    rw [hd]
    exact .inr List.mem_cons_self

section
variable {v : Vector Consumer 12} {gas : Nat} {m n : Fin 12}

theorem sumOver_floorShare (v gas) : sumOver (powerConsumers v) (fun n => weightSum v * floorShare v gas n) =
    weightSum v * sumOver (powerConsumers v) (floorShare v gas) := sumOver_mul ..

theorem sumOver_weights (v gas) : sumOver (powerConsumers v) (fun n => gas * v[n].weight.getD 0) = gas * weightSum v :=
  sumOver_mul ..

/-- The floors give out at most G (R114). -/
theorem floorShares_le (weighs : 0 < weightSum v) : sumOver (powerConsumers v) (floorShare v gas) ≤ gas := by
  refine Nat.le_of_mul_le_mul_left ?_ weighs
  calc weightSum v * sumOver (powerConsumers v) (floorShare v gas)
      = sumOver (powerConsumers v) (fun n => weightSum v * floorShare v gas n) := (sumOver_floorShare v gas).symm
    _ ≤ sumOver (powerConsumers v) (fun n => gas * v[n].weight.getD 0) := sumOver_mono fun _ _ => Nat.mul_div_le ..
    _ = weightSum v * gas := (sumOver_weights v gas).trans (Nat.mul_comm ..)

/-- What the floors leave is at most 1 kW for each POWER consumer (R114). -/
theorem shareRemainder_le (weighs : 0 < weightSum v) : shareRemainder v gas ≤ (powerConsumers v).length := by
  have few : gas ≤ sumOver (powerConsumers v) fun n => floorShare v gas n + 1 := by
    refine Nat.le_of_mul_le_mul_left ?_ weighs
    calc weightSum v * gas
        = sumOver (powerConsumers v) (fun n => gas * v[n].weight.getD 0) :=
          (Nat.mul_comm ..).trans (sumOver_weights v gas).symm
      _ ≤ sumOver (powerConsumers v) (fun n => weightSum v * (floorShare v gas n + 1)) :=
          sumOver_mono fun _ _ => (Nat.lt_mul_div_succ _ weighs).le
      _ = weightSum v * sumOver (powerConsumers v) (fun n => floorShare v gas n + 1) := sumOver_mul ..
  rw [sumOver_add] at few
  have ones : sumOver (powerConsumers v) (fun _ => 1) = (powerConsumers v).length := by simp [sumOver]
  unfold shareRemainder
  change gas - sumOver _ _ ≤ _
  omega

/-- The first members of the round, as many as the floors leave, get 1 kW more (R114). -/
theorem gasShare_power (power : v[n].isPower = true) : gasShare v gas n =
    floorShare v gas n + if n ∈ (powerConsumers v).take (shareRemainder v gas) then 1 else 0 := by
  simp only [gasShare, mem_take_iff (powerConsumers_ascend v) (mem_powerConsumers.2 power)]

/-- The shares sum to G (R114). -/
theorem sumOver_gasShare (weighs : 0 < weightSum v) : sumOver (powerConsumers v) (gasShare v gas) = gas := by
  have floors := floorShares_le (gas := gas) weighs
  calc sumOver (powerConsumers v) (gasShare v gas)
      = sumOver (powerConsumers v) (fun n => floorShare v gas n +
          if n ∈ (powerConsumers v).take (shareRemainder v gas) then 1 else 0) :=
        sumOver_congr fun _ member => gasShare_power (mem_powerConsumers.1 member)
    _ = sumOver (powerConsumers v) (floorShare v gas) + shareRemainder v gas := by
        rw [sumOver_add, sumOver_mem_sublist ((powerConsumers_ascend v).imp ne_of_lt) (List.take_sublist ..),
          List.length_take, Nat.min_eq_left (shareRemainder_le weighs)]
    _ = gas := Nat.add_sub_cancel' floors

theorem gasShare_cases (n) : gasShare v gas n = floorShare v gas n ∨ gasShare v gas n = floorShare v gas n + 1 := by
  unfold gasShare
  split
  · exact .inr rfl
  · exact .inl rfl

/-- The remainder goes out in ascending number (R114). -/
theorem gasShare_ascending (below : m < n) (more : gasShare v gas n = floorShare v gas n + 1) :
    gasShare v gas m = floorShare v gas m + 1 := by
  have fewer : ((powerConsumers v).filter (· < m)).length ≤ ((powerConsumers v).filter (· < n)).length :=
    (List.monotone_filter_right _ fun i hi => by
      rw [decide_eq_true_iff] at hi ⊢
      exact hi.trans below).length_le
  unfold gasShare at more ⊢
  split at more
  · next few => rw [if_pos (Nat.lt_of_le_of_lt fewer few)]
  · omega

end

/-! ## The record -/

section
variable {phase : ExportState} {v : Vector Consumer 12} {gas : Nat} {n : Fin 12}

theorem isPower_iff {c : Consumer} : c.isPower = true ↔ c.main ≠ none ∧ c.kind = .power := by
  simp [Consumer.isPower, Consumer.defined, Option.isSome_iff_ne_none]

theorem powerRequest_none : powerRequest phase v gas n = none ↔ ¬ v[n].isPower = true := by
  unfold powerRequest
  cases phase <;> simp

/-- What a POWER consumer requests in each export state (R114). -/
theorem powerRequest_power (power : v[n].isPower = true) :
    (phase = .idle ∨ phase = .halted → (powerRequest phase v gas n).getD 0 = 0) ∧
    (phase = .armed ∨ phase = .passive → (powerRequest phase v gas n).getD 0 = v[n].mc) ∧
    (phase = .active → (powerRequest phase v gas n).getD 0 = gasShare v gas n) := by
  unfold powerRequest
  rw [if_pos power]
  cases phase <;> simp

theorem holdAsserted_iff {lines : Vector EventLine 8} {c : ExportConfig} :
    holdAsserted lines c = true ↔ ∃ l ∈ c.gridHold, lines[l].debounced = .high := by
  unfold holdAsserted
  cases c.gridHold <;> simp

theorem formedRecord_request (s : State) (n : Fin 12) : (formedRecord s).requests[n] =
    powerRequest s.exs.phase s.gbu.consumers (formedRecord s).gas n := ofFn_getElem ..

theorem nominated_valid {e : Exs} (h : e.plan = .valid) : nominated e = e.current[e.slotInHand] := by
  unfold nominated
  rw [h]
theorem nominated_grace {e : Exs} (h : e.plan = .grace) : nominated e = e.held := by
  unfold nominated
  rw [h]
theorem nominated_void {e : Exs} (h : e.plan = .void) : nominated e = 0 := by
  unfold nominated
  rw [h]

end

/-- Settles O39: N_eff by the state and the hold, G and G_nominal by rounding up, and the requests by the export
state. -/
theorem demandFormed : Obligations.DemandFormed := by
  intro s e r v capped weights asked
  have request : ∀ n : Fin 12, r.requests[n] = powerRequest e.phase v r.gas n := formedRecord_request s
  have shares : e.phase = .active → ∀ n : Fin 12, v[n].isPower = true → asked n = gasShare v r.gas n :=
    fun active n power => by
      obtain ⟨-, -, share⟩ := powerRequest_power (phase := e.phase) (gas := r.gas) power
      exact (congrArg (·.getD 0) (request n)).trans (share active)
  have least : deliverable e = capped := by
    change min _ _ = match e.curtail with
      | none => min (nominated e) e.config.capacity
      | some c => min (min (nominated e) c.cap) e.config.capacity
    cases e.curtail <;> rfl
  have ceil : ∀ kW, 0 < e.config.eta → kW * 1000 ≤ gasPower e.config.eta kW * e.config.eta ∧
      gasPower e.config.eta kW * e.config.eta < kW * 1000 + e.config.eta := fun kW => ceilDiv_bounds (kW * 1000)
  have nominal : r.gasNominal = gasPower e.config.eta capped := by rw [← least]; rfl
  refine ⟨rfl, rfl, rfl, rfl, holdAsserted_iff, fun plan => ?_, fun plan => ?_, fun plan => ?_, ?_, fun eta => ?_,
    fun n => ?_, fun n power => ?_, fun active weighs => ?_⟩
  · exact nominated_valid plan
  · exact nominated_grace plan
  · exact nominated_void plan
  · rw [← least]
    rfl
  · obtain ⟨low, high⟩ := ceil r.neff eta
    obtain ⟨lowNominal, highNominal⟩ := ceil capped eta
    rw [nominal]
    exact ⟨low, high, lowNominal, highNominal⟩
  · rw [request, powerRequest_none, isPower_iff]
  · obtain ⟨rest, fixed, -⟩ := powerRequest_power (phase := e.phase) (gas := r.gas) power
    rw [← request] at rest fixed
    refine ⟨rest, fixed, fun active => ?_⟩
    rw [shares active n power]
    exact gasShare_cases n
  · refine ⟨?_, fun m n below first second more => ?_⟩
    · exact (sumOver_congr fun n member => shares active n (mem_powerConsumers.1 member)).trans (sumOver_gasShare weighs)
    · rw [shares active n second] at more
      rw [shares active m first]
      exact gasShare_ascending below more

end Sys2Proof.Machine
end

section
/-!
NOMINATE, NOMINATE-AMEND and NOMINATE-CANCEL: the entries written, the first one clamped, and the status of NEXT (R102,
R103).
-/
namespace Sys2Proof.Machine

/-! ## The entries -/

section
variable {f : NominateFields} {p : List Byte} {cx k : Nat}

/-- A request of another size than its count is refused with LENGTH (R102). -/
theorem parseNominate_length (h : parseNominate p = some f) : f.entries.length = f.count := by
  simp only [parseNominate, Option.bind_eq_bind, Option.bind_eq_some_iff, Prod.exists, ending_eq_some] at h
  obtain ⟨_, _, -, _, _, -, _, _, entries, rfl, -⟩ := h
  exact ((many_eq_some fun _ _ _ => u24_eq_some).1 entries).2.1

/-- A table as a request leaves it, slot by slot (R102, R103). -/
theorem writeEntries_slot (sized : f.entries.length = f.count) (v : Vector Nat 96) (i : Fin 96) :
    (writeEntries f cx v)[i] =
      if f.first ≤ i.1 ∧ i.1 < f.first + f.count then min (f.entries.getD (i.1 - f.first) 0) cx else v[i] := by
  simp only [writeEntries, each_getElem]
  by_cases low : f.first ≤ i.1
  · rw [if_pos low]
    by_cases high : i.1 < f.first + f.count
    · have inside : i.1 - f.first < f.entries.length := by omega
      rw [if_pos ⟨low, high⟩, List.getD_eq_getElem _ _ inside, List.getElem?_eq_getElem inside]
      rfl
    · rw [if_neg fun covered => high covered.2, List.getElem?_eq_none (by omega)]
      rfl
  · rw [if_neg low, if_neg fun covered => low covered.1]

theorem coversSlot_iff {i : Fin 96} : coversSlot f i = true ↔ f.first ≤ i.1 ∧ i.1 < f.first + f.count :=
  decide_eq_true_iff

theorem firstClamped_none (fits : ∀ x ∈ f.entries, x ≤ cx) : firstClamped f cx = none := by
  rw [firstClamped, List.findIdx?_eq_none_iff.2 fun x hx => decide_eq_false (Nat.not_lt.2 (fits x hx))]
  rfl

/-- The first slot clamped is that of the first entry above Cx (R102). -/
theorem firstClamped_some (before : ∀ j < k, f.entries.getD j 0 ≤ cx) (within : k < f.entries.length)
    (above : cx < f.entries.getD k 0) : firstClamped f cx = some (f.first + k) := by
  have first : (f.entries.findIdx? fun x => decide (cx < x)) = some k := by
    refine List.findIdx?_eq_some_iff_getElem.2 ⟨within, ?_, fun j hj => ?_⟩
    · rw [← List.getD_eq_getElem _ 0]
      exact decide_eq_true above
    · rw [← List.getD_eq_getElem _ 0, decide_eq_true_iff]
      exact Nat.not_lt.2 (before j hj)
  rw [firstClamped, first]
  rfl

end

/-! ## The reply -/

/-- OK where every entry fits; else CLAMPED, and NOMINATION-CLAMPED raised once with the first clamped slot (R102,
R103). -/
def Told (f : NominateFields) (s : State) (code : ResultCode) (d : Cnu) : Prop :=
  ((∀ x ∈ f.entries, x ≤ s.exs.config.capacity) → code = .ok ∧ d = s.cnu) ∧
  ∀ k : Nat, (∀ j < k, f.entries.getD j 0 ≤ s.exs.config.capacity) → k < f.count →
    s.exs.config.capacity < f.entries.getD k 0 →
    code = .clamped ∧ RaisedOnce condNominationClamped (f.first + k) s.sck.pos s.cnu d

/-- The end of NOMINATE and NOMINATE-AMEND from the tables `e` (R102, R103). -/
theorem nominationDone_tells {f : NominateFields} (sized : f.entries.length = f.count) (q : List Byte) (e : Exs)
    (s : State) : ∃ code d, nominationDone q (firstClamped f s.exs.config.capacity) { s with exs := e } =
      .done code q { s with exs := e, cnu := d } ∧ Told f s code d := by
  cases clamped : firstClamped f s.exs.config.capacity with
  | none =>
    refine ⟨.ok, s.cnu, rfl, fun _ => ⟨rfl, rfl⟩, fun k before within above => ?_⟩
    rw [firstClamped_some before (sized ▸ within) above] at clamped
    cases clamped
  | some slot =>
    refine ⟨.clamped, _, rfl, fun fits => ?_, fun k before within above => ⟨rfl, ?_⟩⟩
    · rw [firstClamped_none fits] at clamped
      cases clamped
    · rw [firstClamped_some before (sized ▸ within) above] at clamped
      cases clamped
      exact raisedOnce_raiseCond ..

/-- NEXT is not EMPTY where some slot is written (R102). -/
theorem any_written_iff {v : Vector Bool 96} : v.toList.any id = true ↔ ∃ i : Fin 96, v[i] = true := by
  simp only [List.any_eq_true, Vector.mem_toList_iff, id]
  constructor
  · rintro ⟨_, member, written⟩
    obtain ⟨i, hi, rfl⟩ := Vector.mem_iff_getElem.1 member
    exact ⟨⟨i, hi⟩, written⟩
  · rintro ⟨i, written⟩
    exact ⟨_, Vector.getElem_mem i.2, written⟩

theorem nextStatusCode_eq (e : Exs) : nextStatusCode e =
    if ∀ i : Fin 96, e.written[i] = true then 2 else if ∃ i : Fin 96, e.written[i] = true then 1 else 0 := by
  simp only [nextStatusCode, nextComplete_iff, any_written_iff]

/-! ## The requests -/

section
variable {f : NominateFields} {s : State}

/-- The tables as NOMINATE leaves them (R102). -/
def nominatedExs (f : NominateFields) (e : Exs) : Exs :=
  { e with
    nextTab := writeEntries f e.config.capacity e.nextTab
    written := each e.written fun i w => w || coversSlot f i }

theorem nominatedExs_written (f e) (i : Fin 96) : (nominatedExs f e).written[i] = true ↔
    e.written[i] = true ∨ f.first ≤ i.1 ∧ i.1 < f.first + f.count := by
  simp only [nominatedExs, each_getElem, Bool.or_eq_true, coversSlot_iff]

theorem judgeNominate_permitted (first : f.first ≤ 95) (low : 1 ≤ f.count) (high : f.count ≤ 48)
    (sum : f.first + f.count ≤ 96) : judgeNominate f s =
      nominationDone (encCode (nextStatusCode (nominatedExs f s.exs))) (firstClamped f s.exs.config.capacity)
        { s with exs := nominatedExs f s.exs } := by
  unfold judgeNominate
  rw [if_neg (by omega), if_neg (by omega)]
  rfl

theorem judgeNominateAmend_permitted (valid : s.exs.plan = .valid) (later : (currentSlot s).1 < f.first)
    (low : 1 ≤ f.count) (high : f.count ≤ 48) (sum : f.first + f.count ≤ 96) : judgeNominateAmend f s =
      nominationDone [] (firstClamped f s.exs.config.capacity)
        { s with exs := { s.exs with current := writeEntries f s.exs.config.capacity s.exs.current } } := by
  unfold judgeNominateAmend
  rw [if_neg (not_not.2 valid), if_neg (by omega), if_neg (by omega)]

end

/-- Settles O41: NOMINATE and NOMINATE-AMEND write the slots that they cover, and tell of the first clamp. -/
theorem nominationsWritten : Obligations.NominationsWritten := by
  intro s p heard
  refine ⟨fun f parsed first low high sum => ?_, fun parsed => ?_⟩
  · have sized := parseNominate_length parsed
    intro cx covered fits told
    refine ⟨?_, fun plan => ?_, fun valid early => ?_, fun valid later => ?_⟩
    · obtain ⟨code, d, done, tells⟩ :=
        nominationDone_tells sized (encCode (nextStatusCode (nominatedExs f s.exs))) (nominatedExs f s.exs) s
      have judged := (judgeNominate_permitted first low high sum).trans done
      rw [nextStatusCode_eq] at judged
      exact ⟨_, _, code, d, answers_of_done (by decide) heard parsed judged rfl,
        fun i => writeEntries_slot sized s.exs.nextTab i, nominatedExs_written f s.exs, tells⟩
    · exact declines_of_refuse (by decide) heard parsed (if_pos plan) rfl
    · have refuse : judgeNominateAmend f s = rangeItem 1 := (if_neg (not_not.2 valid)).trans (if_pos early)
      exact declines_of_refuse (by decide) heard parsed refuse rfl
    · obtain ⟨code, d, done, tells⟩ := nominationDone_tells sized []
        { s.exs with current := writeEntries f s.exs.config.capacity s.exs.current } s
      have judged := (judgeNominateAmend_permitted valid later low high sum).trans done
      exact ⟨_, code, d, answers_of_done (by decide) heard parsed judged rfl,
        fun i => writeEntries_slot sized s.exs.current i, tells⟩
  · have read : parseNone p = some () := by rw [parsed]; rfl
    exact answers_of_done (judge := judgeNominateCancel) (by decide) heard read rfl rfl

end Sys2Proof.Machine
end

section
/-!
EXPORT-SET, CURTAIL, EXPORT-ARM, EXPORT-HALT and EXPORT-RELEASE: what they write of the EXS, and the demand record that
each forms afresh (R101, R107, R108, R110, R112, R115).
-/
namespace Sys2Proof.Machine

/-! ## EXPORT-SET and CURTAIL -/

section
variable {f : ExportSetFields} {s : State}

theorem parseExportSet_floor {p : List Byte} (h : parseExportSet p = some f) : f.floorWh ≤ 16777215 := by
  simp only [parseExportSet, Option.bind_eq_bind, Option.bind_eq_some_iff, Prod.exists, ending_eq_some] at h
  obtain ⟨_, _, -, _, _, -, _, _, -, floor, _, read, _, _, -, _, _, -, _, _, -, _, _, -, _, _, -, rfl, -⟩ := h
  exact Nat.le_of_lt_succ (u24_eq_some.1 read).1

theorem exportItemFailing_eq_none (etaLow : 100 ≤ f.eta) (etaHigh : f.eta ≤ 900) (capacity : f.capacity ≤ 500000)
    (tolLow : 1 ≤ f.tolerance) (tolHigh : f.tolerance ≤ 500) (floorLow : 1 ≤ f.floorWh)
    (floorHigh : f.floorWh ≤ 16777215) (devLow : 1 ≤ f.devLimit) (devHigh : f.devLimit ≤ 15)
    (pairs : f.recoveryPairs ≤ 31) (halt : f.haltOnDev < 2) (grace : f.graceSlots ≤ 8) : exportItemFailing f = none := by
  unfold exportItemFailing
  rw [if_neg (by omega), if_neg (by omega), if_neg (by omega), if_neg (by omega), if_neg (by omega), if_neg (by omega),
    if_neg (by omega), if_neg (by omega)]

/-- The configuration that EXPORT-SET spells, with this GRID-HOLD line (Table 6-1). -/
def exportConfigOf (f : ExportSetFields) (line : Option (Fin 8)) : ExportConfig :=
  { eta := f.eta, capacity := f.capacity, tolerance := f.tolerance, floorWh := f.floorWh, devLimit := f.devLimit,
    recoveryPairs := f.recoveryPairs, haltOnDev := decide (f.haltOnDev = 0), graceSlots := f.graceSlots,
    gridHold := line }

/-- EXPORT-SET with every item permitted (R101). -/
theorem judgeExportSet_permitted (allowed : s.lkp.mode = .setup ∨ s.exs.phase = .idle)
    (passed : exportItemFailing f = none) (line : ∀ l ∈ f.gridHold, l < 8) : ∃ x : Option (Fin 8),
      judgeExportSet f s =
        okWith [] (formRecord { s with exs := { s.exs with config := exportConfigOf f x } }) ∧
      x.map Fin.val = f.gridHold := by
  have free : ¬ (s.lkp.mode = .run ∧ s.exs.phase ≠ .idle) := by
    rintro ⟨run, busy⟩
    obtain setup | idle := allowed
    · rw [run] at setup
      cases setup
    · exact busy idle
  unfold judgeExportSet
  rw [if_neg free, passed]
  dsimp only
  cases grid : f.gridHold with
  | none => exact ⟨none, rfl, rfl⟩
  | some l =>
    have read : asFin 8 l = some ⟨l, line l grid⟩ := asFin_eq_some.2 rfl
    dsimp only
    rw [read]
    exact ⟨some ⟨l, line l grid⟩, rfl, rfl⟩

end

/-! ## Changes of the export state -/

section
variable {s : State} {st : ExportState}

@[simp] theorem changeExport_deviations (st k time s) :
    (changeExport st k time s).exs.deviations = s.exs.deviations := by
  rw [changeExport_exs]
  split <;> rfl

/-- A change of the export state that is one: a change that enters or leaves PASSIVE makes the recovery count 0 (R110,
R121). -/
theorem changeExport_moved (other : s.exs.phase ≠ st) (k time) : (changeExport st k time s).exs =
    { s.exs with
      phase := st, recoveries := if s.exs.phase = .passive ∨ st = .passive then 0 else s.exs.recoveries } := by
  rw [changeExport_exs, if_neg other]
  simp only [touchesPassive, Bool.or_eq_true, decide_eq_true_eq]

theorem changeExport_recoveries (other : s.exs.phase ≠ st) (k time) : (changeExport st k time s).exs.recoveries =
    if s.exs.phase = .passive ∨ st = .passive then 0 else s.exs.recoveries := by
  rw [changeExport_moved other]

/-- From `s` to `t` the export state and its counts are set and the demand record is formed; of the rest, only captures
and conditions have changed (R110, R112). -/
def Redirected (s t : State) (phase : ExportState) (deviations recoveries : Nat) : Prop :=
  t.exs = { s.exs with
    phase := phase, deviations := deviations, recoveries := recoveries, record := formedRecord t } ∧
  t = { s with exs := t.exs, cnu := t.cnu, sck := { s.sck with units := t.sck.units, log := t.sck.log } }

/-- A change of the export state with the counts set after it. -/
theorem redirected_changeExport (other : s.exs.phase ≠ st) (k time) (deviations recoveries : Nat) :
    Redirected s (formRecord { changeExport st k time s with exs := { (changeExport st k time s).exs with
      deviations := deviations, recoveries := recoveries } }) st deviations recoveries := by
  have exs := changeExport_moved other k time
  obtain ⟨_, _, _, _, frame⟩ := exports_changeExport st k time s
  rw [frame] at exs ⊢
  dsimp only at exs
  subst exs
  exact ⟨rfl, rfl⟩

/-- EXPORT-ARM from IDLE or PASSIVE in RUN (R107). -/
theorem judgeExportArm_moves (run : s.lkp.mode = .run) (origin : s.exs.phase = .idle ∨ s.exs.phase = .passive) :
    ∃ t, judgeExportArm () s = okWith [] t ∧
      Redirected s t .armed s.exs.deviations (if s.exs.phase = .passive then 0 else s.exs.recoveries) := by
  have other : s.exs.phase ≠ .armed := by
    intro armed
    rw [armed] at origin
    exact absurd origin (by decide)
  have moved : Redirected s (formRecord (changeExport .armed 0 s.sck.pos s)) .armed
      (changeExport .armed 0 s.sck.pos s).exs.deviations (changeExport .armed 0 s.sck.pos s).exs.recoveries :=
    redirected_changeExport other ..
  rw [changeExport_deviations, changeExport_recoveries other] at moved
  refine ⟨_, if_neg ?_, by simpa only [reduceCtorEq, or_false] using moved⟩
  rintro (setup | ⟨notIdle, notPassive⟩)
  · rw [run] at setup
    cases setup
  · exact origin.elim notIdle notPassive

/-- EXPORT-HALT from ARMED, ACTIVE or PASSIVE (R108). -/
theorem judgeExportHalt_moves (origin : s.exs.phase ≠ .idle ∧ s.exs.phase ≠ .halted) :
    ∃ t, judgeExportHalt () s = okWith [] t ∧ Redirected s t .halted s.exs.deviations 0 := by
  have moved := redirected_changeExport origin.2 0 s.sck.pos (changeExport .halted 0 s.sck.pos s).exs.deviations 0
  refine ⟨_, if_neg (not_or.2 origin), ?_⟩
  rw [← changeExport_deviations]
  exact moved

/-- EXPORT-RELEASE from HALTED (R108). -/
theorem judgeExportRelease_moves (halted : s.exs.phase = .halted) :
    ∃ t, judgeExportRelease () s = okWith [] t ∧ Redirected s t .idle 0 s.exs.recoveries := by
  have other : s.exs.phase ≠ .idle := by
    rw [halted]
    decide
  have kept : (changeExport .idle 0 s.sck.pos s).exs.recoveries = s.exs.recoveries := by
    rw [changeExport_recoveries other, halted]
    rfl
  have moved := redirected_changeExport other 0 s.sck.pos 0 (changeExport .idle 0 s.sck.pos s).exs.recoveries
  refine ⟨_, if_neg (not_not.2 halted), ?_⟩
  rw [← kept]
  exact moved

end

/-- Settles O40: the fields that each request writes, with the demand record formed of the state that it leaves. -/
theorem exportDirected : Obligations.ExportDirected := by
  intro s p heard moved
  refine ⟨fun f parsed => ⟨fun run busy => ?_, ?_⟩, fun cap slots parsed => ⟨fun high => ?_, ?_, ?_⟩, fun empty => ?_⟩
  · exact declines_of_refuse (by decide) heard parsed (if_pos ⟨run, busy⟩) rfl
  · intro allowed etaLow etaHigh capacity tolLow tolHigh floorLow devLow devHigh pairs halt grace line
    obtain ⟨x, judged, spelled⟩ := judgeExportSet_permitted allowed
      (exportItemFailing_eq_none etaLow etaHigh capacity tolLow tolHigh floorLow (parseExportSet_floor parsed) devLow
        devHigh pairs halt grace) line
    exact ⟨_, answers_of_done (by decide) heard parsed judged rfl, rfl, spelled, rfl⟩
  · exact declines_of_refuse (by decide) heard parsed (if_pos high) rfl
  · intro low high
    have refuse : judgeCurtail (cap, slots) s = rangeItem 2 := (if_neg (Nat.not_lt.2 low)).trans (if_pos high)
    exact declines_of_refuse (by decide) heard parsed refuse rfl
  · intro low few
    have judged : judgeCurtail (cap, slots) s = okWith [] _ :=
      (if_neg (Nat.not_lt.2 low)).trans (if_neg (Nat.not_lt.2 few))
    exact ⟨_, answers_of_done (by decide) heard parsed judged rfl, rfl⟩
  · have read : parseNone p = some () := by rw [empty]; rfl
    refine ⟨fun refuses => ?_, fun run idle => ?_, fun run passive => ?_, fun refuses => ?_, fun active => ?_,
      fun other => ?_, fun halted => ?_⟩
    · refine declines_of_refuse (judge := judgeExportArm) (by decide) heard read (if_pos ?_) rfl
      refine refuses.imp_right fun among => ?_
      exact ⟨fun idle => absurd (idle ▸ among) (by decide), fun passive => absurd (passive ▸ among) (by decide)⟩
    · obtain ⟨t, judged, redirected⟩ := judgeExportArm_moves run (.inl idle)
      rw [if_neg (by rw [idle]; decide)] at redirected
      exact ⟨t, answers_of_done (by decide) heard read judged rfl, redirected⟩
    · obtain ⟨t, judged, redirected⟩ := judgeExportArm_moves run (.inr passive)
      rw [if_pos passive] at redirected
      exact ⟨t, answers_of_done (by decide) heard read judged rfl, redirected⟩
    · exact declines_of_refuse (judge := judgeExportHalt) (by decide) heard read (if_pos refuses) rfl
    · obtain ⟨t, judged, redirected⟩ := judgeExportHalt_moves (s := s)
        ⟨fun idle => absurd (idle ▸ active) (by decide), fun halted => absurd (halted ▸ active) (by decide)⟩
      exact ⟨t, answers_of_done (by decide) heard read judged rfl, redirected⟩
    · exact declines_of_refuse (judge := judgeExportRelease) (by decide) heard read (if_pos other) rfl
    · obtain ⟨t, judged, redirected⟩ := judgeExportRelease_moves halted
      exact ⟨t, answers_of_done (by decide) heard read judged rfl, redirected⟩

end Sys2Proof.Machine
end

section
/-!
The slot end that a step boundary takes, in whatever order the blocks take it: what the EXS finds, and what is left of
its work (R5, R76, R117).
-/
namespace Sys2Proof.Machine

/-! ## What the EXS reads and writes -/

/-- What a demand record takes of a consumer (R114). -/
structure SameDemand (c d : Consumer) : Prop where
  main : d.main = c.main
  kind : d.kind = c.kind
  mc : d.mc = c.mc
  weight : d.weight = c.weight

theorem SameDemand.refl (c : Consumer) : SameDemand c c := ⟨rfl, rfl, rfl, rfl⟩
theorem SameDemand.trans {c d e : Consumer} (h : SameDemand c d) (k : SameDemand d e) : SameDemand c e :=
  ⟨k.main.trans h.main, k.kind.trans h.kind, k.mc.trans h.mc, k.weight.trans h.weight⟩
theorem SameDemand.isPower {c d : Consumer} (h : SameDemand c d) : d.isPower = c.isPower := by
  rw [Consumer.isPower, Consumer.isPower, Consumer.defined, Consumer.defined, h.main, h.kind]

/-- The EXS stands but for step items of other tags, and so does all that it reads (R112, R117). -/
structure ExportStands (tag : Tag) (s t : State) : Prop where
  exs : ∃ l, t.exs = { s.exs with stepItems := l }
  items : itemsOf tag t.exs = itemsOf tag s.exs
  pulses : t.fiu.pulses = s.fiu.pulses
  lines : t.fiu.lines = s.fiu.lines
  consumers : ∀ n : Fin 12, SameDemand s.gbu.consumers[n] t.gbu.consumers[n]

section
variable {tag : Tag} {b : Boundary} {s t u : State}

theorem ExportStands.refl (tag : Tag) (s : State) : ExportStands tag s s :=
  ⟨⟨_, rfl⟩, rfl, rfl, rfl, fun _ => .refl _⟩

theorem ExportStands.trans (h : ExportStands tag s t) (k : ExportStands tag t u) : ExportStands tag s u := by
  obtain ⟨_, first⟩ := h.exs
  obtain ⟨l, second⟩ := k.exs
  exact ⟨⟨l, by rw [second, first]⟩, k.items.trans h.items, k.pulses.trans h.pulses, k.lines.trans h.lines,
    fun n => (h.consumers n).trans (k.consumers n)⟩

theorem Expires.exportStands (h : Expires s t) : ExportStands tag s t := by
  obtain ⟨_, _, _, _, rfl⟩ := h
  exact ⟨⟨_, rfl⟩, rfl, rfl, rfl, fun _ => .refl _⟩

theorem Retires.exportStands (h : Retires s t) : ExportStands tag s t := by
  obtain ⟨_, _, _, _, rfl⟩ := h
  exact ⟨⟨_, rfl⟩, rfl, rfl, rfl, fun _ => .refl _⟩

theorem Ages.exportStands (h : Ages s t) : ExportStands tag s t := by
  obtain ⟨_, _, rfl⟩ := h
  exact ⟨⟨_, rfl⟩, rfl, rfl, rfl, fun _ => .refl _⟩

theorem Evaluates.exportStands (h : Evaluates s t) : ExportStands tag s t := by
  obtain ⟨_, _, _, _, rfl⟩ := h
  exact ⟨⟨_, rfl⟩, rfl, rfl, rfl, fun _ => .refl _⟩

/-- The items of one step stand when those of another are kept (R76). -/
theorem itemsOf_keepStepItem {i : StepItem} (other : i.tag ≠ tag) (e : Exs) :
    itemsOf tag (keepStepItem i e) = itemsOf tag e := by
  have same : ((e.stepItems.filter fun x => decide (x.tag ≠ i.tag)) ++ [i]).find? (fun x => decide (x.tag = tag)) =
      e.stepItems.find? fun x => decide (x.tag = tag) := by
    rw [List.find?_append, List.find?_filter, List.find?_singleton, if_neg (by simpa using other), Option.or_none]
    congr 1
    funext x
    by_cases h : x.tag = tag
    · simp [h, other.symm]
    · simp [h]
  unfold itemsOf keepStepItem
  rw [same]

theorem sameDemand_allocate (b s) (n : Fin 12) : SameDemand s.gbu.consumers[n] (allocate b s).gbu.consumers[n] := by
  rw [allocate_gbu, allocatedGbu_consumer, inputsOf_consumer]
  exact ⟨rfl, rfl, rfl, rfl⟩

/-- An allocation reaches of the EXS the items of the step that begins alone (R76). -/
theorem exportStands_allocate (other : b.begins ≠ b.ended) (s) : ExportStands b.ended s (allocate b s) := by
  have consumers := sameDemand_allocate b s
  obtain ⟨_, h⟩ := allocate_eq b s
  rw [h] at consumers ⊢
  exact ⟨⟨_, rfl⟩, itemsOf_keepStepItem other s.exs, rfl, rfl, consumers⟩

theorem exportStands_balanceBoundary (other : b.begins ≠ b.ended) (s) :
    ExportStands b.ended s (balanceBoundary b s) :=
  (evaluates_evaluateGrades b s).exportStands.trans (exportStands_allocate other _)

/-- What stands for the EXS forms the same record (R112). -/
theorem ExportStands.formedRecord (h : ExportStands tag s t) : formedRecord t = formedRecord s := by
  obtain ⟨l, exs⟩ := h.exs
  have power : ∀ n : Fin 12, t.gbu.consumers[n].isPower = s.gbu.consumers[n].isPower := fun n =>
    (h.consumers n).isPower
  have powers : powerConsumers t.gbu.consumers = powerConsumers s.gbu.consumers :=
    List.filter_congr fun n _ => power n
  have weight : (fun n : Fin 12 => t.gbu.consumers[n].weight.getD 0) =
      fun n : Fin 12 => s.gbu.consumers[n].weight.getD 0 := funext fun n => by rw [(h.consumers n).weight]
  have floor : ∀ gas, floorShare t.gbu.consumers gas = floorShare s.gbu.consumers gas := fun gas => funext fun n => by
    rw [floorShare, floorShare, weightSum, weightSum, powers, weight, (h.consumers n).weight]
  have share : ∀ gas n, gasShare t.gbu.consumers gas n = gasShare s.gbu.consumers gas n := fun gas n => by
    rw [gasShare, gasShare, shareRemainder, shareRemainder, floor, powers]
  have request : ∀ phase gas, powerRequest phase t.gbu.consumers gas = powerRequest phase s.gbu.consumers gas :=
    fun phase gas => funext fun n => by
      unfold powerRequest
      rw [power n]
      cases phase <;> simp only [share, (h.consumers n).mc]
  unfold Machine.formedRecord
  simp only [exs, h.lines, request]
  rfl

/-! ## The work of the EXS in a tick -/

/-- From `s` to `t` the EXS takes the boundary once, and nothing else touches what it reads and writes (R117). -/
def Exported (b : Boundary) (s t : State) : Prop :=
  ∃ a, ExportStands b.ended s a ∧ ExportStands b.ended (exportBoundary b a) t

theorem Exported.after (h : Exported b t u) (k : ExportStands b.ended s t) : Exported b s u := by
  obtain ⟨a, found, left⟩ := h
  exact ⟨a, k.trans found, left⟩

theorem Exported.before (h : Exported b s t) (k : ExportStands b.ended t u) : Exported b s u := by
  obtain ⟨a, found, left⟩ := h
  exact ⟨a, found, left.trans k⟩

theorem exported_exportBoundary (b s) : Exported b s (exportBoundary b s) := ⟨s, .refl .., .refl ..⟩

theorem exported_balanceAndExport (o) (other : b.begins ≠ b.ended) (s) : Exported b s (balanceAndExport o b s) := by
  unfold balanceAndExport
  split
  · exact (exported_exportBoundary b s).before (exportStands_balanceBoundary other _)
  · exact (exported_exportBoundary b _).after (exportStands_balanceBoundary other s)

theorem exported_timersAndBlocks (o) (other : b.begins ≠ b.ended) (s) : Exported b s (timersAndBlocks o b s) := by
  unfold timersAndBlocks
  split
  · exact (exported_balanceAndExport o other _).after (expires_stepStart s).exportStands
  · exact (exported_balanceAndExport o other s).before (expires_stepStart _).exportStands

theorem exported_takeBoundary (o) (other : nextTag s.sck ≠ s.sck.pos) :
    Exported (boundaryOf s.sck) s (takeBoundary o s) := by
  have begun : ExportStands s.sck.pos s (beginNext s) := ⟨⟨_, rfl⟩, rfl, rfl, rfl, fun _ => .refl _⟩
  unfold takeBoundary
  exact ((exported_timersAndBlocks o (b := boundaryOf s.sck) other (beginNext s)).after begun).before
    (retires_meterBoundaries ..).exportStands

theorem exported_takeCounted (o) (other : nextTag s.sck ≠ s.sck.pos) :
    Exported (boundaryOf s.sck) s (takeCounted o s) := by
  unfold takeCounted
  split
  · have clock := countDownQueue_sck s.hmu.queue.length s
    have taken := exported_takeBoundary o (s := countDownQueue s.hmu.queue.length s) (by rw [clock]; exact other)
    rw [clock] at taken
    exact taken.after (retires_countDownQueue ..).exportStands
  · exact (exported_takeBoundary o other).before (retires_countDownQueue ..).exportStands

/-- Whatever the order of the tick, the EXS takes a boundary once (R5, R117). -/
theorem exported_boundaryTick (o) (other : nextTag s.sck ≠ s.sck.pos) :
    Exported (boundaryOf s.sck) s (boundaryTick o s) := by
  rw [boundaryTick_eq]
  unfold agedFirst
  split
  · have aged := ages_agePoints s
    have clock : (agePoints s).sck = s.sck := by obtain ⟨_, _, h⟩ := aged; rw [h]
    have taken := exported_takeCounted o (s := agePoints s) (by rw [clock]; exact other)
    rw [clock] at taken
    exact taken.after aged.exportStands
  · exact (exported_takeCounted o other).before (ages_agePoints _).exportStands

end

/-! ## The slot end -/

theorem nextTag_slotEnd {c : Sck} (last : stepsPerSlot c ≤ c.pos.step + 1) : nextTag c ≠ c.pos := by
  intro same
  have slot := congrArg Tag.slot same
  rw [nextTag_cases, if_neg (Nat.not_lt.2 last)] at slot
  simp at slot

/-- The EXS with the ended step taken, and these items (R117). -/
def takenExs (b : Boundary) (item : Nat × Bool) (l : List StepItem) (e : Exs) : Exs :=
  { e with
    stepItems := l
    acc := { energy := e.acc.energy + item.1 * b.es, steps := e.acc.steps + 1,
             allSufficient := e.acc.allSufficient && item.2, lastNeff := item.1 } }

/-- The EXS takes the step that it finds, whatever step items came between (R117). -/
theorem takeStep_found {b : Boundary} {s a : State} (found : ExportStands b.ended s a) :
    ∃ l, takeStep b a.exs = takenExs b (itemsOf b.ended s.exs) l s.exs := by
  obtain ⟨_, exs⟩ := found.exs
  have taken : takeStep b a.exs = takenExs b (itemsOf b.ended a.exs) _ a.exs := rfl
  rw [taken, found.items, exs]
  exact ⟨_, rfl⟩

theorem exportBoundary_slotEnd {b : Boundary} (slotEnd : b.slotEnd = true) (s) :
    exportBoundary b s = prepareSlot b (closeSlot b { s with exs := takeStep b s.exs }) := if_pos slotEnd

/-- A due STEP_BOUNDARY that ends a slot takes the step that the EXS finds, closes the slot and prepares the next, and
of that nothing is changed after it (R5, R117). -/
theorem stepBoundary_endsSlot {s : State} (o : TickOrder) (running : s.sck.running = true)
    (ends : s.sck.endCount ≤ s.sck.ticks + 1) (last : stepsPerSlot s.sck ≤ s.sck.pos.step + 1) :
    ∃ t u l, exec (.stepBoundary o) s = .next t ∧ u.fiu.pulses = s.fiu.pulses ∧
      u.exs = takenExs (boundaryOf s.sck) (itemsOf s.sck.pos s.exs) l s.exs ∧
      ExportStands s.sck.pos (prepareSlot (boundaryOf s.sck) (closeSlot (boundaryOf s.sck) u)) t := by
  have due := (boundaryDue_iff s.sck).2 ⟨running, ends⟩
  have ticked : tick o s = boundaryTick o s := if_pos due
  obtain ⟨a, found, left⟩ := exported_boundaryTick o (nextTag_slotEnd last)
  obtain ⟨l, taken⟩ := takeStep_found found
  rw [exportBoundary_slotEnd (decide_eq_true last)] at left
  exact ⟨boundaryTick o s, { a with exs := takeStep (boundaryOf s.sck) a.exs }, l,
    congrArg Host.Outcome.next ((if_pos due).trans ticked), found.pulses, taken, left⟩

end Sys2Proof.Machine
end

section
/-!
The slot that has ended: the measurement, the verdict, the two counts and the record of stages 1 to 5 (R117 to R122).
-/
namespace Sys2Proof.Machine

/-! ## The measurement and the verdict -/

section
variable {v : Vector PulseChannel 24} {steps base : Nat} {ch : Fin 24}

theorem measureExport_unbound (h : holderOf v .exportEnergy = none) :
    measureExport v steps base = { energy := 0, implausible := none, base := base } := by
  rw [measureExport, h]

theorem measureExport_bound (h : holderOf v .exportEnergy = some ch) : measureExport v steps base =
    { energy := deltaOf v ch base * v[ch].scale
      implausible := if v[ch].limit * steps < deltaOf v ch base then some ch else none
      base := countOf v ch } := by
  rw [measureExport, h]

end

section
variable {e : Exs} {m : Measured}

theorem verdictOf_unmeasured_iff : verdictOf e m = .unmeasured ↔ m.implausible.isSome = true := by
  unfold verdictOf
  split
  · next implausible => exact ⟨fun _ => implausible, fun _ => rfl⟩
  · next plausible =>
    refine ⟨fun h => ?_, fun h => absurd h plausible⟩
    repeat' split at h
    all_goals cases h

/-- Only a slot ACTIVE at both ends is judged (R119). -/
theorem verdictOf_judged (h : verdictOf e m = .deviant ∨ verdictOf e m = .compliant) :
    e.startState = .active ∧ e.phase = .active := by
  unfold verdictOf at h
  split at h
  · simp at h
  split at h
  · assumption
  · simp at h

/-- A slot ACTIVE at both ends is judged by its deviation, unless it is UNMEASURED (R119). -/
theorem verdictOf_active (measured : verdictOf e m ≠ .unmeasured) (start : e.startState = .active)
    (phase : e.phase = .active) :
    verdictOf e m = if deviates e.config m.energy (nominatedEnergy e.acc) then .deviant else .compliant := by
  have plausible := mt verdictOf_unmeasured_iff.2 measured
  unfold verdictOf
  rw [if_neg plausible, if_pos ⟨start, phase⟩]

theorem slotSufficiency_iff {st : ExportState} :
    (slotSufficiency st e = .sufficient ↔ e.startState = .passive ∧ st = .passive ∧ e.startPlan = .valid ∧
      e.plan = .valid ∧ e.acc.allSufficient = true) ∧
    (slotSufficiency st e = .insufficient ↔ e.startState = .passive ∧ st = .passive ∧ e.startPlan = .valid ∧
      e.plan = .valid ∧ ¬ e.acc.allSufficient = true) := by
  unfold slotSufficiency
  split
  · next judged =>
    obtain ⟨start, now, startPlan, plan⟩ := judged
    cases e.acc.allSufficient <;> simp [start, now, startPlan, plan]
  · next unjudged =>
    refine ⟨⟨nofun, fun h => ?_⟩, nofun, fun h => ?_⟩
    all_goals
      obtain ⟨start, now, startPlan, plan, -⟩ := h
      exact absurd ⟨start, now, startPlan, plan⟩ unjudged

end

/-! ## The counts -/

/-- Whether a verdict brings the deviation count to its limit (R120). -/
abbrev ReachesLimit (v : Verdict) (e : Exs) : Prop := v = .deviant ∧ e.config.devLimit ≤ e.deviations + 1

/-- The deviation count after a verdict (R120). -/
def countedDeviations (v : Verdict) (count : Nat) : Nat :=
  match v with
  | .compliant => 0
  | .deviant => count + 1
  | .notExporting => count
  | .unmeasured => count

/-- The EXS after stage 3 (R120). -/
def deviationCounted (v : Verdict) (e : Exs) : Exs :=
  { e with
    deviations := countedDeviations v e.deviations
    phase := if ReachesLimit v e then (if e.config.haltOnDev then .halted else .passive) else e.phase
    recoveries := if ReachesLimit v e ∧ e.config.haltOnDev = false then 0 else e.recoveries }

section
variable {b : Boundary} {v : Verdict} {s : State} {e : Exs} {suff : Sufficiency}

theorem deviationCounted_below (h : ¬ ReachesLimit v e) :
    deviationCounted v e = { e with deviations := countedDeviations v e.deviations } := by
  unfold deviationCounted
  rw [if_neg h, if_neg fun reached => h reached.1]

/-- Stage 3 on the EXS: a verdict DEVIANT finds the EXS ACTIVE (R119, R120). -/
theorem countDeviation_exs (active : v = .deviant → s.exs.phase = .active) :
    (countDeviation b v s).exs = deviationCounted v s.exs := by
  by_cases deviant : v = .deviant
  · subst deviant
    have phase := active rfl
    rw [countDeviation_deviant]
    by_cases limit : s.exs.config.devLimit ≤ s.exs.deviations + 1
    · have reached : ReachesLimit .deviant s.exs := ⟨rfl, limit⟩
      rw [if_pos limit, changeExport_exs, deviated_exs, deviationCounted, if_pos reached]
      cases s.exs.config.haltOnDev <;> simp [phase, reached, touchesPassive, countedDeviations]
    · rw [if_neg limit, deviationCounted_below fun reached => limit reached.2]
      rfl
  · rw [deviationCounted_below fun reached => deviant reached.1]
    cases v with
    | deviant => exact absurd rfl deviant
    | _ => rfl

/-- Stage 4 writes the first half and the recovery count alone (R121). -/
theorem countRecovery_frame (b suff e) : countRecovery b suff e = { e with
    firstHalf := (countRecovery b suff e).firstHalf, recoveries := (countRecovery b suff e).recoveries } := by
  unfold countRecovery
  repeat' split
  all_goals rfl

theorem countRecovery_even (h : b.ended.slot.1 % 2 = 0) : countRecovery b suff e = { e with firstHalf := suff } :=
  if_pos h

theorem countRecovery_pair (odd : b.ended.slot.1 % 2 = 1) (h : e.firstHalf = .sufficient ∧ suff = .sufficient) :
    countRecovery b suff e =
      { e with recoveries := if e.recoveries < e.config.recoveryPairs then e.recoveries + 1 else e.recoveries } := by
  unfold countRecovery
  rw [if_neg (by omega), if_pos h]

theorem countRecovery_broken (odd : b.ended.slot.1 % 2 = 1) (h : ¬ (e.firstHalf = .sufficient ∧ suff = .sufficient)) :
    countRecovery b suff e = { e with recoveries := 0 } := by
  unfold countRecovery
  rw [if_neg (by omega), if_neg h]

end

/-! ## The record -/

section
variable (b : Boundary) (v : Vector PulseChannel 24) (e : Exs)

/-- What stage 1 finds at a slot end (R118). -/
def exportCount : Measured := measureExport v b.stepsPerSlot e.base

/-- The verdict of the ended slot (R119). -/
def slotVerdict : Verdict := verdictOf e (exportCount b v e)

/-- The EXS after stages 1 to 3 (R118 to R120). -/
def verdictExs : Exs := deviationCounted (slotVerdict b v e) { e with base := (exportCount b v e).base }

/-- The EXS after stages 1 to 4 (R118 to R121). -/
def judgedExs : Exs := countRecovery b (slotSufficiency e.phase e) (verdictExs b v e)

/-- The record that stage 5 appends (R122). -/
def closingRecord : SlotRecord :=
  { frame := b.ended.frame, slot := b.ended.slot, stateStart := e.startState, stateEnd := e.phase, planEnd := e.plan,
    neff := e.acc.lastNeff, steps := e.acc.steps, nominated := nominatedEnergy e.acc,
    measured := (exportCount b v e).energy, verdict := slotVerdict b v e, sufficiency := slotSufficiency e.phase e,
    deviations := (judgedExs b v e).deviations, recoveries := (judgedExs b v e).recoveries,
    gap := decide (16 ≤ e.log.length) }

/-- The EXS after stages 1 to 5 (R117). -/
def closedExs : Exs :=
  { judgedExs b v e with log := (if e.log.length < 16 then e.log else e.log.tail) ++ [closingRecord b v e] }

theorem judgedExs_frame : judgedExs b v e = { e with
    base := (exportCount b v e).base
    deviations := countedDeviations (slotVerdict b v e) e.deviations
    phase := (verdictExs b v e).phase
    firstHalf := (judgedExs b v e).firstHalf
    recoveries := (judgedExs b v e).recoveries } := countRecovery_frame ..

end

theorem appendSlotRecord_exs (r s) : (appendSlotRecord r s).exs = { s.exs with
    log := (if s.exs.log.length < 16 then s.exs.log else s.exs.log.tail) ++
      [{ r with gap := decide (16 ≤ s.exs.log.length) }] } := by
  have appended : (appendSlotRecord r s).exs = { s.exs with
      log := (if decide (16 ≤ s.exs.log.length) then s.exs.log.tail else s.exs.log) ++
        [{ r with gap := decide (16 ≤ s.exs.log.length) }] } := rfl
  rw [appended]
  simp only [decide_eq_true_eq, ← Nat.not_lt, ite_not]

/-- A verdict DEVIANT finds the EXS ACTIVE (R119). -/
theorem slotVerdict_deviant {b : Boundary} {v : Vector PulseChannel 24} {e : Exs} (h : slotVerdict b v e = .deviant) :
    e.phase = .active := (verdictOf_judged (.inl h)).2

/-- Stage 5, once stages 1 to 4 are done (R122). -/
theorem appendSlotRecord_closed {b : Boundary} {v : Vector PulseChannel 24} {e : Exs} {s : State}
    (judged : s.exs = judgedExs b v e) :
    (appendSlotRecord { closingRecord b v e with
      deviations := s.exs.deviations, recoveries := s.exs.recoveries, gap := false } s).exs = closedExs b v e := by
  have log : (judgedExs b v e).log = e.log := by rw [judgedExs_frame]
  rw [appendSlotRecord_exs, judged, log]
  rfl

/-- What a slot end makes of the EXS up to its record (R117). -/
theorem closeSlot_closed (b s) : (closeSlot b s).exs = closedExs b s.fiu.pulses s.exs := by
  have judged : ∀ s2 : State, s2.exs = { s.exs with base := (exportCount b s.fiu.pulses s.exs).base } →
      countRecovery b (slotSufficiency s.exs.phase s.exs)
        (countDeviation b (slotVerdict b s.fiu.pulses s.exs) s2).exs =
          judgedExs b s.fiu.pulses s.exs := fun s2 same => by
    have phase : s2.exs.phase = s.exs.phase := by rw [same]
    rw [countDeviation_exs fun deviant => phase.trans (slotVerdict_deviant deviant), same]
    rfl
  unfold closeSlot
  dsimp only
  split <;> exact appendSlotRecord_closed (judged _ rfl)

/-- What stages 1 to 5 change of the EXS (R117). -/
theorem closedExs_frame (b v e) : closedExs b v e = { e with
    base := (exportCount b v e).base
    deviations := (judgedExs b v e).deviations
    phase := (verdictExs b v e).phase
    firstHalf := (judgedExs b v e).firstHalf
    recoveries := (judgedExs b v e).recoveries
    log := (if e.log.length < 16 then e.log else e.log.tail) ++ [closingRecord b v e] } := by
  unfold closedExs
  rw [judgedExs_frame]

/-! ## What stages 3 and 4 leave -/

section
variable {b : Boundary} {v : Vector PulseChannel 24} {e : Exs}

theorem judgedExs_even (b : Boundary) (v) (e : Exs) (even : b.ended.slot.1 % 2 = 0) : (judgedExs b v e).recoveries =
    if ReachesLimit (slotVerdict b v e) e ∧ e.config.haltOnDev = false then 0 else e.recoveries := by
  rw [judgedExs, countRecovery_even even]
  rfl

/-- A SUFFICIENT slot is not DEVIANT (R119, R121). -/
theorem slotSufficiency_below (h : slotSufficiency e.phase e = .sufficient) : ¬ ReachesLimit (slotVerdict b v e) e := by
  intro reached
  have active := slotVerdict_deviant reached.1
  rw [slotSufficiency_sufficient h] at active
  cases active

/-- A pair of SUFFICIENT slots moves the recovery count (R121). -/
theorem judgedExs_pair (b : Boundary) (v) (e : Exs) (odd : b.ended.slot.1 % 2 = 1) (first : e.firstHalf = .sufficient)
    (second : slotSufficiency e.phase e = .sufficient) : (judgedExs b v e).recoveries =
      if e.recoveries < e.config.recoveryPairs then e.recoveries + 1 else e.recoveries := by
  have kept : (verdictExs b v e).recoveries = e.recoveries :=
    if_neg fun reached => slotSufficiency_below second reached.1
  have pair := congrArg Exs.recoveries (countRecovery_pair (e := verdictExs b v e) odd ⟨first, second⟩)
  dsimp only at pair
  rw [kept] at pair
  exact pair

theorem judgedExs_broken (b : Boundary) (v) (e : Exs) (odd : b.ended.slot.1 % 2 = 1)
    (broken : ¬ (e.firstHalf = .sufficient ∧ slotSufficiency e.phase e = .sufficient)) :
    (judgedExs b v e).recoveries = 0 :=
  congrArg Exs.recoveries (countRecovery_broken (e := verdictExs b v e) odd broken)

/-- A DEVIANT slot is so by its deviation, and a COMPLIANT one by its lack (R119). -/
theorem slotVerdict_active (measured : slotVerdict b v e ≠ .unmeasured) (start : e.startState = .active)
    (phase : e.phase = .active) :
    (slotVerdict b v e = .deviant ↔ deviates e.config (exportCount b v e).energy (nominatedEnergy e.acc) = true) ∧
    (slotVerdict b v e = .compliant ↔
      deviates e.config (exportCount b v e).energy (nominatedEnergy e.acc) = false) := by
  rw [slotVerdict, verdictOf_active measured start phase]
  cases deviates e.config (exportCount b v e).energy (nominatedEnergy e.acc) <;> simp

theorem judgedExs_firstHalf (b v e) : (judgedExs b v e).firstHalf =
    if b.ended.slot.1 % 2 = 0 then slotSufficiency e.phase e else e.firstHalf := by
  unfold judgedExs countRecovery
  repeat' split
  all_goals rfl

/-- PASSIVE entered by the deviation limit finds no recoveries counted (R120, R121). -/
theorem judgedExs_limit (limit : ReachesLimit (slotVerdict b v e) e) (passes : e.config.haltOnDev = false) :
    (judgedExs b v e).recoveries = 0 := by
  by_cases even : b.ended.slot.1 % 2 = 0
  · exact (judgedExs_even b v e even).trans (if_pos ⟨limit, passes⟩)
  · exact judgedExs_broken b v e (Nat.mod_two_ne_zero.1 even) fun pair => slotSufficiency_below pair.2 limit

theorem verdictExs_limit (limit : ReachesLimit (slotVerdict b v e) e) :
    (verdictExs b v e).phase = if e.config.haltOnDev then .halted else .passive := if_pos limit

theorem verdictExs_below (below : ¬ ReachesLimit (slotVerdict b v e) e) : (verdictExs b v e).phase = e.phase :=
  if_neg below

end

end Sys2Proof.Machine
end

section
/-!
The slot that begins: the plan, the curtailment, the export state and the opening of the slot, stages 6 to 10 (R104 to
R106, R109, R115, R117).
-/
namespace Sys2Proof.Machine

/-! ## The plan -/

/-- Stage 6 (R104 to R106). -/
def planStage (b : Boundary) (s : State) : State :=
  if b.rollover then rolloverPlan b.ended s else updatePlan b.ended s

/-- The plan and the tables after stage 6, where NEXT is not swapped in (R105, R106). -/
structure PlanRuns (rollover : Prop) (e x : Exs) : Prop where
  current : x.current = e.current
  next : x.nextTab = e.nextTab
  written : x.written = e.written
  stays : e.plan = .valid → ¬ rollover → x.plan = .valid
  ends : e.plan = .valid → rollover → e.config.graceSlots = 0 → x.plan = .void
  grants : e.plan = .valid → rollover → 0 < e.config.graceSlots →
    x.plan = .grace ∧ x.held = e.current[(95 : Fin 96)] ∧ x.grace = e.config.graceSlots
  counts : e.plan = .grace → x.grace = e.grace - 1 ∧ x.held = e.held ∧ x.plan = if e.grace ≤ 1 then .void else .grace
  void : e.plan = .void → x.plan = .void

section
variable {b : Boundary} {s : State}

/-- Whether stage 6 swaps NEXT in (R104 to R106). -/
abbrev Swaps (rollover : Prop) (e : Exs) : Prop := nextComplete e = true ∧ (rollover ∨ e.plan ≠ .valid)

theorem planStage_swaps (h : Swaps (b.rollover = true) s.exs) :
    (planStage b s).exs = (swapTables b.ended s).exs := by
  obtain ⟨complete, due⟩ := h
  unfold planStage
  split
  · unfold rolloverPlan
    rw [if_pos complete]
  · next within =>
    have waits := due.resolve_left within
    unfold updatePlan
    split
    · contradiction
    · rw [if_pos complete]
    · rw [if_pos complete]

/-- A plan in GRACE counts down to VOID (R106). -/
theorem planStage_grace (plan : s.exs.plan = .grace) (incomplete : ¬ nextComplete s.exs = true) :
    (planStage b s).exs =
      { s.exs with grace := s.exs.grace - 1, plan := if s.exs.grace ≤ 1 then .void else .grace } := by
  have counts : planStage b s = updatePlan b.ended s := by
    unfold planStage rolloverPlan
    rw [if_neg incomplete, plan]
    exact ite_self _
  rw [counts]
  unfold updatePlan
  rw [plan]
  dsimp only
  rw [if_neg incomplete]
  by_cases last : s.exs.grace ≤ 1
  · rw [if_pos (by omega), if_pos last]
    rfl
  · rw [if_neg (by omega), if_neg last, ← plan]

theorem planStage_void (plan : s.exs.plan = .void) (incomplete : ¬ nextComplete s.exs = true) :
    planStage b s = s := by
  unfold planStage rolloverPlan updatePlan
  rw [if_neg incomplete, plan]
  dsimp only
  rw [if_neg incomplete, ite_self]

/-- A plan in VALID lasts until the frame rollover (R105). -/
theorem planStage_within (plan : s.exs.plan = .valid) (within : b.rollover = false) : planStage b s = s := by
  unfold planStage updatePlan
  rw [within, plan]
  rfl

/-- At the rollover GRACE follows, or VOID where no grace is configured (R105). -/
theorem planStage_rollover (plan : s.exs.plan = .valid) (rolls : b.rollover = true)
    (incomplete : ¬ nextComplete s.exs = true) : (planStage b s).exs =
      if s.exs.config.graceSlots = 0 then { s.exs with plan := .void }
      else { s.exs with
        plan := .grace, held := s.exs.current[(95 : Fin 96)], grace := s.exs.config.graceSlots } := by
  unfold planStage rolloverPlan
  rw [rolls, if_pos rfl, if_neg incomplete, plan]
  dsimp only
  split <;> rfl

theorem planRuns_planStage (h : ¬ Swaps (b.rollover = true) s.exs) :
    PlanRuns (b.rollover = true) s.exs (planStage b s).exs := by
  cases plan : s.exs.plan with
  | valid =>
    cases rolls : b.rollover with
    | false =>
      rw [planStage_within plan rolls]
      refine ⟨rfl, rfl, rfl, fun _ _ => plan, fun _ => nofun, fun _ => nofun, ?_, ?_⟩
      all_goals exact fun other => absurd (plan.symm.trans other) (by decide)
    | true =>
      rw [planStage_rollover plan rolls fun complete => h ⟨complete, .inl rolls⟩]
      refine ⟨?current, ?next, ?written, fun _ within => absurd rfl within, fun _ _ none => ?ends,
        fun _ _ some => ?grants, ?counts, ?empty⟩
      case ends => rw [if_pos none]
      case grants =>
        rw [if_neg (by omega)]
        exact ⟨rfl, rfl, rfl⟩
      case counts | empty => exact fun other => absurd (plan.symm.trans other) (by decide)
      all_goals split <;> rfl
  | grace =>
    rw [planStage_grace plan fun complete => h ⟨complete, .inr (by rw [plan]; decide)⟩]
    refine ⟨rfl, rfl, rfl, ?_, ?_, ?_, fun _ => ⟨rfl, rfl, rfl⟩, ?_⟩
    all_goals exact fun other => absurd (plan.symm.trans other) (by decide)
  | void =>
    rw [planStage_void plan fun complete => h ⟨complete, .inr (by rw [plan]; decide)⟩]
    refine ⟨rfl, rfl, rfl, ?_, ?_, ?_, ?_, fun _ => plan⟩
    all_goals exact fun other => absurd (plan.symm.trans other) (by decide)

/-- Stage 6 changes the plan, its grace and the tables alone (R117). -/
theorem planStage_frame (b s) : ∃ plan current next written held grace, (planStage b s).exs = { s.exs with
    plan := plan, current := current, nextTab := next, written := written, held := held, grace := grace } := by
  have updated : ∀ s, ∃ plan current next written held grace, (updatePlan b.ended s).exs = { s.exs with
      plan := plan, current := current, nextTab := next, written := written, held := held, grace := grace } := by
    intro s
    unfold updatePlan
    dsimp only
    repeat' split
    all_goals exact ⟨_, _, _, _, _, _, rfl⟩
  unfold planStage
  split
  · unfold rolloverPlan
    repeat' split
    case h_2 => exact updated s
    all_goals exact ⟨_, _, _, _, _, _, rfl⟩
  · exact updated s

end

/-! ## The export state -/

/-- The export state that stage 8 judges (R109). -/
def settledPhase (e : Exs) : ExportState :=
  match e.phase with
  | .armed => if e.plan = .valid then .active else .armed
  | .active => if e.plan = .void then .passive else .active
  | .passive =>
    if 1 ≤ e.config.recoveryPairs ∧ e.recoveries = e.config.recoveryPairs ∧ e.plan = .valid then .active else .passive
  | .idle => .idle
  | .halted => .halted

section
variable {e : Exs}

theorem settledPhase_armed (h : e.phase = .armed) : settledPhase e = if e.plan = .valid then .active else .armed := by
  rw [settledPhase, h]
theorem settledPhase_active (h : e.phase = .active) :
    settledPhase e = if e.plan = .void then .passive else .active := by
  rw [settledPhase, h]
theorem settledPhase_passive (h : e.phase = .passive) : settledPhase e =
    if 1 ≤ e.config.recoveryPairs ∧ e.recoveries = e.config.recoveryPairs ∧ e.plan = .valid then .active
    else .passive := by
  rw [settledPhase, h]
theorem settledPhase_idle (h : e.phase = .idle) : settledPhase e = .idle := by rw [settledPhase, h]
theorem settledPhase_halted (h : e.phase = .halted) : settledPhase e = .halted := by rw [settledPhase, h]

end

/-- The EXS after stage 8 (R109, R121). -/
def settledExs (e : Exs) : Exs :=
  { e with
    phase := settledPhase e
    deviations := if settledPhase e = .active ∧ e.phase ≠ .active then 0 else e.deviations
    recoveries := if e.phase ≠ settledPhase e ∧ (e.phase = .passive ∨ settledPhase e = .passive) then 0
      else e.recoveries }

theorem settledExs_same {e : Exs} (h : settledPhase e = e.phase) : settledExs e = e := by
  have still : ¬ (e.phase = .active ∧ e.phase ≠ .active) := fun both => both.2 both.1
  unfold settledExs
  rw [h, if_neg still, if_neg fun moved => moved.1 rfl]

theorem settledExs_moved {s : State} {st : ExportState} (h : settledPhase s.exs = st) (other : s.exs.phase ≠ st)
    (left : st ≠ .active) (k time) : (changeExport st k time s).exs = settledExs s.exs := by
  rw [changeExport_moved other]
  simp only [settledExs, h, left, other, ne_eq, not_false_eq_true, true_and, false_and, if_false]

theorem enterActive_exs {s : State} (h : settledPhase s.exs = .active) (other : s.exs.phase ≠ .active) (time) :
    (enterActive time s).exs = settledExs s.exs := by
  refine (changeExport_moved (s := { s with exs := { s.exs with deviations := 0 } }) other 0 time).trans ?_
  simp only [settledExs, h, other, ne_eq, not_false_eq_true, and_self, true_and, if_true]

/-- Stage 8 on the EXS (R109). -/
theorem judgeExportState_exs (time s) : (judgeExportState time s).exs = settledExs s.exs := by
  unfold judgeExportState
  split
  · next armed =>
    have settles := settledPhase_armed armed
    split
    · next valid => exact enterActive_exs (settles.trans (if_pos valid)) (by rw [armed]; decide) _
    · next plan => exact (settledExs_same (settles.trans ((if_neg plan).trans armed.symm))).symm
  · next active =>
    have settles := settledPhase_active active
    split
    · next void => exact settledExs_moved (settles.trans (if_pos void)) (by rw [active]; decide) (by decide) ..
    · next plan => exact (settledExs_same (settles.trans ((if_neg plan).trans active.symm))).symm
  · next passive =>
    have settles := settledPhase_passive passive
    split
    · next recovered => exact enterActive_exs (settles.trans (if_pos recovered)) (by rw [passive]; decide) _
    · next short => exact (settledExs_same (settles.trans ((if_neg short).trans passive.symm))).symm
  · next idle => exact (settledExs_same ((settledPhase_idle idle).trans idle.symm)).symm
  · next halted => exact (settledExs_same ((settledPhase_halted halted).trans halted.symm)).symm

/-- The EXS as stages 6 to 10 leave it (R117). -/
theorem prepareSlot_exs (b s) : (prepareSlot b s).exs =
    { openSlot { settledExs (countCurtailment (planStage b s).exs) with
        slotInHand := (planStage b s).exs.slotInHand + 1 } with
      record := formedRecord (prepareSlot b s) } := by
  have judged := judgeExportState_exs b.ended
    { planStage b s with exs := countCurtailment (planStage b s).exs }
  unfold planStage at judged ⊢
  unfold prepareSlot
  dsimp only at judged ⊢
  rw [formRecord_exs]
  dsimp only
  rw [judged]
  rfl

/-! ## The EXS before stage 8 -/

theorem countCurtailment_curtail (e : Exs) : (countCurtailment e).curtail = match e.curtail with
    | none => none
    | some c => if c.remaining ≤ 1 then none else some { c with remaining := c.remaining - 1 } := by
  unfold countCurtailment
  cases e.curtail <;> rfl

theorem boundaryOf_rollover {c : Sck} (last : stepsPerSlot c ≤ c.pos.step + 1) :
    (boundaryOf c).rollover = true ↔ c.pos.slot.1 = 95 := by
  have slotEnd : lastOfSlot c = true := decide_eq_true last
  simp [boundaryOf, slotEnd, Fin.ext_iff]

/-- The EXS `y` that stage 8 judges, from the EXS `e` with the ended step taken: stages 1 to 5, and the countdown of
stage 7 (R115, R117). -/
structure Closes (b : Boundary) (v : Vector PulseChannel 24) (e y : Exs) : Prop where
  config : y.config = e.config
  phase : y.phase = (verdictExs b v e).phase
  deviations : y.deviations = (judgedExs b v e).deviations
  recoveries : y.recoveries = (judgedExs b v e).recoveries
  first : y.firstHalf = (judgedExs b v e).firstHalf
  slot : y.slotInHand = e.slotInHand
  curtail : y.curtail = (countCurtailment e).curtail
  base : y.base = (exportCount b v e).base
  log : y.log = (if e.log.length < 16 then e.log else e.log.tail) ++ [closingRecord b v e]

/-- The plan and the tables that stage 8 finds (R104 to R106). -/
structure PlanSettles (rollover : Prop) (e y : Exs) : Prop where
  swaps : Swaps rollover e → y.plan = .valid ∧ y.current = e.nextTab ∧ y.nextTab = Vector.replicate 96 0 ∧
    y.written = Vector.replicate 96 false
  runs : ¬ Swaps rollover e → PlanRuns rollover e y

/-- The EXS as stage 8 finds it. -/
def unjudgedExs (b : Boundary) (s : State) : Exs := countCurtailment (planStage b s).exs

section
variable {b : Boundary} {s : State} {v : Vector PulseChannel 24} {e : Exs}

theorem closes_unjudgedExs (closed : s.exs = closedExs b v e) : Closes b v e (unjudgedExs b s) := by
  obtain ⟨_, _, _, _, _, _, plan⟩ := planStage_frame b s
  rw [closed, closedExs_frame] at plan
  unfold unjudgedExs
  rw [plan]
  exact ⟨rfl, rfl, rfl, rfl, rfl, rfl, rfl, rfl, rfl⟩

theorem planSettles_unjudgedExs (closed : s.exs = closedExs b v e) :
    PlanSettles (b.rollover = true) e (unjudgedExs b s) := by
  have swapped := planStage_swaps (b := b) (s := s)
  have runs := planRuns_planStage (b := b) (s := s)
  rw [swapTables_exs, closed, closedExs_frame] at swapped
  rw [closed, closedExs_frame] at runs
  refine ⟨fun swaps => ?_, fun stays => { runs stays with }⟩
  unfold unjudgedExs
  rw [swapped swaps]
  exact ⟨rfl, rfl, rfl, rfl⟩

end

/-- The EXS of `t` is `y` with stage 8 taken, a fresh demand record, and the next slot opened (R109, R112, R117). -/
structure Opens (y : Exs) (t : State) : Prop where
  phase : t.exs.phase = settledPhase y
  deviations : t.exs.deviations = (settledExs y).deviations
  recoveries : t.exs.recoveries = (settledExs y).recoveries
  slot : t.exs.slotInHand = y.slotInHand + 1
  acc : t.exs.acc = SlotAccumulators.zero
  startState : t.exs.startState = t.exs.phase
  startPlan : t.exs.startPlan = t.exs.plan
  record : t.exs.record = formedRecord t
  config : t.exs.config = y.config
  plan : t.exs.plan = y.plan
  current : t.exs.current = y.current
  next : t.exs.nextTab = y.nextTab
  written : t.exs.written = y.written
  held : t.exs.held = y.held
  grace : t.exs.grace = y.grace
  curtail : t.exs.curtail = y.curtail
  first : t.exs.firstHalf = y.firstHalf
  base : t.exs.base = y.base
  log : t.exs.log = y.log

theorem opens_prepareSlot {b : Boundary} {s t : State} {tag : Tag} (left : ExportStands tag (prepareSlot b s) t) :
    Opens (unjudgedExs b s) t := by
  have record := left.formedRecord
  obtain ⟨l, exs⟩ := left.exs
  have opened : t.exs = { openSlot { settledExs (unjudgedExs b s) with
      slotInHand := (unjudgedExs b s).slotInHand + 1 } with record := formedRecord t, stepItems := l } := by
    rw [exs, record, prepareSlot_exs]
    rfl
  constructor <;> rw [opened] <;> rfl

/-- A due STEP_BOUNDARY that ends a slot, on the EXS: what stage 8 finds, and the slot opened on it (R109, R117). -/
theorem stepBoundary_settles {s : State} (o : TickOrder) (running : s.sck.running = true)
    (ends : s.sck.endCount ≤ s.sck.ticks + 1) (last : stepsPerSlot s.sck ≤ s.sck.pos.step + 1) :
    ∃ t y l, exec (.stepBoundary o) s = .next t ∧
      Closes (boundaryOf s.sck) s.fiu.pulses (takenExs (boundaryOf s.sck) (itemsOf s.sck.pos s.exs) l s.exs) y ∧
      PlanSettles (s.sck.pos.slot.1 = 95) s.exs y ∧ Opens y t := by
  obtain ⟨t, u, l, stepped, pulses, taken, left⟩ := stepBoundary_endsSlot o running ends last
  have closed := closeSlot_closed (boundaryOf s.sck) u
  rw [pulses, taken] at closed
  have plan := planSettles_unjudgedExs closed
  rw [boundaryOf_rollover last] at plan
  exact ⟨t, _, l, stepped, closes_unjudgedExs closed, ⟨plan.swaps, fun stays => { plan.runs stays with }⟩,
    opens_prepareSlot left⟩

/-! ## What stage 8 makes of it -/

section
variable {b : Boundary} {v : Vector PulseChannel 24} {e y : Exs}

/-- Where the deviation limit is not reached, stage 8 finds the state that the slot ended in (R109). -/
theorem Closes.stays (h : Closes b v e y) (below : ¬ ReachesLimit (slotVerdict b v e) e) : y.phase = e.phase :=
  h.phase.trans (verdictExs_below below)

/-- The state that the deviation limit enters is left by no judgement of the same slot end (R109, R120). -/
theorem Closes.limit (h : Closes b v e y) (limit : ReachesLimit (slotVerdict b v e) e) :
    settledPhase y = if e.config.haltOnDev then .halted else .passive := by
  have phase := h.phase.trans (verdictExs_limit limit)
  cases halts : e.config.haltOnDev with
  | true =>
    rw [halts] at phase
    exact settledPhase_halted phase
  | false =>
    rw [halts] at phase
    rw [settledPhase_passive phase, h.recoveries, judgedExs_limit limit halts]
    exact if_neg fun recovered => by omega

/-- A slot end that leaves the EXS ACTIVE has not reached the limit (R120). -/
theorem Closes.below_of_active (h : Closes b v e y) (active : settledPhase y = .active) :
    ¬ ReachesLimit (slotVerdict b v e) e := fun limit => by
  rw [h.limit limit] at active
  split at active <;> cases active

theorem settledPhase_recovers (h : e.phase = .passive) :
    (settledPhase e = .active ↔
      1 ≤ e.config.recoveryPairs ∧ e.recoveries = e.config.recoveryPairs ∧ e.plan = .valid) ∧
    (settledPhase e = .active ∨ settledPhase e = .passive) := by
  rw [settledPhase_passive h]
  split
  · next recovered => exact ⟨⟨fun _ => recovered, fun _ => rfl⟩, .inl rfl⟩
  · next short => exact ⟨⟨nofun, fun recovered => absurd recovered short⟩, .inr rfl⟩

/-- ACTIVE entered by stage 8 begins without deviations (R109). -/
theorem Closes.deviations_settled (h : Closes b v e y) :
    (settledPhase y = .active → e.phase ≠ .active → (settledExs y).deviations = 0) ∧
    (¬ (settledPhase y = .active ∧ e.phase ≠ .active) → (settledExs y).deviations = (judgedExs b v e).deviations) := by
  constructor
  · intro active other
    refine if_pos ⟨active, ?_⟩
    rwa [h.stays (h.below_of_active active)]
  · intro kept
    refine (if_neg fun entered => ?_).trans h.deviations
    rw [h.stays (h.below_of_active entered.1)] at entered
    exact kept entered

theorem Closes.recoveries_settled (h : Closes b v e y) : (settledExs y).recoveries =
    if (verdictExs b v e).phase ≠ settledPhase y ∧
        ((verdictExs b v e).phase = .passive ∨ settledPhase y = .passive) then 0
    else (judgedExs b v e).recoveries := by
  rw [← h.phase, ← h.recoveries]
  rfl

end

end Sys2Proof.Machine
end

section
/-!
The slot end: the record of the slot that has ended, and what the EXS is when the next slot begins (R104 to R106, R109,
R112, R115, R117 to R122).
-/
namespace Sys2Proof.Machine

/-- Settles O42: the record that closes the slot, by its measurement, its verdict, its sufficiency and its counts. -/
theorem slotsJudged : Obligations.SlotsJudged := by
  intro s o running ends last e item v
  obtain ⟨t, y, l, stepped, closes, -, opens⟩ := stepBoundary_settles o running ends last
  set b := boundaryOf s.sck
  set x := takenExs b item l e
  have base := opens.base.trans closes.base
  have frame := judgedExs_frame b v x
  obtain ⟨sufficient, insufficient⟩ := slotSufficiency_iff (e := x) (st := e.phase)
  have both : x.acc.allSufficient = true ↔ e.acc.allSufficient = true ∧ item.2 = true := Bool.and_eq_true_iff
  rw [both] at sufficient insufficient
  refine ⟨t, stepped, closingRecord b v x, opens.log.trans closes.log, rfl, rfl, rfl, rfl, rfl, rfl, rfl,
    decide_eq_true_iff, rfl, fun unbound => ?_, fun ch bound => ?_, verdictOf_judged, fun measured start phase => ?_,
    congrArg Exs.deviations frame, sufficient, insufficient, judgedExs_even b v x, judgedExs_pair b v x,
    judgedExs_broken b v x⟩
  · have count : exportCount b v x = _ := measureExport_unbound unbound
    refine ⟨congrArg Measured.energy count, fun unmeasured => ?_, base.trans ?_⟩
    · have implausible := verdictOf_unmeasured_iff.1 unmeasured
      rw [count] at implausible
      cases implausible
    · exact congrArg Measured.base count
  · have count : exportCount b v x = _ := measureExport_bound bound
    refine ⟨congrArg Measured.energy count, base.trans ?_, verdictOf_unmeasured_iff.trans ?_⟩
    · exact congrArg Measured.base count
    · rw [count]
      dsimp only
      split
      · next beyond => exact ⟨fun _ => beyond, fun _ => rfl⟩
      · next within => exact ⟨nofun, fun beyond => absurd beyond within⟩
  · obtain ⟨deviant, compliant⟩ := slotVerdict_active (e := x) measured start phase
    exact ⟨deviant.trans decide_eq_true_iff, compliant.trans (decide_eq_false_iff_not.trans Nat.not_lt)⟩

/-- Settles O43: the plan of stage 6, the state that stage 8 judges on what stages 3 and 4 leave, and the two counts. -/
theorem slotEndsSettle : Obligations.SlotEndsSettle := by
  intro s o running ends last e complete rollover swaps
  obtain ⟨t, y, l, stepped, closes, plan, opens⟩ := stepBoundary_settles o running ends last
  set b := boundaryOf s.sck
  set x := takenExs b (itemsOf s.sck.pos s.exs) l e
  have swaps_iff : swaps ↔ Swaps rollover e := and_congr_left' (nextComplete_iff e).symm
  obtain ⟨entered, kept⟩ := closes.deviations_settled
  rw [← opens.deviations, ← opens.phase] at entered kept
  refine ⟨t, stepped, closingRecord b s.fiu.pulses x, ?_, ?_, opens.acc, opens.startState, opens.startPlan,
    opens.record, opens.config.trans closes.config, fun swap => ?_, fun stay => ?_, ?_, fun limit => ?_,
    fun below => ?_, entered, kept, ?_, ?_⟩
  · rw [opens.log, closes.log, List.getLast?_concat]
  · exact opens.slot.trans (congrArg (· + 1) closes.slot)
  · rw [opens.plan, opens.current, opens.next, opens.written]
    exact plan.swaps (swaps_iff.1 swap)
  · obtain ⟨current, next, written, stays, ends, grants, counts, void⟩ := plan.runs (mt swaps_iff.2 stay)
    rw [opens.plan, opens.current, opens.next, opens.written, opens.held, opens.grace]
    exact ⟨current, next, written, stays, ends, grants, counts, void⟩
  · exact opens.curtail.trans (closes.curtail.trans (countCurtailment_curtail x))
  · exact opens.phase.trans (closes.limit limit)
  · have phase : y.phase = e.phase := closes.stays below
    have config : y.config = e.config := closes.config
    have recoveries : y.recoveries = (closingRecord b s.fiu.pulses x).recoveries := closes.recoveries
    rw [opens.phase, opens.plan, ← phase, ← config, ← recoveries]
    exact ⟨settledPhase_idle, settledPhase_halted, settledPhase_armed, settledPhase_active, settledPhase_recovers⟩
  · rw [opens.recoveries, opens.phase]
    exact closes.recoveries_settled
  · exact opens.first.trans (closes.first.trans (judgedExs_firstHalf b s.fiu.pulses x))

end Sys2Proof.Machine
end

section
/-!
METER-SET, METER-KEY and METER-CONFIRM write their fields (R127 to R129).
-/
namespace Sys2Proof.Machine

/-- The widths of METER-SET's fields on the line (R165). -/
theorem parseMeterSet_range {p f} (h : parseMeterSet p = some f) :
    f.k < 65536 ∧ f.limit < 16777216 ∧ f.key < 16777216 := by
  simp only [parseMeterSet, Option.bind_eq_bind, Option.bind_eq_some_iff, Prod.exists, u16_eq_some, u24_eq_some,
    ending_eq_some] at h
  obtain ⟨_, _, _, _, _, _, _, _, ⟨k, _⟩, _, _, ⟨limit, _⟩, _, _, ⟨key, _⟩, rfl, _⟩ := h
  exact ⟨k, limit, key⟩

theorem meterItemFailing_eq_none {f : MeterSetFields} (kLow : 1 ≤ f.k) (k : f.k < 65536) (limitLow : 1 ≤ f.limit)
    (limit : f.limit < 16777216) (key : f.key < 16777216) : meterItemFailing f = none := by
  unfold meterItemFailing
  rw [if_neg (by omega), if_neg (by omega), if_neg (by omega)]

/-- The meter as METER-SET configures it, before its fresh start (R127). -/
def meterSetTo (f : MeterSetFields) (x : Meter) : Meter :=
  { x with used := decide (f.use = 0), k := f.k, limit := f.limit, key := f.key }

/-- METER-SET in SETUP with permitted fields is carried out (R127). -/
theorem judgeMeterSet_permitted {s : State} {f : MeterSetFields} {m : Fin 16} (mode : s.lkp.mode = .setup)
    (hm : f.meter = m.1) (use : f.use < 2) (items : meterItemFailing f = none) :
    judgeMeterSet f s = okWith [] (setMeter m (freshMeter s.fiu.pulses (holderOf s.fiu.pulses (.heatFlow m))
      (meterSetTo f s.hmu.meters[m])) s) := by
  unfold judgeMeterSet
  rw [unlessRun_setup mode, hm, asFin_val, firstOfTwo_eq_some use, items]
  rfl

/-- The baseline and the litres that a fresh start takes: those of the channel that counts, if any (R127). -/
theorem freshMeter_eq (v : Vector PulseChannel 24) (ch : Option (Fin 24)) (x : Meter) :
    freshMeter v ch x = { x with
      base := ch.elim x.base (countOf v), litres := ch.elim x.litres fun c => v[c].scale
      carry := 0, pendingSteps := 0, lagged := false } := by
  cases ch <;> rfl

theorem judgeMeterKey_permitted {s : State} {m : Fin 16} (key : Nat) :
    judgeMeterKey (m.1, key) s = okWith [] (setMeter m { s.hmu.meters[m] with key := key } s) := by
  unfold judgeMeterKey
  rw [asFin_val]

/-- Settles O44: each request by its checks; the fresh start by whether a channel holds the flow role. -/
theorem metersSet : Obligations.MetersSet := by
  unfold Obligations.MetersSet
  intro s p m heard v x
  refine ⟨fun f mode parsed hm use kLow limitLow => ?_, fun key parsed => ?_, fun k parsed => ⟨fun beyond => ?_, ?_⟩⟩
  · obtain ⟨k, limit, key⟩ := parseMeterSet_range parsed
    have judged := judgeMeterSet_permitted mode hm use (meterItemFailing_eq_none kLow k limitLow limit key)
    rw [freshMeter_eq] at judged
    refine ⟨_, _, answers_of_done (by decide) heard parsed judged rfl, fun ch bound => ?_, fun unbound => ?_⟩
    · rw [bound]
      exact ⟨rfl, rfl⟩
    · rw [unbound]
      exact ⟨rfl, rfl⟩
  · exact answers_of_done (by decide) heard parsed (judgeMeterKey_permitted key) rfl
  · exact declines_of_refuse (by decide) heard parsed (if_pos (by omega)) rfl
  · exact fun low high => answers_of_done (by decide) heard parsed (if_neg (by omega)) rfl

end Sys2Proof.Machine
end

section
/-!
The end of a reply, the warm reset and the cold reset (R140, R168, R173, R174).
-/
namespace Sys2Proof.Machine

/-! ## The configuration of the capture units -/

/-- Every capture unit stands but for its armed mark (R14). -/
def UnitsKept (s t : State) : Prop :=
  ∀ n : Fin 4, { t.sck.units[n] with armed := false } = { s.sck.units[n] with armed := false }

section
variable {s t u : State}

theorem unitsKept_of_same (h : t.sck.units = s.sck.units) : UnitsKept s t := fun n => by rw [h]

theorem UnitsKept.trans (h : UnitsKept s t) (k : UnitsKept t u) : UnitsKept s u := fun n => (k n).trans (h n)

theorem Retires.unitsKept (h : Retires s t) : UnitsKept s t := unitsKept_of_same (by rw [h.logs.1])

/-- A trigger applies the mode of its unit alone (R14). -/
theorem unitsKept_triggerUnit (i c s) : UnitsKept s (triggerUnit i c s) := by
  cases armed : s.sck.units[i].armed with
  | false =>
    rw [triggerUnit_idle armed]
    exact unitsKept_of_same rfl
  | true =>
    rw [triggerUnit_armed armed]
    intro n
    show { (put s.sck.units i _)[n] with armed := false } = _
    obtain rfl | other := eq_or_ne i n
    · rw [put_getElem_self]
    · rw [put_getElem_ne _ _ other]

theorem unitsKept_triggerUnits (p c s) : UnitsKept s (triggerUnits p c s) :=
  foldl_related (fun _ => unitsKept_of_same rfl) .trans (fun s i => by
    split
    · exact unitsKept_triggerUnit i c s
    · exact unitsKept_of_same rfl) _ s

/-- A change of the export state reaches the units as a trigger (R110). -/
theorem unitsKept_changeExport (st k t s) : UnitsKept s (changeExport st k t s) := by
  unfold changeExport
  split
  · exact unitsKept_of_same rfl
  · exact .trans (unitsKept_of_same rfl) (unitsKept_triggerUnits _ _ _)

theorem unitsKept_modeStop (s) : UnitsKept s (modeStop s) := by
  have exported : UnitsKept (allocationStopped s) (blocksStopped s) :=
    (unitsKept_changeExport .idle 0 (allocationStopped s).sck.pos (allocationStopped s)).trans (unitsKept_of_same rfl)
  have begun : UnitsKept s (allocationStopped s) := unitsKept_of_same rfl
  exact (begun.trans exported).trans (retires_flushQueue (blocksStopped s)).unitsKept

end

/-! ## The warm reset -/

/-- The part stopped before a warm reset: by MODE-STOP's effects, or in SETUP by the flush (R140, R173). -/
def resetStopped (s : State) : State :=
  match s.lkp.mode with
  | .run => modeStop s
  | .setup => flushQueue s

/-- What stopping leaves of the clock's timers and units, and of the link (R172, R173). -/
theorem resetStopped_frame (s : State) :
    (resetStopped s).lkp.lsel = s.lkp.lsel ∧ (resetStopped s).sck.timers = s.sck.timers ∧
      UnitsKept s (resetStopped s) := by
  unfold resetStopped
  split
  · have units := unitsKept_modeStop s
    obtain ⟨_, _, _, _, _, _, frame⟩ := modeStop_frame s
    exact ⟨by rw [frame], by rw [frame]; rfl, units⟩
  · have flushed := retires_flushQueue s
    exact ⟨by rw [flushed.ticks.2.1], by rw [flushed.logs.1], flushed.unitsKept⟩

/-- The warm reset of a part that has stopped (R173). -/
theorem warmReset_eq (s : State) : warmReset s = { resetStopped s with
    cnu := clearConds (BitVec.allOnes 32) (resetStopped s).cnu
    abu := { (resetStopped s).abu with lookaside := [] }
    sck := idleTimers (resetStopped s).sck
    fiu := { (resetStopped s).fiu with sensor := .hunting }
    lkp := { mode := .setup, rx := .hunting, answer := false, overrun := false, lsel := s.lkp.lsel, reply := none } } := by
  rw [← (resetStopped_frame s).1]
  rfl

theorem warmReset_timer (s : State) (n : Fin 4) :
    (warmReset s).sck.timers[n] = { s.sck.timers[n] with armed := false } := by
  obtain ⟨-, timers, -⟩ := resetStopped_frame s
  rw [warmReset_eq, ← timers]
  exact each_getElem ..

theorem warmReset_unit (s : State) (n : Fin 4) :
    (warmReset s).sck.units[n] = { s.sck.units[n] with armed := false } := by
  obtain ⟨-, -, units⟩ := resetStopped_frame s
  rw [warmReset_eq, ← units n]
  exact each_getElem ..

/-- CONDITION-CLEAR of every record (R173, R179). -/
theorem clearConds_all (c : Cnu) (n : Fin 32) :
    (clearConds (BitVec.allOnes 32) c).records[n] = clearRecord n c.records[n] := by
  rw [clearConds_records, each_getElem, BitVec.getLsbD_allOnes, decide_eq_true n.2, if_pos rfl]

/-! ## The end of a reply -/

theorem isRestartReply_iff {r : Option Reply} :
    isRestartReply r = true ↔ ∃ payload, r = some { kind := 0x85, code := .ok, payload := payload } := by
  cases r with
  | none => exact ⟨nofun, nofun⟩
  | some x =>
    obtain ⟨kind, code, payload⟩ := x
    simp [isRestartReply]

/-! ## The cold reset -/

/-- The event lines after a cold reset (R24). -/
theorem cold_line (lsel levels) (l : Fin 8) :
    (State.cold lsel levels).fiu.lines[l] = EventLine.cold (levelOf levels l) := by
  show (Vector.ofFn fun i => EventLine.cold (levelOf levels i))[l] = _
  simp

/-- Settles O8: the end of a reply by what the reply is, the warm reset by what has stopped before it. -/
theorem resetsLeave : Obligations.ResetsLeave := by
  unfold Obligations.ResetsLeave
  refine ⟨fun s heard => answers_of_done (kind := 0x05) (by decide) heard rfl rfl rfl, fun s => ⟨?_, ?_, ?_⟩, ?_⟩
  · intro other
    refine congrArg Host.Outcome.next (if_neg fun restarts => ?_)
    obtain ⟨payload, same⟩ := isRestartReply_iff.1 restarts
    exact other payload same
  · intro payload restarts
    exact congrArg Host.Outcome.next (if_pos (isRestartReply_iff.2 ⟨payload, restarts⟩))
  · refine ⟨warmReset s, rfl, ?_, warmReset_timer s, warmReset_unit s, fun n => ?_, clearConds_follow ..⟩
    · exact warmReset_eq s
    · exact clearConds_all (resetStopped s).cnu n
  · intro s lsel levels
    refine ⟨{ State.cold lsel levels with pending := s.pending }, rfl, rfl, fun l => ?_, rfl, rfl, rfl, rfl, rfl, rfl,
      rfl, rfl, rfl, rfl, rfl, fun n => ?_, fun i => ?_, fun ch => ?_⟩
    · exact ⟨congrArg EventLine.debounced (cold_line lsel levels l), congrArg EventLine.raw (cold_line lsel levels l)⟩
    · show (Vector.ofFn CondRecord.cold)[n].active = false
      simp [CondRecord.cold]
    · show (Vector.replicate 256 DirEntry.cold)[i].valid = false
      simp [DirEntry.cold]
    · show (Vector.replicate 24 PulseChannel.cold)[ch].counter = 0
      simp [PulseChannel.cold]

end Sys2Proof.Machine
end

section
/-!
A lone reading that finishes: its fields, its retirement and its booking, at the tick that expires it and at the notice
that confirms it (R135 to R139).
-/
namespace Sys2Proof.Machine

/-! ## The finished fields -/

section
variable {r : Reading} {m : Meter} {ts tr : Int × Quality}

/-- An EMPTY point gives no drop (R138, step 3). -/
theorem finishedFields_empty (h : ts.2 = .empty ∨ tr.2 = .empty) :
    (finishedFields r m ts tr).1.deltaT = 0 ∧ (finishedFields r m ts tr).1.reverse = false := by
  have drop : temperatureDrop ts tr = 0 := if_pos h
  unfold finishedFields
  rw [drop]
  exact ⟨rfl, rfl⟩

/-- Where neither point is EMPTY, the drop floored at 0, and its sign (R138). -/
theorem finishedFields_drop (hs : ts.2 ≠ .empty) (hr : tr.2 ≠ .empty) :
    ((finishedFields r m ts tr).1.deltaT : Int) = max 0 (ts.1 - tr.1) ∧
      ((finishedFields r m ts tr).1.reverse = true ↔ ts.1 < tr.1) := by
  have drop : temperatureDrop ts tr = ts.1 - tr.1 := if_neg (not_or.2 ⟨hs, hr⟩)
  unfold finishedFields
  rw [drop]
  refine ⟨?_, decide_eq_true_iff.trans sub_neg⟩
  rw [Int.toNat_eq_max, max_comm]

/-- The heat, floored to kJ, and the carry that it leaves (R138). -/
theorem finishedFields_carry (r : Reading) (m : Meter) (ts tr : Int × Quality) :
    let x := finishedFields r m ts tr
    x.1.kJ * 100000 + x.2 = r.litres * x.1.deltaT * m.k + m.carry ∧ x.2 < 100000 :=
  ⟨Nat.div_add_mod' .., Nat.mod_lt _ (by decide)⟩

end

/-! ## What a finishing and a booking reach -/

section
variable {r : Reading} {f : Finished} {s t : State}

theorem finishReading_reverse (r s) : (finishReading r s).2.cnu.records[condDeltaTReverse] =
    if (finishedFields r s.hmu.meters[r.meter] (pointValue s.fiu.points (.supplyTemp r.meter))
      (pointValue s.fiu.points (.returnTemp r.meter))).1.reverse
    then raiseRecord r.meter.1 s.sck.pos s.cnu.records[condDeltaTReverse] else s.cnu.records[condDeltaTReverse] := by
  unfold finishReading
  dsimp only
  split
  · exact put_getElem_self ..
  · rfl

/-- A booking raises UNASSIGNED-KEY at most (R157). -/
theorem bookReading_others (r f s) : OthersStand [condUnassignedKey] s.cnu (bookReading r f s).cnu := by
  unfold bookReading
  dsimp only
  repeat' split
  · exact raiseCond_others _ _ _ _
  · exact raiseCond_others _ _ _ _
  · exact raiseCond_others _ _ _ _
  · exact fun _ _ => rfl

/-- What a booking makes of the ABU rests on the ABU alone (R155). -/
theorem bookReading_abu (h : t.abu = s.abu) : (bookReading r f t).abu = (bookReading r f s).abu := by
  have same : t = { t with abu := s.abu } := by rw [← h]
  rw [same]
  unfold bookReading
  split
  · rfl
  · dsimp only
    split
    · rfl
    · split <;> rfl

/-- A lone reading that is ready finishes, retires and is booked (R137, R139). -/
theorem settleQueue_lone (queue : s.hmu.queue = [.reading r]) (waiting : r.finished = none) (ready : r.ready = true) :
    settleQueue s =
      let f := (finishedFields r s.hmu.meters[r.meter] (pointValue s.fiu.points (.supplyTemp r.meter))
        (pointValue s.fiu.points (.returnTemp r.meter))).1
      setQueue [] (bookReading { r with finished := some f } f (finishReading r s).2) := by
  have passed : finishPass false [.reading r] [] s = ([.reading (finishReading r s).1], (finishReading r s).2) := by
    simp only [finishPass, waiting, ready, Option.isSome_none, Bool.false_eq_true, if_false, Bool.false_or,
      List.contains_nil, Bool.not_false, Bool.and_self, if_true]
  unfold settleQueue
  rw [queue, passed, finishReading_fst]
  rfl

/-! ## A lone reading finished -/

/-- State `t` is what `s` becomes where its lone reading finishes as `last`, with the supply point `ts` and the return
point `tr` (R138, R139). -/
def LoneFinished (s t : State) (ts tr : SamplePoint) (last : Reading) : Prop :=
  ∃ (f : Finished) (carry : Nat),
    let x := s.hmu.meters[last.meter]
    let reverse := s.cnu.records[condDeltaTReverse]
    t.hmu.queue = [] ∧ t.hmu.meters = put s.hmu.meters last.meter { x with carry := carry } ∧
    f.ts = ts.value ∧ f.tr = tr.value ∧
    f.estimated = !(last.supplyFresh && last.returnFresh) ∧
    (ts.quality = .empty ∨ tr.quality = .empty → f.deltaT = 0 ∧ f.reverse = false) ∧
    (ts.quality ≠ .empty → tr.quality ≠ .empty →
      (f.deltaT : Int) = max 0 (ts.value - tr.value) ∧ (f.reverse = true ↔ ts.value < tr.value)) ∧
    f.kJ * 100000 + carry = last.litres * f.deltaT * x.k + x.carry ∧ carry < 100000 ∧
    f.recovered = f.kJ * last.rho / 1000 ∧ f.supplementary = f.kJ - f.recovered ∧
    (f.reverse = false → t.cnu.records[condDeltaTReverse] = reverse) ∧
    (f.reverse = true → t.cnu.records[condDeltaTReverse] = { reverse with
      active := true, count := min (reverse.count + 1) 255
      source := if reverse.active then reverse.source else last.meter.1
      time := if reverse.active then reverse.time else s.sck.pos }) ∧
    t.abu = (bookReading { last with finished := some f } f s).abu

/-- What a finishing reads of the state but for the sample points (R138). -/
structure HeatStands (s t : State) : Prop where
  meters : t.hmu.meters = s.hmu.meters
  abu : t.abu = s.abu
  pos : t.sck.pos = s.sck.pos
  reverse : t.cnu.records[condDeltaTReverse] = s.cnu.records[condDeltaTReverse]

/-- A setting event of a LATCHED record, item by item (R177). -/
theorem raiseRecord_eq (source : Nat) (time : Tag) (c : CondRecord) : raiseRecord source time c = { c with
    active := true, count := min (c.count + 1) 255
    source := if c.active then c.source else source
    time := if c.active then c.time else time } := by
  obtain ⟨active, _, _, _, _, _⟩ := c
  cases active <;> rfl

/-- What a finishing reads of a point (R138). -/
def readPoint (p : SamplePoint) : Int × Quality := (p.value, p.quality)

theorem pointValue_bound {v : Vector SamplePoint 32} {role : PointRole} {sp : Fin 32} (h : pointOf v role = some sp) :
    pointValue v role = readPoint v[sp] := by
  unfold pointValue
  rw [h]
  rfl

/-- A queue settled with a lone ready reading, from a state that stands for `s` (R137 to R139). -/
theorem loneFinished_settleQueue {last : Reading} {sup ret : Fin 32} (stands : HeatStands s t)
    (queue : t.hmu.queue = [.reading last]) (waiting : last.finished = none) (ready : last.ready = true)
    (hsup : pointOf t.fiu.points (.supplyTemp last.meter) = some sup)
    (hret : pointOf t.fiu.points (.returnTemp last.meter) = some ret) :
    LoneFinished s (settleQueue t) t.fiu.points[sup] t.fiu.points[ret] last := by
  obtain ⟨meters, abu, pos, reverse⟩ := stands
  have settled := settleQueue_lone queue waiting ready
  have record := finishReading_reverse last t
  have written : (finishReading last t).2.hmu.meters = _ := finishReading_meters last t
  rw [pointValue_bound hsup, pointValue_bound hret, meters] at settled record written
  rw [pos, reverse, raiseRecord_eq] at record
  obtain ⟨energy, low⟩ := finishedFields_carry last s.hmu.meters[last.meter] (readPoint t.fiu.points[sup])
    (readPoint t.fiu.points[ret])
  have empty := finishedFields_empty (r := last) (m := s.hmu.meters[last.meter]) (ts := readPoint t.fiu.points[sup])
    (tr := readPoint t.fiu.points[ret])
  have drop := finishedFields_drop (r := last) (m := s.hmu.meters[last.meter]) (ts := readPoint t.fiu.points[sup])
    (tr := readPoint t.fiu.points[ret])
  set x := finishedFields last s.hmu.meters[last.meter] (readPoint t.fiu.points[sup]) (readPoint t.fiu.points[ret])
  have booked := bookReading_others { last with finished := some x.1 } x.1 (finishReading last t).2 condDeltaTReverse
    (by decide)
  rw [settled]
  refine ⟨x.1, x.2, rfl, ?_, rfl, rfl, rfl, empty, drop, energy, low, rfl, rfl,
    fun forward => ?_, fun negative => ?_, ?_⟩
  · rw [setQueue_hmu, bookReading_hmu]
    exact written
  · rw [setQueue_cnu, booked, record, if_neg (Bool.eq_false_iff.1 forward)]
  · rw [setQueue_cnu, booked, record, if_pos negative]
  · exact bookReading_abu ((finishReading_abu last t).trans abu)

end

/-! ## The tick that expires it -/

section
variable {s : State} {r : Reading}

theorem agePoint_value (p : SamplePoint) : (agePoint p).value = p.value := by
  by_cases h : p.quality = .empty
  · rw [agePoint_empty h]
  · rw [agePoint_eq h]

theorem agePoint_role (p : SamplePoint) : (agePoint p).role = p.role := by
  by_cases h : p.quality = .empty
  · rw [agePoint_empty h]
  · rw [agePoint_eq h]

/-- Ageing makes no point EMPTY, and none otherwise (R33). -/
theorem agePoint_empty_iff (p : SamplePoint) : (agePoint p).quality = .empty ↔ p.quality = .empty := by
  by_cases h : p.quality = .empty
  · rw [agePoint_empty h]
  · rw [agePoint_eq h]
    refine iff_of_false ?_ h
    dsimp only
    split
    · decide
    · split
      · decide
      · exact h

/-- A reading finishes alike with its points aged or not (R33, R138). -/
theorem LoneFinished.of_aged {t : State} {ts tr : SamplePoint} (h : LoneFinished s t (agePoint ts) (agePoint tr) r) :
    LoneFinished s t ts tr r := by
  unfold LoneFinished at h
  simp only [agePoint_value, agePoint_empty_iff, ne_eq] at h
  exact h

/-- A point holds a role before and after a change of the points that keeps their roles (R30). -/
theorem pointOf_congr {v w : Vector SamplePoint 32} (h : ∀ sp : Fin 32, w[sp].role = v[sp].role) (role : PointRole) :
    pointOf w role = pointOf v role := by
  unfold pointOf
  simp only [h]

theorem expiryDue_lone (queue : s.hmu.queue = [.reading r]) :
    expiryDue 0 s.hmu.queue = (r.finished.isNone && !r.expired && decide (r.remaining ≤ 1)) := by
  rw [queue]
  rfl

/-- The points aged at a tick within a step, before the readings are counted down (R3, R33, R136). -/
def tickAged (s : State) : State :=
  agePoints { s with sck := { s.sck with ticks := if s.sck.running then s.sck.ticks + 1 else 0, phaseMs := 0 } }

theorem heatStands_tickAged (s) : HeatStands s (tickAged s) :=
  ⟨rfl, rfl, rfl, followSamples_others _ condDeltaTReverse (by decide)⟩

theorem plainTick_eq (s : State) : plainTick s = countDownQueue s.hmu.queue.length (tickAged s) := rfl

/-- The last count of a WAITING reading (R136). -/
theorem countDown_last (waiting : r.finished = none) (counting : r.expired = false) (due : r.remaining ≤ 1) :
    countDown r = { r with remaining := r.remaining - 1, expired := true } := by
  unfold countDown
  rw [waiting, counting, decide_eq_true due]
  rfl

/-- A lone reading that a tick within a step expires is finished at it (R136 to R139). -/
theorem loneFinished_plainTick {sup ret : Fin 32} (queue : s.hmu.queue = [.reading r]) (waiting : r.finished = none)
    (counting : r.expired = false) (due : r.remaining ≤ 1)
    (hsup : pointOf s.fiu.points (.supplyTemp r.meter) = some sup)
    (hret : pointOf s.fiu.points (.returnTemp r.meter) = some ret) :
    LoneFinished s (plainTick s) s.fiu.points[sup] s.fiu.points[ret]
      { r with remaining := r.remaining - 1, expired := true } := by
  have aged (sp : Fin 32) : (tickAged s).fiu.points[sp] = agePoint s.fiu.points[sp] := agedFields_point s.fiu sp
  have bound (role : PointRole) : pointOf (tickAged s).fiu.points role = pointOf s.fiu.points role :=
    pointOf_congr (fun sp => by rw [aged, agePoint_role]) role
  have counted : mapReadings countDown ((tickAged s).hmu.queue.take s.hmu.queue.length) ++
      (tickAged s).hmu.queue.drop s.hmu.queue.length =
        [.reading { r with remaining := r.remaining - 1, expired := true }] := by
    rw [← countDown_last waiting counting due, show (tickAged s).hmu.queue = s.hmu.queue from rfl, queue]
    rfl
  obtain ⟨meters, abu, pos, reverse⟩ := heatStands_tickAged s
  refine LoneFinished.of_aged ?_
  rw [plainTick_eq, ← aged, ← aged]
  unfold countDownQueue
  rw [counted]
  exact loneFinished_settleQueue ⟨meters, abu, pos, reverse⟩ rfl waiting (Bool.or_true _) ((bound _).trans hsup)
    ((bound _).trans hret)

end

/-! ## The notice that confirms it -/

section
variable {s : State} {r : Reading} {sup ret sp : Fin 32} {value : Int}

theorem heatStands_goodTaken (sp value s) : HeatStands s (goodTaken sp value s) :=
  ⟨rfl, rfl, rfl, followSamples_others (setPoint sp _ (setSensor .hunting s)) condDeltaTReverse (by decide)⟩

theorem goodTaken_role (sp value s) (k : Fin 32) :
    (goodTaken sp value s).fiu.points[k].role = s.fiu.points[k].role := by
  show (put s.fiu.points sp _)[k].role = _
  obtain rfl | other := eq_or_ne sp k
  · rw [put_getElem_self]
  · rw [put_getElem_ne _ _ other]

theorem freshNotice_fiu (role s) : (freshNotice role s).fiu = s.fiu := by
  obtain ⟨_, _, _, _, h⟩ := retires_freshNotice role s
  rw [h]

/-- A lone reading that the notice of a GOOD record makes ready is finished at it (R31, R135 to R139). -/
theorem loneFinished_takeGood {last : Reading} (queue : s.hmu.queue = [.reading r])
    (hsup : pointOf s.fiu.points (.supplyTemp r.meter) = some sup)
    (hret : pointOf s.fiu.points (.returnTemp r.meter) = some ret)
    (reaches : noticeReaches s.fiu.points[sp].role s.hmu.meters = true)
    (marked : markFresh s.fiu.points[sp].role r = last) (same : last.meter = r.meter) (still : last.finished = none)
    (ready : last.ready = true) :
    let t := takeGood sp value (setSensor .hunting s)
    t.fiu.points[sp].quality = .good ∧ LoneFinished s t t.fiu.points[sup] t.fiu.points[ret] last := by
  have bound (role : PointRole) : pointOf (goodTaken sp value s).fiu.points role = pointOf s.fiu.points role :=
    pointOf_congr (goodTaken_role sp value s) role
  have fresh : mapReadings (markFresh s.fiu.points[sp].role) (goodTaken sp value s).hmu.queue = [.reading last] := by
    rw [← marked, show (goodTaken sp value s).hmu.queue = s.hmu.queue from rfl, queue]
    rfl
  have noticed : takeGood sp value (setSensor .hunting s) =
      settleQueue (setQueue [.reading last] (goodTaken sp value s)) := by
    rw [takeGood_eq, ← fresh]
    exact if_pos reaches
  have points := freshNotice_fiu s.fiu.points[sp].role (goodTaken sp value s)
  obtain ⟨meters, abu, pos, reverse⟩ := heatStands_goodTaken sp value s
  dsimp only
  rw [takeGood_eq, points, ← takeGood_eq, noticed]
  refine ⟨congrArg SamplePoint.quality (put_getElem_self ..), ?_⟩
  exact loneFinished_settleQueue (t := setQueue [.reading last] (goodTaken sp value s)) ⟨meters, abu, pos, reverse⟩ rfl
    still ready (same ▸ (bound _).trans hsup) (same ▸ (bound _).trans hret)

end

/-- Settles O46: a lone reading finished by the tick that expires it and by the notice that confirms it. -/
theorem readingsFinish : Obligations.ReadingsFinish := by
  unfold Obligations.ReadingsFinish
  intro s r sup ret queue hsup hret finishes
  refine ⟨fun o => ⟨fun stays => ?_, fun waiting counting due within => ?_⟩,
    fun a hi lo crc sp hsp hcrc hunting waiting used => ?_⟩
  · refine congrArg Host.Outcome.next (if_neg ?_)
    rw [expiryDue_lone queue]
    simp only [Bool.and_eq_true, Option.isNone_iff_eq_none, Bool.not_eq_true', decide_eq_true_eq]
    rintro ⟨⟨waiting, counting⟩, due⟩
    obtain finished | expired | later := stays
    · exact finished waiting
    · exact absurd (expired.symm.trans counting) (by decide)
    · exact absurd due (Nat.not_le.2 later)
  · have expires : expiryDue 0 s.hmu.queue = true := by
      rw [expiryDue_lone queue, waiting, counting, decide_eq_true due]
      rfl
    have ticked : tick o s = plainTick s := if_neg fun ends => within ((boundaryDue_iff s.sck).1 ends)
    refine ⟨plainTick s, congrArg Host.Outcome.next ((if_pos expires).trans ticked), ?_⟩
    exact loneFinished_plainTick queue waiting counting due hsup hret
  · have judged := record_judged (hi := hi) (lo := lo) (status := 0x00) (crc := crc) (a := a) (.inl hunting)
    rw [judgeRecord_passed hsp hcrc, if_pos rfl] at judged
    obtain ⟨supplies, -⟩ := pointOf_eq_some.1 hsup
    obtain ⟨returns, -⟩ := pointOf_eq_some.1 hret
    refine ⟨?_, ?_⟩
    · rintro rfl fresh
      refine ⟨_, judged, loneFinished_takeGood (last := { r with supplyFresh := true }) queue hsup hret ?_ ?_ rfl
        waiting ?_⟩
      · rw [supplies]
        exact used
      · rw [supplies]
        simp [markFresh, waiting]
      · simp [Reading.ready, fresh]
    · rintro rfl fresh
      refine ⟨_, judged, loneFinished_takeGood (last := { r with returnFresh := true }) queue hsup hret ?_ ?_ rfl
        waiting ?_⟩
      · rw [returns]
        exact used
      · rw [returns]
        simp [markFresh, waiting]
      · simp [Reading.ready, fresh]

end Sys2Proof.Machine
end

section
/-!
The turns of the meters at a step boundary: what each forms or defers, and what the turns of the others leave (R133,
R134).
-/
namespace Sys2Proof.Machine

/-! ## One turn -/

/-- The meter with the ended step pending (R133). -/
def stepPending (x : Meter) : Meter := { x with pendingSteps := min (x.pendingSteps + 1) 65535 }

/-- Whether a meter has pulses to form a reading of (R133). -/
def hasPulses (s : State) (m : Fin 16) : Bool := s.hmu.meters[m].used && decide (0 < meterDelta s m)

section
variable {tag : Tag} {s t u : State} {m k : Fin 16} {ch : Fin 24}

theorem meterDelta_bound (h : holderOf s.fiu.pulses (.heatFlow m) = some ch) :
    meterDelta s m = deltaOf s.fiu.pulses ch s.hmu.meters[m].base := by
  unfold meterDelta
  rw [h]

theorem meterDelta_unbound (h : holderOf s.fiu.pulses (.heatFlow m) = none) : meterDelta s m = 0 := by
  unfold meterDelta
  rw [h]

theorem meterCount_bound (h : holderOf s.fiu.pulses (.heatFlow m) = some ch) :
    meterCount s m = countOf s.fiu.pulses ch := by
  unfold meterCount
  rw [h]

theorem hasPulses_iff : hasPulses s m = true ↔ s.hmu.meters[m].used = true ∧
    ∃ c ∈ holderOf s.fiu.pulses (.heatFlow m), 0 < deltaOf s.fiu.pulses c s.hmu.meters[m].base := by
  unfold hasPulses
  rw [Bool.and_eq_true, decide_eq_true_iff]
  refine and_congr_right fun _ => ?_
  cases bound : holderOf s.fiu.pulses (.heatFlow m) with
  | none => simp [meterDelta_unbound bound]
  | some c => simp [meterDelta_bound bound]

theorem meterBoundary_unused (unused : s.hmu.meters[m].used = false) : meterBoundary tag s m = s := by
  unfold meterBoundary
  dsimp only
  rw [unused]
  rfl

/-- A USED meter without pulses has one more step pending (R133). -/
theorem meterBoundary_still (used : s.hmu.meters[m].used = true) (still : meterDelta s m = 0) :
    meterBoundary tag s m = setMeter m (stepPending s.hmu.meters[m]) s := by
  unfold meterBoundary
  dsimp only
  rw [if_neg (by rw [used]; decide), if_pos still]
  rfl

/-- One with pulses where the queue is full is deferred (R134). -/
theorem meterBoundary_full (pulses : hasPulses s m = true) (full : 64 ≤ s.hmu.queue.length) :
    meterBoundary tag s m =
      (setMeter m { stepPending s.hmu.meters[m] with lagged := true } s).raise condRetireLag m.1 tag := by
  obtain ⟨used, delta⟩ := Bool.and_eq_true_iff.1 pulses
  unfold meterBoundary Config.retireQueueSize
  dsimp only
  rw [if_neg (by rw [used]; decide), if_neg (Nat.pos_iff_ne_zero.1 (of_decide_eq_true delta)), if_pos full]
  rfl

/-- One with pulses where there is room forms a reading, and its baseline moves (R133). -/
theorem meterBoundary_room (pulses : hasPulses s m = true) (room : s.hmu.queue.length < 64) :
    meterBoundary tag s m =
      setQueue (s.hmu.queue ++ [.reading (formedReading tag m (stepPending s.hmu.meters[m]) (meterDelta s m)
          (rhoOfStep s.gbu tag) s.hmu.confirmS)])
        (setMeter m { stepPending s.hmu.meters[m] with base := meterCount s m, pendingSteps := 0, lagged := false } s) := by
  obtain ⟨used, delta⟩ := Bool.and_eq_true_iff.1 pulses
  unfold meterBoundary Config.retireQueueSize
  dsimp only
  rw [if_neg (by rw [used]; decide), if_neg (Nat.pos_iff_ne_zero.1 (of_decide_eq_true delta)),
    if_neg (Nat.not_le.2 room)]
  rfl

theorem meterDelta_of_still (used : s.hmu.meters[m].used = true) (h : hasPulses s m = false) : meterDelta s m = 0 := by
  unfold hasPulses at h
  rw [used, Bool.true_and, decide_eq_false_iff_not] at h
  omega

/-- A turn appends a reading where its meter has pulses and the queue has room (R133, R134). -/
theorem meterBoundary_length (tag s m) : (meterBoundary tag s m).hmu.queue.length =
    if hasPulses s m = true ∧ s.hmu.queue.length < 64 then s.hmu.queue.length + 1 else s.hmu.queue.length := by
  cases used : s.hmu.meters[m].used with
  | false =>
    rw [meterBoundary_unused used, if_neg]
    rintro ⟨pulses, -⟩
    exact absurd (used.symm.trans (hasPulses_iff.1 pulses).1) (by decide)
  | true =>
    cases pulses : hasPulses s m with
    | false =>
      rw [meterBoundary_still used (meterDelta_of_still used pulses), if_neg nofun]
      rfl
    | true =>
      obtain room | full := Nat.lt_or_ge s.hmu.queue.length 64
      · rw [meterBoundary_room pulses room, if_pos ⟨rfl, room⟩]
        exact List.length_append
      · rw [meterBoundary_full pulses full, if_neg fun h => Nat.not_lt.2 full h.2]
        rfl

/-! ## The turns of other meters -/

/-- What the turns of meters other than `m` leave: meter `m`, all that its turn reads, the queue but for entries
appended, and RETIRE-LAG where it is active. -/
structure OtherTurns (m : Fin 16) (s t : State) : Prop where
  meter : t.hmu.meters[m] = s.hmu.meters[m]
  pulses : t.fiu.pulses = s.fiu.pulses
  gbu : t.gbu = s.gbu
  confirm : t.hmu.confirmS = s.hmu.confirmS
  grows : ∃ l, t.hmu.queue = s.hmu.queue ++ l
  lag : s.cnu.records[condRetireLag].active = true → t.cnu.records[condRetireLag].active = true

theorem OtherTurns.refl (m : Fin 16) (s : State) : OtherTurns m s s :=
  ⟨rfl, rfl, rfl, rfl, ⟨[], (List.append_nil _).symm⟩, id⟩

theorem OtherTurns.trans (h : OtherTurns m s t) (k : OtherTurns m t u) : OtherTurns m s u := by
  obtain ⟨l, first⟩ := h.grows
  obtain ⟨l', second⟩ := k.grows
  exact ⟨k.meter.trans h.meter, k.pulses.trans h.pulses, k.gbu.trans h.gbu, k.confirm.trans h.confirm,
    ⟨l ++ l', by rw [second, first, List.append_assoc]⟩, fun active => k.lag (h.lag active)⟩

/-- A meter's pulses are there before and after the turns of others. -/
theorem OtherTurns.hasPulses (h : OtherTurns m s t) : hasPulses t m = hasPulses s m := by
  unfold Machine.hasPulses meterDelta
  rw [h.meter, h.pulses]

theorem otherTurns_meterBoundary (tag s) (other : k ≠ m) : OtherTurns m s (meterBoundary tag s k) := by
  cases used : s.hmu.meters[k].used with
  | false =>
    rw [meterBoundary_unused used]
    exact .refl m s
  | true =>
    cases pulses : Machine.hasPulses s k with
    | false =>
      rw [meterBoundary_still used (meterDelta_of_still used pulses)]
      exact ⟨put_getElem_ne _ _ other, rfl, rfl, rfl, ⟨[], (List.append_nil _).symm⟩, id⟩
    | true =>
      obtain room | full := Nat.lt_or_ge s.hmu.queue.length 64
      · rw [meterBoundary_room pulses room]
        exact ⟨put_getElem_ne _ _ other, rfl, rfl, rfl, ⟨_, rfl⟩, id⟩
      · rw [meterBoundary_full pulses full]
        refine ⟨put_getElem_ne _ _ other, rfl, rfl, rfl, ⟨[], (List.append_nil _).symm⟩, fun _ => ?_⟩
        exact (raisedOnce_raiseCond condRetireLag k.1 tag s.cnu).1

theorem otherTurns_turns {l : List (Fin 16)} (h : m ∉ l) (tag s) : OtherTurns m s (l.foldl (meterBoundary tag) s) := by
  induction l generalizing s with
  | nil => exact .refl m s
  | cons k l ih =>
    obtain ⟨here, later⟩ := not_or.1 (List.mem_cons.not.1 h)
    exact (otherTurns_meterBoundary tag s (Ne.symm here)).trans (ih later _)

/-- The queue is full after some turns where what it held and a reading for each of their meters with pulses fill it
(R133, R134). -/
theorem turns_full {l : List (Fin 16)} (once : l.Nodup) (tag s) :
    64 ≤ (l.foldl (meterBoundary tag) s).hmu.queue.length ↔ 64 ≤ s.hmu.queue.length + l.countP (hasPulses s) := by
  induction l generalizing s with
  | nil => rfl
  | cons k l ih =>
    obtain ⟨here, once⟩ := List.nodup_cons.1 once
    have rest : l.countP (hasPulses (meterBoundary tag s k)) = l.countP (hasPulses s) :=
      List.countP_congr fun j hj => by
        rw [(otherTurns_meterBoundary tag s (ne_of_mem_of_not_mem hj here).symm).hasPulses]
    rw [List.foldl_cons, ih once, rest, meterBoundary_length, List.countP_cons]
    cases hasPulses s k with
    | false => rw [if_neg nofun, if_neg nofun, Nat.add_zero]
    | true =>
      simp only [true_and, if_true]
      split <;> omega

end

/-! ## The turn of one meter among the others -/

/-- The meters whose turn comes before that of `m`, and those after it. -/
def metersBelow (m : Fin 16) : List (Fin 16) := (List.finRange 16).filter (· < m)
def metersAbove (m : Fin 16) : List (Fin 16) := (List.finRange 16).filter (m < ·)

theorem meters_split : ∀ m : Fin 16, List.finRange 16 = metersBelow m ++ m :: metersAbove m := by decide
theorem not_mem_metersBelow (m : Fin 16) : m ∉ metersBelow m := by simp [metersBelow]
theorem not_mem_metersAbove (m : Fin 16) : m ∉ metersAbove m := by simp [metersAbove]

/-- The readings that a boundary forms before the turn of meter `m` where there is room (R133). -/
theorem countP_metersBelow (s : State) (m : Fin 16) : (metersBelow m).countP (hasPulses s) =
    (List.finRange 16).countP fun k => decide (k < m ∧ s.hmu.meters[k].used = true ∧
      ∃ c ∈ holderOf s.fiu.pulses (.heatFlow k), 0 < deltaOf s.fiu.pulses c s.hmu.meters[k].base) := by
  unfold metersBelow
  rw [List.countP_filter]
  refine List.countP_congr fun k _ => ?_
  rw [Bool.and_eq_true, hasPulses_iff, decide_eq_true_iff, decide_eq_true_iff, and_comm]

theorem countP_metersBelow_lt (s : State) (m : Fin 16) : (metersBelow m).countP (hasPulses s) < 16 := by
  have split := congrArg List.length (meters_split m)
  rw [List.length_finRange, List.length_append, List.length_cons] at split
  have few := List.countP_le_length (p := hasPulses s) (l := metersBelow m)
  omega

/-- The turn of meter `m`, which the turns of the others surround (R133). -/
theorem meterBoundaries_turn (b : Boundary) (s : State) (m : Fin 16) : ∃ u, OtherTurns m s u ∧
    OtherTurns m (meterBoundary b.ended u m) (meterBoundaries b s) ∧
    (64 ≤ u.hmu.queue.length ↔ 64 ≤ s.hmu.queue.length + (metersBelow m).countP (hasPulses s)) := by
  refine ⟨(metersBelow m).foldl (meterBoundary b.ended) s, otherTurns_turns (not_mem_metersBelow m) b.ended s, ?_, ?_⟩
  · unfold meterBoundaries
    rw [meters_split m, List.foldl_append, List.foldl_cons]
    exact otherTurns_turns (not_mem_metersAbove m) b.ended _
  · exact turns_full ((List.nodup_finRange 16).filter _) b.ended s

end Sys2Proof.Machine
end

section
/-!
What a step boundary leaves of the meters, in whatever order the parts of its tick come (R5, R133, R134, R136).
-/
namespace Sys2Proof.Machine

/-! ## The queue settled: what it takes of its readings -/

section
variable {q : List RetireEntry} {r : Reading} {s t u : State}

/-- A pass finds the same readings ready whatever the points hold (R137). -/
theorem finishPass_waiting (force q w s t) :
    (finishPass force q w s).1.map isWaiting = (finishPass force q w t).1.map isWaiting := by
  induction q generalizing w s t with
  | nil => rfl
  | cons e q ih =>
    cases e with
    | marker p => simp only [finishPass, List.map_cons, ih w s t]
    | reading r =>
      simp only [finishPass]
      split
      · simp only [List.map_cons, ih w s t]
      · split
        · simp only [List.map_cons, ih w (finishReading r s).2 (finishReading r t).2]
          rfl
        · simp only [List.map_cons, ih (r.meter :: w) s t]

/-- How many entries stay in a settled queue rests on the queue alone (R137, R139). -/
theorem settleQueue_length (h : t.hmu.queue = s.hmu.queue) :
    (settleQueue t).hmu.queue.length = (settleQueue s).hmu.queue.length := by
  have same := congrArg (fun l : List Bool => (l.dropWhile (!·)).length)
    (finishPass_waiting false s.hmu.queue [] t s)
  simp only [List.dropWhile_map, List.length_map] at same
  unfold settleQueue
  rw [retireRun_queue_eq, retireRun_queue_eq, h]
  exact same

theorem countDownQueue_length (n) (h : t.hmu.queue = s.hmu.queue) :
    (countDownQueue n t).hmu.queue.length = (countDownQueue n s).hmu.queue.length := by
  unfold countDownQueue
  rw [h]
  exact settleQueue_length rfl

theorem countDownQueue_length_le (n s) : (countDownQueue n s).hmu.queue.length ≤ s.hmu.queue.length := by
  unfold countDownQueue settleQueue
  refine (retireRun_queue _ _).1.length_le.trans (le_of_eq ?_)
  rw [finishPass_length, setQueue_hmu, List.length_append, mapReadings_length, ← List.length_append,
    List.take_append_drop]

/-- A WAITING reading that is not ready stays as it is (R137). -/
theorem finishPass_keeps (waiting : r.finished = none) (early : r.ready = false) {w} (h : .reading r ∈ q) :
    .reading r ∈ (finishPass false q w s).1 := by
  induction q generalizing w s with
  | nil => exact absurd h List.not_mem_nil
  | cons e q ih =>
    obtain rfl | later := List.mem_cons.1 h
    · simp [finishPass, waiting, early]
    cases e with
    | marker p => exact List.mem_cons_of_mem _ (ih later)
    | reading r' =>
      unfold finishPass
      repeat' split
      all_goals exact List.mem_cons_of_mem _ (ih later)

/-- What waits does not retire (R139). -/
theorem retireRun_keeps (waiting : r.finished = none) (h : .reading r ∈ q) (s) :
    .reading r ∈ (retireRun q s).hmu.queue := by
  rw [retireRun_queue_eq]
  rw [← List.takeWhile_append_dropWhile (p := fun e => !isWaiting e) (l := q)] at h
  refine (List.mem_append.1 h).resolve_left fun left => ?_
  have retires := List.mem_takeWhile_imp left
  simp [isWaiting, waiting] at retires

/-- A reading that a tick does not count down and that is not ready stays as it is (R136). -/
theorem countDownQueue_keeps {n : Nat} (waiting : r.finished = none) (early : r.ready = false)
    (h : .reading r ∈ s.hmu.queue.drop n) : .reading r ∈ (countDownQueue n s).hmu.queue :=
  retireRun_keeps waiting (finishPass_keeps waiting early (List.mem_append_right _ h)) _

/-! ## Meters and conditions in a settled queue -/

/-- Every meter stands but for its carry, and so do the pulse channels and CONFIRM_S. -/
structure MetersStand (s t : State) : Prop where
  meter : ∀ m : Fin 16, t.hmu.meters[m] = { s.hmu.meters[m] with carry := t.hmu.meters[m].carry }
  pulses : t.fiu.pulses = s.fiu.pulses
  confirm : t.hmu.confirmS = s.hmu.confirmS

theorem metersStand_of_same (hmu : t.hmu = s.hmu) (pulses : t.fiu.pulses = s.fiu.pulses) : MetersStand s t :=
  ⟨fun m => by rw [hmu], pulses, by rw [hmu]⟩

theorem MetersStand.trans (h : MetersStand s t) (k : MetersStand t u) : MetersStand s u :=
  ⟨fun m => (k.meter m).trans (by rw [h.meter m]), k.pulses.trans h.pulses, k.confirm.trans h.confirm⟩

/-- A finishing moves the carry of its meter alone (R138). -/
theorem metersStand_finishReading (r s) : MetersStand s (finishReading r s).2 := by
  obtain ⟨_, _, _, _, frame⟩ := retires_finishReading r s
  have meters : (finishReading r s).2.hmu.meters = _ := finishReading_meters r s
  rw [frame] at meters ⊢
  refine ⟨fun m => ?_, rfl, rfl⟩
  dsimp only at meters ⊢
  rw [meters]
  obtain rfl | other := eq_or_ne r.meter m
  · rw [put_getElem_self]
  · rw [put_getElem_ne _ _ other]

theorem metersStand_finishPass (force q w s) : MetersStand s (finishPass force q w s).2 := by
  induction q generalizing w s with
  | nil => exact metersStand_of_same rfl rfl
  | cons e q ih =>
    cases e with
    | marker p => exact ih w s
    | reading r =>
      unfold finishPass
      repeat' split
      · exact ih w s
      · exact (metersStand_finishReading r s).trans (ih w _)
      · exact ih _ s

theorem metersStand_retireRun (q s) : MetersStand s (retireRun q s) := by
  obtain ⟨meters, confirm, -⟩ := retireRun_stands q s
  obtain ⟨_, _, _, _, frame⟩ := retires_retireRun q s
  exact ⟨fun m => by rw [meters], by rw [frame], confirm⟩

theorem metersStand_settleQueue (s) : MetersStand s (settleQueue s) :=
  (metersStand_finishPass false s.hmu.queue [] s).trans (metersStand_retireRun ..)

theorem metersStand_countDownQueue (n s) : MetersStand s (countDownQueue n s) :=
  .trans (t := setQueue (mapReadings countDown (s.hmu.queue.take n) ++ s.hmu.queue.drop n) s) ⟨fun _ => rfl, rfl, rfl⟩
    (metersStand_settleQueue _)

/-- The conditions beside DELTA-T-REVERSE and UNASSIGNED-KEY stand. -/
abbrev RetiresQuietly (s t : State) : Prop := OthersStand [condDeltaTReverse, condUnassignedKey] s.cnu t.cnu

theorem RetiresQuietly.trans (h : RetiresQuietly s t) (k : RetiresQuietly t u) : RetiresQuietly s u :=
  fun n hn => (k n hn).trans (h n hn)

theorem finishReading_others (r s) : RetiresQuietly s (finishReading r s).2 := by
  unfold finishReading
  dsimp only
  split
  · exact fun n hn => raiseCond_others condDeltaTReverse _ _ s.cnu n fun h => hn (List.mem_cons.2 (.inl
      (List.mem_singleton.1 h)))
  · exact fun _ _ => rfl

theorem finishPass_others (force q w s) : RetiresQuietly s (finishPass force q w s).2 := by
  induction q generalizing w s with
  | nil => exact fun _ _ => rfl
  | cons e q ih =>
    cases e with
    | marker p => exact ih w s
    | reading r =>
      unfold finishPass
      repeat' split
      · exact ih w s
      · exact (finishReading_others r s).trans (ih w _)
      · exact ih _ s

theorem retireRun_others (q s) : RetiresQuietly s (retireRun q s) := by
  induction q generalizing s with
  | nil => exact fun _ _ => rfl
  | cons e q ih =>
    cases e with
    | marker p => exact ih (startClose p s)
    | reading r =>
      unfold retireRun
      split
      · next f _ =>
        have booked : RetiresQuietly s (bookReading r f s) := fun n hn =>
          bookReading_others r f s n fun h => hn (List.mem_cons_of_mem _ h)
        exact booked.trans (ih _)
      · exact fun _ _ => rfl

theorem settleQueue_others (s) : RetiresQuietly s (settleQueue s) :=
  (finishPass_others false s.hmu.queue [] s).trans (retireRun_others _ _)

theorem countDownQueue_others (n s) : RetiresQuietly s (countDownQueue n s) :=
  settleQueue_others (setQueue (mapReadings countDown (s.hmu.queue.take n) ++ s.hmu.queue.drop n) s)

end

/-! ## The blocks before the HMU -/

section
variable {s t u : State} {b : Boundary}

/-- The HMU and the pulse channels stand. -/
structure HmuStands (s t : State) : Prop where
  hmu : t.hmu = s.hmu
  pulses : t.fiu.pulses = s.fiu.pulses

theorem HmuStands.trans (h : HmuStands s t) (k : HmuStands t u) : HmuStands s u :=
  ⟨k.hmu.trans h.hmu, k.pulses.trans h.pulses⟩

theorem HmuStands.metersStand (h : HmuStands s t) : MetersStand s t := metersStand_of_same h.hmu h.pulses

theorem Ages.hmuStands (h : Ages s t) : HmuStands s t := by
  obtain ⟨_, _, rfl⟩ := h
  exact ⟨rfl, rfl⟩

theorem Expires.hmuStands (h : Expires s t) : HmuStands s t := by
  obtain ⟨_, _, _, _, rfl⟩ := h
  exact ⟨rfl, rfl⟩

theorem Exports.hmuStands (h : Exports s t) : HmuStands s t := by
  obtain ⟨_, _, _, _, rfl⟩ := h
  exact ⟨rfl, rfl⟩

theorem Balances.hmuStands (h : Balances s t) : HmuStands s t := by
  obtain ⟨_, _, _, _, rfl⟩ := h
  exact ⟨rfl, rfl⟩

theorem hmuStands_balanceAndExport (o b s) : HmuStands s (balanceAndExport o b s) := by
  unfold balanceAndExport
  split
  · exact (exports_exportBoundary b s).hmuStands.trans (balances_balanceBoundary ..).hmuStands
  · exact (balances_balanceBoundary b s).hmuStands.trans (exports_exportBoundary ..).hmuStands

theorem hmuStands_timersAndBlocks (o b s) : HmuStands s (timersAndBlocks o b s) := by
  unfold timersAndBlocks
  split
  · exact (expires_stepStart s).hmuStands.trans (hmuStands_balanceAndExport ..)
  · exact (hmuStands_balanceAndExport o b s).trans (expires_stepStart _).hmuStands

/-- The step that begins is never the one that ends (R5). -/
theorem nextTag_ne (c : Sck) : nextTag c ≠ c.pos := by
  obtain within | last := Nat.lt_or_ge (c.pos.step + 1) (stepsPerSlot c)
  · rw [nextTag_cases, if_pos within]
    exact fun same => Nat.succ_ne_self _ (congrArg Tag.step same)
  · exact nextTag_slotEnd last

/-- The allocation of a boundary keeps the rho of the ended step, for the HMU to read (R71, R133). -/
theorem Allocated.rhoOfStep {rho : Nat} (h : Allocated b s t) (other : b.begins ≠ b.ended)
    (fixed : s.gbu.rhoNow = { tag := some b.ended, value := rho }) : rhoOfStep t.gbu b.ended = rho := by
  obtain ⟨a, found, gbu, -⟩ := h
  rw [gbu, allocate_gbu]
  unfold Machine.rhoOfStep allocatedGbu
  dsimp only
  rw [found.rhoNow, fixed, if_neg (fun same => other (Option.some.inj same)), if_pos rfl]

/-! ## What the HMU finds -/

/-- The state in which the HMU takes the boundary that the tick gives `s` (R5). -/
def blocksTaken (o : TickOrder) (s : State) : State := timersAndBlocks o (boundaryOf s.sck) (beginNext s)

theorem takeBoundary_eq (o s) : takeBoundary o s = meterBoundaries (boundaryOf s.sck) (blocksTaken o s) := rfl

/-- How many entries the queue holds when the HMU takes the boundary (R136). -/
def heldAtBoundary (o : TickOrder) (s : State) : Nat :=
  if o.hmuFirst then (countDownQueue s.hmu.queue.length s).hmu.queue.length else s.hmu.queue.length

theorem heldAtBoundary_le (o s) : heldAtBoundary o s ≤ s.hmu.queue.length := by
  unfold heldAtBoundary
  split
  · exact countDownQueue_length_le ..
  · exact Nat.le_refl _

theorem heldAtBoundary_congr (o) (h : t.hmu = s.hmu) : heldAtBoundary o t = heldAtBoundary o s := by
  unfold heldAtBoundary
  rw [h, countDownQueue_length _ (congrArg Hmu.queue h)]

/-- What the HMU finds at a boundary, from `s` before the tick: the meters but for their carry, the rho of the ended
step, and as many entries in the queue as the counting of the readings has left of it where it comes first. -/
structure BoundaryFound (o : TickOrder) (s a : State) : Prop where
  stands : MetersStand s a
  rho : ∀ rho, s.gbu.rhoNow = { tag := some s.sck.pos, value := rho } → rhoOfStep a.gbu s.sck.pos = rho
  queue : a.hmu.queue.length = heldAtBoundary o s

theorem hmuStands_blocksTaken (o s) : HmuStands s (blocksTaken o s) := by
  obtain ⟨hmu, pulses⟩ := hmuStands_timersAndBlocks o (boundaryOf s.sck) (beginNext s)
  exact ⟨hmu, pulses⟩

theorem blocksTaken_rho {rho : Nat} (o) (fixed : s.gbu.rhoNow = { tag := some s.sck.pos, value := rho }) :
    rhoOfStep (blocksTaken o s).gbu s.sck.pos = rho :=
  (allocated_timersAndBlocks o (boundaryOf s.sck) (beginNext s)).rhoOfStep (nextTag_ne s.sck) fixed

/-! ## What the rest of the tick leaves -/

/-- What is left of a boundary that the HMU has taken with `n` entries in its queue: meter `m` but for its carry, the
readings behind these entries that are not ready, and RETIRE-LAG where it is active. -/
structure BoundaryLeft (m : Fin 16) (n : Nat) (s t : State) : Prop where
  meter : t.hmu.meters[m] = { s.hmu.meters[m] with carry := t.hmu.meters[m].carry }
  readings : ∀ r : Reading, r.finished = none → r.ready = false → .reading r ∈ s.hmu.queue.drop n →
    .reading r ∈ t.hmu.queue
  lag : s.cnu.records[condRetireLag].active = true → t.cnu.records[condRetireLag].active = true

theorem BoundaryLeft.refl (m : Fin 16) (n : Nat) (s : State) : BoundaryLeft m n s s :=
  ⟨rfl, fun _ _ _ => List.mem_of_mem_drop, id⟩

theorem boundaryLeft_countDownQueue (m n s) : BoundaryLeft m n s (countDownQueue n s) := by
  refine ⟨(metersStand_countDownQueue n s).meter m, fun r => countDownQueue_keeps, fun active => ?_⟩
  rw [countDownQueue_others n s condRetireLag (by decide)]
  exact active

theorem agePoints_others (s) : OthersStand [condSampleHeld, condSampleFailed] s.cnu (agePoints s).cnu :=
  followSamples_others { s with fiu := { s.fiu with points := each s.fiu.points fun _ p => agePoint p } }

theorem BoundaryLeft.agePoints {m : Fin 16} {n : Nat} (h : BoundaryLeft m n s t) :
    BoundaryLeft m n s (agePoints t) := by
  refine ⟨h.meter, h.readings, fun active => ?_⟩
  rw [agePoints_others t condRetireLag (by decide)]
  exact h.lag active

/-- Where the readings are counted first, and where the boundary is taken first (R136). -/
theorem takeCounted_meters (m : Fin 16) (o s) : ∃ a, BoundaryFound o s a ∧
    BoundaryLeft m a.hmu.queue.length (meterBoundaries (boundaryOf s.sck) a) (takeCounted o s) := by
  unfold takeCounted
  split
  · next first =>
    have counted := metersStand_countDownQueue s.hmu.queue.length s
    have clock := countDownQueue_sck s.hmu.queue.length s
    have gbu : (countDownQueue s.hmu.queue.length s).gbu = s.gbu :=
      (retires_countDownQueue s.hmu.queue.length s).balanceStands (b := boundaryOf s.sck).gbu
    generalize hs' : countDownQueue s.hmu.queue.length s = s' at counted clock gbu
    have taken := hmuStands_blocksTaken o s'
    refine ⟨blocksTaken o s', ⟨counted.trans taken.metersStand, fun rho fixed => ?_, ?_⟩, ?_⟩
    · rw [← clock]
      exact blocksTaken_rho o (by rw [gbu, clock, fixed])
    · rw [taken.hmu, ← hs']
      exact (if_pos first).symm
    · rw [takeBoundary_eq, clock]
      exact .refl ..
  · next later =>
    have taken := hmuStands_blocksTaken o s
    refine ⟨blocksTaken o s, ⟨taken.metersStand, fun rho => blocksTaken_rho o, ?_⟩, ?_⟩
    · rw [taken.hmu]
      exact (if_neg later).symm
    · rw [taken.hmu, takeBoundary_eq]
      exact boundaryLeft_countDownQueue ..

/-- Whatever the order of the tick, the HMU takes the boundary once (R5, R133). -/
theorem boundaryTick_meters (m : Fin 16) (o s) : ∃ a, BoundaryFound o s a ∧
    BoundaryLeft m a.hmu.queue.length (meterBoundaries (boundaryOf s.sck) a) (boundaryTick o s) := by
  have aged : HmuStands s (agedFirst o s) := by
    unfold agedFirst
    split
    · exact (ages_agePoints s).hmuStands
    · exact ⟨rfl, rfl⟩
  obtain ⟨gbu, clock, -⟩ := agedFirst_frame o s
  obtain ⟨a, ⟨stands, rho, queue⟩, left⟩ := takeCounted_meters m o (agedFirst o s)
  rw [clock] at left rho
  rw [gbu] at rho
  refine ⟨a, ⟨aged.metersStand.trans stands, rho, ?_⟩, ?_⟩
  · rw [queue, heldAtBoundary_congr o aged.hmu]
  · rw [boundaryTick_eq]
    split
    · exact left
    · exact left.agePoints

end

/-! ## The meter's turn in the tick -/

section
variable {o : TickOrder} {m : Fin 16} {s t u : State} {tag : Tag} {ch : Fin 24} {rho carry : Nat} {x : Meter}

theorem MetersStand.hasPulses (h : MetersStand s t) (k : Fin 16) : hasPulses t k = hasPulses s k := by
  unfold Machine.hasPulses meterDelta
  rw [h.meter k, h.pulses]

/-- State `u` at the turn of meter `m` in the tick that takes `s` to `t`: what the turn finds of `s`, and what is left of
it in `t`. -/
structure Turn (o : TickOrder) (m : Fin 16) (rho : Nat) (s u t : State) : Prop where
  meter : ∃ carry, u.hmu.meters[m] = { s.hmu.meters[m] with carry := carry }
  pulses : u.fiu.pulses = s.fiu.pulses
  rho : rhoOfStep u.gbu s.sck.pos = rho
  confirm : u.hmu.confirmS = s.hmu.confirmS
  full : 64 ≤ u.hmu.queue.length ↔ 64 ≤ heldAtBoundary o s + (metersBelow m).countP (hasPulses s)
  result : t.hmu.meters[m] =
    { (meterBoundary s.sck.pos u m).hmu.meters[m] with carry := t.hmu.meters[m].carry }
  reading : ∀ r : Reading, r.finished = none → r.ready = false →
    (meterBoundary s.sck.pos u m).hmu.queue = u.hmu.queue ++ [.reading r] → .reading r ∈ t.hmu.queue
  lag : (meterBoundary s.sck.pos u m).cnu.records[condRetireLag].active = true →
    t.cnu.records[condRetireLag].active = true

/-- Each meter has its turn at a boundary, whatever the order of the tick (R5, R133). -/
theorem boundaryTick_turn (m : Fin 16) (o) (fixed : s.gbu.rhoNow = { tag := some s.sck.pos, value := rho }) :
    ∃ u, Turn o m rho s u (boundaryTick o s) := by
  obtain ⟨a, ⟨stands, hrho, queue⟩, left⟩ := boundaryTick_meters m o s
  obtain ⟨u, before, after, full⟩ := meterBoundaries_turn (boundaryOf s.sck) a m
  obtain ⟨l, earlier⟩ := before.grows
  obtain ⟨l', later⟩ := after.grows
  have counted : (metersBelow m).countP (hasPulses a) = (metersBelow m).countP (hasPulses s) :=
    List.countP_congr fun k _ => by rw [stands.hasPulses k]
  refine ⟨u, ⟨_, before.meter.trans (stands.meter m)⟩, before.pulses.trans stands.pulses, ?_,
    before.confirm.trans stands.confirm, ?_, ?_, fun r waiting early formed => ?_,
    fun active => left.lag (after.lag active)⟩
  · rw [before.gbu, hrho rho fixed]
  · rw [full, queue, counted]
  · rw [left.meter, after.meter]
    rfl
  · refine left.readings r waiting early ?_
    have formed : (meterBoundary (boundaryOf s.sck).ended u m).hmu.queue = u.hmu.queue ++ [.reading r] := formed
    rw [later, formed, earlier, List.append_assoc, List.append_assoc, List.drop_left]
    simp

/-- The turn finds the pulses that the meter had before the tick (R21). -/
theorem Turn.delta (h : Turn o m rho s u t) (bound : holderOf s.fiu.pulses (.heatFlow m) = some ch) :
    meterDelta u m = deltaOf s.fiu.pulses ch s.hmu.meters[m].base := by
  obtain ⟨_, meter⟩ := h.meter
  rw [meterDelta_bound (by rw [h.pulses, bound]), h.pulses, meter]

theorem Turn.used (h : Turn o m rho s u t) : u.hmu.meters[m].used = s.hmu.meters[m].used := by
  obtain ⟨_, meter⟩ := h.meter
  rw [meter]

theorem Turn.hasPulses (h : Turn o m rho s u t) (bound : holderOf s.fiu.pulses (.heatFlow m) = some ch)
    (used : s.hmu.meters[m].used = true) (delta : 0 < deltaOf s.fiu.pulses ch s.hmu.meters[m].base) :
    hasPulses u m = true := by
  unfold Machine.hasPulses
  rw [h.used, used, h.delta bound, decide_eq_true delta]
  rfl

/-- The turn of a meter with pulses where the queue has room, as the tick leaves it (R133). -/
theorem Turn.formed (h : Turn o m rho s u t) (bound : holderOf s.fiu.pulses (.heatFlow m) = some ch)
    (pulses : Machine.hasPulses u m = true) (room : u.hmu.queue.length < 64) :
    .reading (formedReading s.sck.pos m (stepPending s.hmu.meters[m])
        (deltaOf s.fiu.pulses ch s.hmu.meters[m].base) rho s.hmu.confirmS) ∈ t.hmu.queue ∧
      t.hmu.meters[m] = { s.hmu.meters[m] with
        base := countOf s.fiu.pulses ch, pendingSteps := 0, lagged := false, carry := t.hmu.meters[m].carry } := by
  obtain ⟨carry, meter⟩ := h.meter
  have turn := meterBoundary_room (tag := s.sck.pos) pulses room
  rw [h.delta bound, h.rho, h.confirm, meter, meterCount_bound (by rw [h.pulses, bound]), h.pulses] at turn
  refine ⟨h.reading _ rfl rfl ?_, ?_⟩
  · rw [turn]
    rfl
  · rw [h.result, turn, setQueue_hmu, setMeter_hmu]
    dsimp only
    rw [put_getElem_self]
    rfl

/-- The turn of one where the queue is full (R134). -/
theorem Turn.deferred (h : Turn o m rho s u t) (pulses : Machine.hasPulses u m = true)
    (full : 64 ≤ u.hmu.queue.length) :
    t.hmu.meters[m] = { stepPending s.hmu.meters[m] with lagged := true, carry := t.hmu.meters[m].carry } ∧
      t.cnu.records[condRetireLag].active = true := by
  obtain ⟨carry, meter⟩ := h.meter
  have turn := meterBoundary_full (tag := s.sck.pos) pulses full
  rw [meter] at turn
  refine ⟨?_, h.lag ?_⟩
  · rw [h.result, turn, State.raise_hmu, setMeter_hmu]
    dsimp only
    rw [put_getElem_self]
    rfl
  · rw [turn]
    exact (raisedOnce_raiseCond condRetireLag m.1 s.sck.pos u.cnu).1

theorem Turn.unused (h : Turn o m rho s u t) (unused : s.hmu.meters[m].used = false) :
    t.hmu.meters[m] = { s.hmu.meters[m] with carry := t.hmu.meters[m].carry } := by
  obtain ⟨carry, meter⟩ := h.meter
  rw [h.result, meterBoundary_unused (h.used.trans unused), meter]

/-- The turn of a USED meter without pulses (R133). -/
theorem Turn.still (h : Turn o m rho s u t) (bound : holderOf s.fiu.pulses (.heatFlow m) = some ch)
    (used : s.hmu.meters[m].used = true) (delta : deltaOf s.fiu.pulses ch s.hmu.meters[m].base = 0) :
    t.hmu.meters[m] = { stepPending s.hmu.meters[m] with carry := t.hmu.meters[m].carry } := by
  obtain ⟨carry, meter⟩ := h.meter
  rw [h.result, meterBoundary_still (h.used.trans used) ((h.delta bound).trans delta), setMeter_hmu, meter]
  dsimp only
  rw [put_getElem_self]
  rfl

end

/-- Settles O45: the turn of the meter, which the turns of the others and the rest of the tick surround. -/
theorem readingsFormed : Obligations.ReadingsFormed := by
  unfold Obligations.ReadingsFormed
  intro s o m ch rho x v delta pending running ends bound fixed
  have due := (boundaryDue_iff s.sck).2 ⟨running, ends⟩
  have ticked : tick o s = boundaryTick o s := if_pos due
  obtain ⟨u, turn⟩ := boundaryTick_turn m o fixed
  have pulses : x.used = true → 0 < delta → hasPulses u m = true := turn.hasPulses bound
  have full := turn.full
  rw [countP_metersBelow] at full
  refine ⟨boundaryTick o s, congrArg Host.Outcome.next ((if_pos due).trans ticked), turn.unused, turn.still bound,
    fun used some room => ?_, fun used some noRoom => ?_, fun used some room => ?_⟩
  · exact turn.formed bound (pulses used some) (Nat.lt_of_not_le fun h => Nat.not_le.2 room (full.1 h))
  · exact turn.deferred (pulses used some) (full.2 noRoom)
  · refine turn.formed bound (pulses used some) (Nat.lt_of_not_le fun h => ?_)
    have held := heldAtBoundary_le o s
    have few := countP_metersBelow_lt s m
    have reached := turn.full.1 h
    omega

end Sys2Proof.Machine
end

section
/-!
The directory: its groups, the lookup of a key and the place of a new account (R144 to R146).
-/
namespace Sys2Proof.Machine

/-! ## Groups -/

theorem primaryGroup_lt (key : Nat) : primaryGroup key < 64 := by
  have chunk : ∀ n : Nat, n % 64 < 2 ^ 6 := fun n => Nat.mod_lt n (by decide)
  exact Nat.xor_lt_two_pow (Nat.xor_lt_two_pow (Nat.xor_lt_two_pow (chunk _) (chunk _)) (chunk _)) (chunk _)

theorem secondaryGroup_lt (key : Nat) : secondaryGroup key < 64 := by
  unfold secondaryGroup
  omega

/-- The entries of a group are those of its number, in ascending order (R144). -/
theorem groupEntries_ascending : ∀ g : Fin 64, (groupEntries g).Pairwise (· < ·) := by decide

theorem mem_groupEntries {g : Nat} (hg : g < 64) {i : Fin 256} : i ∈ groupEntries g ↔ i.1 / 4 = g := by
  have entry : ∀ j < 4, (i = Fin.ofNat 256 (4 * g + j) ↔ i.1 = 4 * g + j) := fun j hj => by
    rw [Fin.ext_iff, Fin.val_ofNat, Nat.mod_eq_of_lt (by omega)]
  simp only [groupEntries, List.map_cons, List.map_nil, List.mem_cons, List.not_mem_nil, or_false]
  rw [entry 0 (by decide), entry 1 (by decide), entry 2 (by decide), entry 3 (by decide)]
  omega

/-- A search of a group finds its lowest entry that is sought. -/
theorem find_groupEntries {g : Nat} (hg : g < 64) {p : Fin 256 → Bool} {i : Fin 256} (group : i.1 / 4 = g)
    (hp : p i = true) (lowest : ∀ j : Fin 256, j < i → j.1 / 4 = g → p j = false) :
    (groupEntries g).find? p = some i :=
  find_ascending (groupEntries_ascending ⟨g, hg⟩) ((mem_groupEntries hg).2 group) hp fun j hj below =>
    lowest j below ((mem_groupEntries hg).1 hj)

theorem find_groupEntries_none {g : Nat} (hg : g < 64) {p : Fin 256 → Bool} :
    (groupEntries g).find? p = none ↔ ∀ j : Fin 256, j.1 / 4 = g → p j = false := by
  rw [List.find?_eq_none]
  constructor
  · exact fun h j hj => Bool.eq_false_of_not_eq_true (h j ((mem_groupEntries hg).2 hj))
  · intro h j hj
    rw [h j ((mem_groupEntries hg).1 hj)]
    exact Bool.false_ne_true

/-! ## Lookups -/

section
variable {d : Vector DirEntry 256} {key : Nat} {i : Fin 256} {h : Bool}

theorem holdsKey_iff {e : DirEntry} : holdsKey key h e = true ↔ e.valid = true ∧ e.secondary = h ∧ e.key = key := by
  simp only [holdsKey, Bool.and_eq_true, beq_iff_eq, decide_eq_true_eq, and_assoc]

/-- What a lookup finds is valid and holds the key (R145). -/
theorem holds_of_lookup (found : lookup d key = some i) : d[i].valid = true ∧ d[i].key = key := by
  unfold lookup at found
  split at found
  · next j hj =>
    cases found
    obtain ⟨valid, -, key⟩ := holdsKey_iff.1 (List.find?_some (p := fun k => holdsKey key false d[k]) hj)
    exact ⟨valid, key⟩
  · obtain ⟨valid, -, key⟩ := holdsKey_iff.1 (List.find?_some (p := fun k => holdsKey key true d[k]) found)
    exact ⟨valid, key⟩

/-- A lookup misses no key that an entry in its place holds (R144, R145). -/
theorem not_holds_of_lookup (absent : lookup d key = none) (placed : EntryPlaced d i) (valid : d[i].valid = true) :
    d[i].key ≠ key := by
  rintro rfl
  obtain ⟨-, group⟩ := placed valid
  unfold lookup at absent
  split at absent
  · cases absent
  · next primary =>
    rw [find_groupEntries_none (primaryGroup_lt _)] at primary
    rw [find_groupEntries_none (secondaryGroup_lt _)] at absent
    cases mark : d[i].secondary with
    | false =>
      rw [mark] at group
      have missed := primary i group
      rw [holdsKey_iff.2 ⟨valid, mark, rfl⟩] at missed
      cases missed
    | true =>
      rw [mark] at group
      have missed := absent i group
      rw [holdsKey_iff.2 ⟨valid, mark, rfl⟩] at missed
      cases missed

/-- In a sound directory a lookup finds exactly the valid entry that holds the key (R145). -/
theorem lookup_eq_some_iff (sound : DirectorySound d) : lookup d key = some i ↔ d[i].valid = true ∧ d[i].key = key := by
  obtain ⟨placed, distinct⟩ := sound
  refine ⟨holds_of_lookup, fun ⟨valid, holds⟩ => ?_⟩
  cases found : lookup d key with
  | none => exact absurd holds (not_holds_of_lookup found (placed i) valid)
  | some j =>
    obtain ⟨valid', holds'⟩ := holds_of_lookup found
    rw [distinct i j valid valid' (holds.trans holds'.symm)]

/-! ## The place of a new account -/

/-- The free entry of a group that a new account takes is its lowest (R146). -/
theorem freeEntry_of_lowest {g : Nat} (hg : g < 64) (group : i.1 / 4 = g) (free : d[i].valid = false)
    (lowest : ∀ j : Fin 256, j < i → j.1 / 4 = g → d[j].valid = true) : freeEntry d g = some i :=
  find_groupEntries hg group (by rw [free]; rfl) fun j below hj => by rw [lowest j below hj]; rfl

theorem free_of_freeEntry {g : Nat} (hg : g < 64) (found : freeEntry d g = some i) :
    i.1 / 4 = g ∧ d[i].valid = false := by
  unfold freeEntry at found
  have free := List.find?_some found
  exact ⟨(mem_groupEntries hg).1 (List.mem_of_find?_eq_some found), by simpa using free⟩

theorem freeEntry_eq_none {g : Nat} (hg : g < 64) :
    freeEntry d g = none ↔ ∀ j : Fin 256, j.1 / 4 = g → d[j].valid = true := by
  simp only [freeEntry, find_groupEntries_none hg, Bool.not_eq_false']

/-- The place of a new account: the lowest free entry of the primary group, else of the secondary (R146). -/
theorem placeFor_eq_some : placeFor d key = some (i, h) ↔
    if h then freeEntry d (primaryGroup key) = none ∧ freeEntry d (secondaryGroup key) = some i
    else freeEntry d (primaryGroup key) = some i := by
  unfold placeFor
  cases freeEntry d (primaryGroup key) <;> cases freeEntry d (secondaryGroup key) <;> cases h <;> simp

theorem placeFor_eq_none :
    placeFor d key = none ↔ freeEntry d (primaryGroup key) = none ∧ freeEntry d (secondaryGroup key) = none := by
  unfold placeFor
  cases freeEntry d (primaryGroup key) <;> simp

/-- The place of a new account is free, in the group that its H mark names (R144, R146). -/
theorem placeFor_place (place : placeFor d key = some (i, h)) :
    d[i].valid = false ∧ i.1 / 4 = if h then secondaryGroup key else primaryGroup key := by
  rw [placeFor_eq_some] at place
  cases h with
  | false =>
    obtain ⟨group, free⟩ := free_of_freeEntry (primaryGroup_lt key) place
    exact ⟨free, group⟩
  | true =>
    obtain ⟨group, free⟩ := free_of_freeEntry (secondaryGroup_lt key) place.2
    exact ⟨free, group⟩

end
end Sys2Proof.Machine
end

section
/-!
The effects that a step can have on the directory, the banks and the close of a period: what each command does to them
is a chain of these. An invariant of them is kept by every step once each single effect keeps it.
-/
namespace Sys2Proof.Machine

/-- One effect on the ABU. -/
inductive Bills : Abu → Abu → Prop
  /-- The lookaside, the tables or the statements change. -/
  | tables (a l t m q) : Bills a { a with lookaside := l, tariffs := t, bandMap := m, statements := q }
  /-- A cold reset (R174). -/
  | cold (a) : Bills a Abu.cold
  /-- A new account at its place (R146). -/
  | add (a key tariff i h) (range : keyInRange key = true) (absent : lookup a.directory key = none)
      (place : placeFor a.directory key = some (i, h)) :
      Bills a { a with directory := put a.directory i (newAccount key h tariff) }
  /-- An entry that goes, or keeps its key, its place and its banks (R147, R148). -/
  | write (a i e) (kept : e.valid = true → a.directory[i].valid = true ∧ e.key = a.directory[i].key ∧
        e.secondary = a.directory[i].secondary ∧ e.banks = a.directory[i].banks) :
      Bills a { a with directory := put a.directory i e }
  /-- A reading booked (R155). -/
  | book (r f s) : Bills s.abu (bookReading r f s).abu
  /-- A marker appended (R158). -/
  | mark (a) (idle : a.close = .idle) : Bills a { a with close := .marked }
  /-- A marker retires (R159). -/
  | flip (p s) : Bills s.abu (startClose p s).abu
  /-- Emission judges a place (R160). -/
  | emit (s) (emitting : s.abu.close = .emitting) : Bills s.abu (emitPlace s).abu
  /-- A paused emission may resume (R161). -/
  | resume (a) : Bills a (resumeEmission a)

/-- What happens to the ABU from `s` to `t` is a chain of effects. -/
def Billed (s t : State) : Prop := Relation.ReflTransGen Bills s.abu t.abu

section
variable {s t u : State}

theorem Billed.refl (s : State) : Billed s s := Relation.ReflTransGen.refl
theorem Billed.trans (h : Billed s t) (k : Billed t u) : Billed s u := Relation.ReflTransGen.trans h k
theorem Bills.billed (h : Bills s.abu t.abu) : Billed s t := Relation.ReflTransGen.single h

/-- What leaves the ABU as it stands. -/
theorem billed_of_abu (h : t.abu = s.abu) : Billed s t := by
  unfold Billed
  rw [h]

/-- What each effect keeps, a chain keeps. -/
theorem Billed.keep {P : Abu → Prop} (h : ∀ a b, Bills a b → P a → P b) (k : Billed s t) (hs : P s.abu) : P t.abu := by
  unfold Billed at k
  generalize t.abu = b at k
  induction k with
  | refl => exact hs
  | tail _ last ih => exact h _ _ last ih

theorem Relinked.billed : Relinked s t → Billed s t := by rintro ⟨_, _, rfl, -⟩; exact .refl s
theorem Captures.billed : Captures s t → Billed s t := by rintro ⟨_, _, _, rfl⟩; exact .refl s
theorem Expires.billed : Expires s t → Billed s t := by rintro ⟨_, _, _, _, rfl⟩; exact .refl s
theorem Exports.billed : Exports s t → Billed s t := by rintro ⟨_, _, _, _, rfl⟩; exact .refl s
theorem Balances.billed : Balances s t → Billed s t := by rintro ⟨_, _, _, _, rfl⟩; exact .refl s
theorem Ages.billed : Ages s t → Billed s t := by rintro ⟨_, _, rfl⟩; exact .refl s
theorem Reports.billed : Reports s t → Billed s t := by rintro ⟨_, _, _, _, _, _, rfl⟩; exact .refl s

theorem billed_foldl {α : Type} {f : State → α → State} (h : ∀ s x, Billed s (f s x)) (l : List α) (s : State) :
    Billed s (l.foldl f s) := foldl_related .refl .trans h l s

theorem billed_ite {c : Prop} [Decidable c] (h : Billed s t) : Billed s (if c then t else s) := by
  split
  · exact h
  · exact .refl s

/-! ## The retire queue -/

theorem billed_retireRun (q s) : Billed s (retireRun q s) := by
  induction q generalizing s with
  | nil => exact .refl s
  | cons e q ih =>
    cases e with
    | marker p => exact (Bills.flip p s).billed.trans (ih _)
    | reading r =>
      unfold retireRun
      split
      · exact (Bills.book r _ s).billed.trans (ih _)
      · exact .refl s

theorem billed_settleQueue (s) : Billed s (settleQueue s) :=
  (billed_of_abu (finishPass_abu false s.hmu.queue [] s)).trans (billed_retireRun ..)

theorem billed_flushQueue (s) : Billed s (flushQueue s) :=
  (billed_of_abu (finishPass_abu true s.hmu.queue [] s)).trans (billed_retireRun ..)

theorem billed_countDownQueue (n s) : Billed s (countDownQueue n s) :=
  billed_settleQueue (setQueue (mapReadings countDown (s.hmu.queue.take n) ++ s.hmu.queue.drop n) s)

theorem billed_freshNotice (r s) : Billed s (freshNotice r s) := by
  unfold freshNotice
  split
  · exact billed_settleQueue (setQueue (mapReadings (markFresh r) s.hmu.queue) s)
  · exact .refl s

theorem billed_meterBoundary (tag s m) : Billed s (meterBoundary tag s m) := by
  unfold meterBoundary
  dsimp only
  repeat' split
  all_goals exact .refl s

/-! ## Ticks, samples and records -/

theorem billed_takeBoundary (o s) : Billed s (takeBoundary o s) := by
  have blocks : ∀ b s, Billed s (balanceAndExport o b s) := fun b s => by
    unfold balanceAndExport
    split
    · exact (exports_exportBoundary b s).billed.trans (balances_balanceBoundary ..).billed
    · exact (balances_balanceBoundary b s).billed.trans (exports_exportBoundary ..).billed
  have timers : ∀ b s, Billed s (timersAndBlocks o b s) := fun b s => by
    unfold timersAndBlocks
    split
    · exact (expires_stepStart _).billed.trans (blocks ..)
    · exact (blocks ..).trans (expires_stepStart _).billed
  exact (timers _ { s with sck := advanceClock s.sck }).trans (billed_foldl (billed_meterBoundary _) ..)

theorem billed_tick (o s) : Billed s (tick o s) := by
  have aged : ∀ s, Billed s (agePoints s) := fun s => (ages_agePoints s).billed
  unfold tick
  split
  · unfold boundaryTick
    dsimp only
    cases o.fiuFirst <;> cases o.hmuFirst <;> simp only [if_true, if_false, Bool.false_eq_true]
    · exact ((billed_takeBoundary ..).trans (billed_countDownQueue ..)).trans (aged _)
    · exact ((billed_countDownQueue ..).trans (billed_takeBoundary ..)).trans (aged _)
    · exact ((aged s).trans (billed_takeBoundary ..)).trans (billed_countDownQueue ..)
    · exact ((aged s).trans (billed_countDownQueue ..)).trans (billed_takeBoundary ..)
  · exact (aged { s with sck := { s.sck with
      ticks := if s.sck.running then s.sck.ticks + 1 else 0, phaseMs := 0 } }).trans (billed_countDownQueue ..)

theorem billed_judgeRecord (r s) : Billed s (judgeRecord r s) := by
  unfold judgeRecord
  dsimp only
  repeat' split
  all_goals try exact .refl s
  exact billed_freshNotice _ (followSamples (setPoint _ _ s))

theorem billed_sensorByte (s b) : Billed s (sensorByte s b) := by
  unfold sensorByte
  repeat' split
  all_goals try exact .refl s
  exact billed_judgeRecord _ (setSensor .hunting s)

theorem billed_breakRecord (s) : Billed s (breakRecord s) := by
  unfold breakRecord
  split
  all_goals exact .refl s

theorem billed_sensorRecord {bytes} (h : execSensorRecord bytes s = .next t) : Billed s t := by
  unfold execSensorRecord at h
  split at h <;> cases h
  · exact billed_foldl billed_sensorByte bytes (setSensor (.collecting []) s)
  · exact billed_foldl billed_sensorByte bytes s

theorem billed_sensorRecordBroken {bytes cause} (h : execSensorRecordBroken bytes cause s = .next t) : Billed s t := by
  have broken := (billed_foldl billed_sensorByte bytes s).trans (billed_breakRecord _)
  unfold execSensorRecordBroken at h
  dsimp only at h
  split at h <;> cases h
  · exact broken
  · split
    · exact broken.trans (billed_sensorByte ..)
    · exact broken

/-! ## The modes and the resets -/

theorem billed_modeStart (s) : Billed s (modeStart s) := by
  obtain ⟨_, _, _, _, _, frame⟩ := modeStart_frame s
  rw [frame]
  exact .refl s

theorem billed_modeStop (s) : Billed s (modeStop s) :=
  (billed_of_abu (blocksStopped_stands s).2).trans (billed_flushQueue (blocksStopped s))

theorem billed_warmReset (s) : Billed s (warmReset s) := by
  have rest : ∀ t : State, Billed t { t with
      cnu := clearConds (BitVec.allOnes 32) t.cnu
      abu := { t.abu with lookaside := [] }
      sck := idleTimers t.sck
      fiu := { t.fiu with sensor := .hunting }
      lkp := { t.lkp with rx := .hunting, answer := false, overrun := false, reply := none, mode := .setup } } :=
    fun t => Bills.billed (.tables t.abu [] _ _ _)
  unfold warmReset
  dsimp only
  split
  · exact (billed_modeStop s).trans (rest _)
  · exact (billed_flushQueue s).trans (rest _)

/-! ## Emission, periods and the link -/

theorem billed_emissionStep (h : execEmissionStep s = .next t) : Billed s t := by
  unfold execEmissionStep at h
  split at h <;> cases h
  · next emitting => exact (Bills.emit s emitting).billed
  all_goals exact .refl s

theorem billed_periodStart {ch} (h : execPeriodStart ch s = .next t) : Billed s t := by
  unfold execPeriodStart at h
  dsimp only at h
  split at h <;> cases h
  all_goals exact .refl s

theorem billed_activeTimeEnd {ch} (h : execActiveTimeEnd ch s = .next t) : Billed s t := by
  unfold execActiveTimeEnd at h
  dsimp only at h
  split at h <;> cases h
  all_goals exact .refl s

theorem billed_unknownKind {kind p} (h : execUnknownKind kind p s = .next t) : Billed s t := by
  unfold execUnknownKind at h
  split at h
  · cases h
    exact .refl s
  split at h <;> cases h
  all_goals exact .refl s

theorem billed_linkFrameBroken {cause} (h : execLinkFrameBroken cause s = .next t) : Billed s t := by
  unfold execLinkFrameBroken at h
  split at h <;> cases h
  · exact .refl s
  · exact (relinked_breakBy ..).billed

theorem billed_replySent (h : execReplySent s = .next t) : Billed s t := by
  unfold execReplySent at h
  cases h
  split
  · exact billed_warmReset s
  · exact .refl s

end
end Sys2Proof.Machine
end

section
/-!
What every request, and so every step, does to the ABU: a chain of its effects.
-/
namespace Sys2Proof.Machine

section
variable {s t : State}

/-! ## Chapters 1, 2 and 10 -/

theorem judgeClockSet_billed (f s) : (judgeClockSet f s).Leaves (Billed s) := by
  unfold judgeClockSet
  refine leaves_unlessRun fun _ => ?_
  repeat' split
  all_goals try trivial
  exact billed_of_abu rfl

theorem judgeClockTrim_billed (t s) : (judgeClockTrim t s).Leaves (Billed s) := by
  unfold judgeClockTrim
  split; · trivial
  exact .refl s

theorem judgeTimerSet_billed (f s) : (judgeTimerSet f s).Leaves (Billed s) := by
  unfold judgeTimerSet
  repeat' split
  all_goals try trivial
  exact billed_of_abu rfl

theorem judgeTimerDisarm_billed (k s) : (judgeTimerDisarm k s).Leaves (Billed s) := by
  unfold judgeTimerDisarm
  split; · trivial
  exact .refl s

theorem judgeCaptureSet_billed (f s) : (judgeCaptureSet f s).Leaves (Billed s) := by
  unfold judgeCaptureSet
  repeat' split
  all_goals try trivial
  exact billed_of_abu rfl

theorem judgeCaptureDisarm_billed (k s) : (judgeCaptureDisarm k s).Leaves (Billed s) := by
  unfold judgeCaptureDisarm
  split; · trivial
  exact .refl s

theorem judgeCaptureTrigger_billed (k s) : (judgeCaptureTrigger k s).Leaves (Billed s) := by
  unfold judgeCaptureTrigger
  split; · trivial
  split
  · exact (captures_triggerUnit ..).billed
  · trivial

theorem judgeCaptureFetch_billed (f s) : (judgeCaptureFetch f s).Leaves (Billed s) := by
  unfold judgeCaptureFetch
  dsimp only
  split
  · exact .refl s
  · exact .refl s

theorem billed_rebaseReaders (old ch s) : Billed s (rebaseReaders old ch s) := by
  have one : ∀ role ch s, Billed s (rebase role ch s) := fun role _ s => by cases role <;> exact billed_of_abu rfl
  unfold rebaseReaders
  dsimp only
  repeat' split
  · exact (one ..).trans (one ..)
  · exact one ..
  · exact one ..
  · exact billed_of_abu rfl

theorem judgePulseSet_billed (f s) : (judgePulseSet f s).Leaves (Billed s) := by
  have rebased : ∀ old ch (v : Vector PulseChannel 24),
      Billed s (rebaseReaders old ch { s with fiu := { s.fiu with pulses := v } }) := fun old ch v =>
    billed_rebaseReaders old ch { s with fiu := { s.fiu with pulses := v } }
  unfold judgePulseSet
  refine leaves_unlessRun fun _ => ?_
  repeat' split
  all_goals try trivial
  all_goals exact rebased ..

theorem judgeEventSet_billed (f s) : (judgeEventSet f s).Leaves (Billed s) := by
  unfold judgeEventSet
  refine leaves_unlessRun fun _ => ?_
  repeat' split
  all_goals try trivial
  exact billed_of_abu rfl

theorem judgePointSet_billed (f s) : (judgePointSet f s).Leaves (Billed s) := by
  unfold judgePointSet
  refine leaves_unlessRun fun _ => ?_
  repeat' split
  all_goals try trivial
  exact billed_of_abu rfl

theorem judgeConditionRaise_billed (f s) : (judgeConditionRaise f s).Leaves (Billed s) := by
  unfold judgeConditionRaise
  repeat' split
  all_goals try trivial
  exact billed_of_abu rfl

theorem judgeConditionRoute_billed (f s) : (judgeConditionRoute f s).Leaves (Billed s) := by
  unfold judgeConditionRoute
  repeat' split
  all_goals try trivial
  exact billed_of_abu rfl

/-! ## Chapters 3 to 5 -/

theorem judgeGradeSet_billed (f s) : (judgeGradeSet f s).Leaves (Billed s) := by
  unfold judgeGradeSet
  refine leaves_unlessRun fun _ => ?_
  repeat' split
  all_goals try trivial
  exact billed_of_abu rfl

theorem judgeHolderSet_billed (f s) : (judgeHolderSet f s).Leaves (Billed s) := by
  unfold judgeHolderSet
  refine leaves_unlessRun fun _ => ?_
  repeat' split
  all_goals try trivial
  exact billed_of_abu rfl

theorem judgeGradeRead_billed (k s) : (judgeGradeRead k s).Leaves (Billed s) := by
  unfold judgeGradeRead
  split; · trivial
  exact .refl s

theorem judgeConsumerSet_billed (f s) : (judgeConsumerSet f s).Leaves (Billed s) := by
  unfold judgeConsumerSet
  refine leaves_unlessRun fun _ => ?_
  dsimp only
  repeat' split
  all_goals try trivial
  all_goals exact billed_of_abu rfl

theorem judgeConsumerEnable_billed (f s) : (judgeConsumerEnable f s).Leaves (Billed s) := by
  unfold judgeConsumerEnable
  dsimp only
  repeat' split
  all_goals try trivial
  exact billed_of_abu rfl

theorem judgeRequestSet_billed (f s) : (judgeRequestSet f s).Leaves (Billed s) := by
  unfold judgeRequestSet
  split; · trivial
  dsimp only
  split; · trivial
  exact billed_of_abu rfl

theorem judgeConsumerRead_billed (k s) : (judgeConsumerRead k s).Leaves (Billed s) := by
  unfold judgeConsumerRead
  split; · trivial
  exact .refl s

theorem judgeDriveSet_billed (f s) : (judgeDriveSet f s).Leaves (Billed s) := by
  unfold judgeDriveSet
  dsimp only
  repeat' split
  all_goals try trivial
  exact billed_of_abu rfl

theorem judgeDriveSetpoint_billed (f s) : (judgeDriveSetpoint f s).Leaves (Billed s) := by
  unfold judgeDriveSetpoint
  split; · trivial
  dsimp only
  split; · trivial
  exact billed_of_abu rfl

theorem judgeDriveStart_billed (k s) : (judgeDriveStart k s).Leaves (Billed s) := by
  unfold judgeDriveStart
  repeat' split
  all_goals try trivial
  exact billed_of_abu rfl

theorem judgeDriveStop_billed (k s) : (judgeDriveStop k s).Leaves (Billed s) := by
  unfold judgeDriveStop
  repeat' split
  all_goals try trivial
  exact billed_of_abu rfl

theorem judgeDrivePosition_billed (f s) : (judgeDrivePosition f s).Leaves (Billed s) := by
  unfold judgeDrivePosition
  split; · trivial
  dsimp only
  repeat' split
  all_goals try trivial
  all_goals exact billed_of_abu rfl

/-! ## Chapter 6 -/

theorem judgeExportSet_billed (f s) : (judgeExportSet f s).Leaves (Billed s) := by
  unfold judgeExportSet
  repeat' split
  all_goals try trivial
  exact billed_of_abu rfl

theorem judgeNominate_billed (f s) : (judgeNominate f s).Leaves (Billed s) := by
  unfold judgeNominate
  split; · trivial
  split; · trivial
  exact leaves_nominationDone fun _ => billed_of_abu rfl

theorem judgeNominateAmend_billed (f s) : (judgeNominateAmend f s).Leaves (Billed s) := by
  unfold judgeNominateAmend
  split; · trivial
  split; · trivial
  split; · trivial
  exact leaves_nominationDone fun _ => billed_of_abu rfl

theorem judgeExportArm_billed (f s) : (judgeExportArm f s).Leaves (Billed s) := by
  unfold judgeExportArm
  split; · trivial
  exact ((exports_changeExport ..).trans (exports_formRecord _)).billed

theorem judgeExportHalt_billed (f s) : (judgeExportHalt f s).Leaves (Billed s) := by
  unfold judgeExportHalt
  split; · trivial
  exact (((exports_changeExport ..).trans (exports_exs ..)).trans (exports_formRecord _)).billed

theorem judgeExportRelease_billed (f s) : (judgeExportRelease f s).Leaves (Billed s) := by
  unfold judgeExportRelease
  split; · trivial
  exact (((exports_changeExport ..).trans (exports_exs ..)).trans (exports_formRecord _)).billed

theorem judgeCurtail_billed (f s) : (judgeCurtail f s).Leaves (Billed s) := by
  unfold judgeCurtail
  split; · trivial
  split; · trivial
  exact billed_of_abu rfl

theorem judgeExportLogFetch_billed (f s) : (judgeExportLogFetch f s).Leaves (Billed s) := by
  unfold judgeExportLogFetch
  dsimp only
  split
  · exact .refl s
  · exact .refl s

theorem judgeNominationRead_billed (f s) : (judgeNominationRead f s).Leaves (Billed s) := by
  unfold judgeNominationRead
  split; · trivial
  exact leaves_checkRange (.refl s)

/-! ## Chapters 7 and 8 -/

theorem judgeMeterSet_billed (f s) : (judgeMeterSet f s).Leaves (Billed s) := by
  unfold judgeMeterSet
  refine leaves_unlessRun fun _ => ?_
  repeat' split
  all_goals try trivial
  exact billed_of_abu rfl

theorem judgeMeterKey_billed (f s) : (judgeMeterKey f s).Leaves (Billed s) := by
  unfold judgeMeterKey
  split; · trivial
  exact .refl s

theorem judgeMeterConfirm_billed (k s) : (judgeMeterConfirm k s).Leaves (Billed s) := by
  unfold judgeMeterConfirm
  split; · trivial
  exact .refl s

theorem judgeMeterRead_billed (k s) : (judgeMeterRead k s).Leaves (Billed s) := by
  unfold judgeMeterRead
  split; · trivial
  exact .refl s

theorem judgeRetireRead_billed (f s) : (judgeRetireRead f s).Leaves (Billed s) := by
  unfold judgeRetireRead
  repeat' split
  all_goals try trivial
  exact billed_of_abu rfl

theorem judgeSuspenseRead_billed (k s) : (judgeSuspenseRead k s).Leaves (Billed s) := by
  unfold judgeSuspenseRead
  split; · trivial
  exact .refl s

theorem judgeAccountAdd_billed (f s) : (judgeAccountAdd f s).Leaves (Billed s) := by
  unfold judgeAccountAdd
  split; · trivial
  next range =>
  split; · trivial
  next tariff _ =>
  split; · trivial
  next absent =>
  split; · trivial
  next i h place => exact Bills.billed (.add s.abu f.1 tariff i h (by simpa using range) absent place)

/-- A request that changes the account it finds, its key, its place and its banks standing. -/
theorem billed_setEntry {i : Fin 256} {e : DirEntry} (kept : e.valid = true → s.abu.directory[i].valid = true ∧
      e.key = s.abu.directory[i].key ∧ e.secondary = s.abu.directory[i].secondary ∧
      e.banks = s.abu.directory[i].banks) : Billed s (setEntry i e s) :=
  Bills.billed (.write s.abu i e kept)

theorem leaves_found {key : Nat} {f : Fin 256 → DirEntry → Answer}
    (h : ∀ i, (f i s.abu.directory[i]).Leaves (Billed s)) : (withAccount key s f).Leaves (Billed s) := by
  unfold withAccount
  repeat' split
  · trivial
  · trivial
  · exact h _

theorem judgeAccountRemove_billed (k s) : (judgeAccountRemove k s).Leaves (Billed s) := by
  refine leaves_found fun i => ?_
  split
  · trivial
  · exact billed_setEntry nofun

theorem judgeAccountSuspend_billed (k s) : (judgeAccountSuspend k s).Leaves (Billed s) :=
  leaves_found fun _ => billed_setEntry fun valid => ⟨valid, rfl, rfl, rfl⟩

theorem judgeAccountResume_billed (k s) : (judgeAccountResume k s).Leaves (Billed s) :=
  leaves_found fun _ => billed_setEntry fun valid => ⟨valid, rfl, rfl, rfl⟩

theorem judgeAccountTariff_billed (f s) : (judgeAccountTariff f s).Leaves (Billed s) := by
  unfold judgeAccountTariff
  split; · trivial
  split; · trivial
  exact leaves_found fun _ => billed_setEntry fun valid => ⟨valid, rfl, rfl, rfl⟩

/-- A request that writes the lookaside, the tables or the statements. -/
theorem billed_tables {l q m v}
    (h : t.abu = { s.abu with lookaside := l, tariffs := v, bandMap := m, statements := q }) : Billed s t := by
  refine Bills.billed ?_
  rw [h]
  exact .tables s.abu l v m q

theorem judgeLookasidePurge_billed (k s) : (judgeLookasidePurge k s).Leaves (Billed s) := by
  unfold judgeLookasidePurge
  split; · exact billed_tables (by rfl)
  split; · trivial
  exact billed_tables (by rfl)

theorem judgeTariffSet_billed (f s) : (judgeTariffSet f s).Leaves (Billed s) := by
  unfold judgeTariffSet
  split; · trivial
  exact billed_tables (by rfl)

theorem judgeBandmapSet_billed (f s) : (judgeBandmapSet f s).Leaves (Billed s) := by
  unfold judgeBandmapSet
  repeat' split
  all_goals try trivial
  exact billed_tables (by rfl)

theorem judgePeriodClose_billed (f s) : (judgePeriodClose f s).Leaves (Billed s) := by
  unfold judgePeriodClose
  split; · trivial
  next idle =>
  split; · trivial
  exact (Bills.billed (t := { s with abu := { s.abu with close := .marked } }) (.mark s.abu (not_not.1 idle))).trans
    (billed_retireRun ..)

theorem judgeStatementFetch_billed (f s) : (judgeStatementFetch f s).Leaves (Billed s) := by
  have resumed : Billed s { s with abu := resumeEmission s.abu } := Bills.billed (.resume s.abu)
  unfold judgeStatementFetch
  dsimp only
  split
  all_goals exact resumed.trans (billed_tables (by rfl))

/-! ## Chapter 9 -/

theorem judgeModeStart_billed (f s) : (judgeModeStart f s).Leaves (Billed s) := by
  unfold judgeModeStart
  split; · trivial
  split; · trivial
  exact billed_modeStart s

theorem judgeModeStop_billed (f s) : (judgeModeStop f s).Leaves (Billed s) := by
  unfold judgeModeStop
  split; · trivial
  exact billed_modeStop s

/-! ## Every command -/

/-- A request does to the ABU what its rule does (R167 to R169). -/
theorem billed_request {α : Type} {kind : Byte} {parse : List Byte → Option α} {judge : α → State → Answer}
    {p : List Byte} (h : request kind parse judge p s = .next t) (hj : ∀ f, (judge f s).Leaves (Billed s)) :
    Billed s t := by
  obtain h | ⟨f, code, q, u, hf, h⟩ := request_next h
  · exact h.billed
  · have done := hj f
    rw [hf] at done
    exact Billed.trans done h.billed

end

/-- Every command but the byte of E7H, which may complete a frame, is a chain of effects on the ABU. -/
theorem exec_billed_of_ne {c : Instr} {s t : State} (hc : c ≠ .linkStartByte) (h : exec c s = .next t) :
    Billed s t := by
  cases c with
  | coldReset lsel levels => cases h; exact Bills.billed (.cold s.abu)
  | warmReset => cases h; exact billed_warmReset s
  | identify p => exact billed_request h fun _ => Billed.refl s
  | status p => exact billed_request h fun _ => Billed.refl s
  | modeStart p => exact billed_request h (judgeModeStart_billed · s)
  | modeStop p => exact billed_request h (judgeModeStop_billed · s)
  | restart p => exact billed_request h fun _ => Billed.refl s
  | clockSet p => exact billed_request h (judgeClockSet_billed · s)
  | clockTrim p => exact billed_request h (judgeClockTrim_billed · s)
  | clockRead p => exact billed_request h fun _ => Billed.refl s
  | timerSet p => exact billed_request h (judgeTimerSet_billed · s)
  | timerDisarm p => exact billed_request h (judgeTimerDisarm_billed · s)
  | captureSet p => exact billed_request h (judgeCaptureSet_billed · s)
  | captureDisarm p => exact billed_request h (judgeCaptureDisarm_billed · s)
  | captureTrigger p => exact billed_request h (judgeCaptureTrigger_billed · s)
  | captureFetch p => exact billed_request h (judgeCaptureFetch_billed · s)
  | pulseSet p => exact billed_request h (judgePulseSet_billed · s)
  | pulseRead p => exact billed_request h fun _ => leaves_checkRange (Billed.refl s)
  | eventSet p => exact billed_request h (judgeEventSet_billed · s)
  | eventRead p => exact billed_request h fun _ => Billed.refl s
  | pointSet p => exact billed_request h (judgePointSet_billed · s)
  | pointRead p => exact billed_request h fun _ => leaves_checkRange (Billed.refl s)
  | gradeSet p => exact billed_request h (judgeGradeSet_billed · s)
  | holderSet p => exact billed_request h (judgeHolderSet_billed · s)
  | gradeRead p => exact billed_request h (judgeGradeRead_billed · s)
  | consumerSet p => exact billed_request h (judgeConsumerSet_billed · s)
  | consumerEnable p => exact billed_request h (judgeConsumerEnable_billed · s)
  | requestSet p => exact billed_request h (judgeRequestSet_billed · s)
  | consumerRead p => exact billed_request h (judgeConsumerRead_billed · s)
  | stepRead p => exact billed_request h fun _ => Billed.refl s
  | driveSet p => exact billed_request h (judgeDriveSet_billed · s)
  | driveSetpoint p => exact billed_request h (judgeDriveSetpoint_billed · s)
  | driveStart p => exact billed_request h (judgeDriveStart_billed · s)
  | driveStop p => exact billed_request h (judgeDriveStop_billed · s)
  | drivePosition p => exact billed_request h (judgeDrivePosition_billed · s)
  | driveRead p => exact billed_request h fun _ => leaves_checkRange (Billed.refl s)
  | exportSet p => exact billed_request h (judgeExportSet_billed · s)
  | nominate p => exact billed_request h (judgeNominate_billed · s)
  | nominateCancel p => exact billed_request h fun _ => Billed.refl s
  | nominateAmend p => exact billed_request h (judgeNominateAmend_billed · s)
  | exportArm p => exact billed_request h (judgeExportArm_billed · s)
  | exportHalt p => exact billed_request h (judgeExportHalt_billed · s)
  | exportRelease p => exact billed_request h (judgeExportRelease_billed · s)
  | curtail p => exact billed_request h (judgeCurtail_billed · s)
  | exportLogFetch p => exact billed_request h (judgeExportLogFetch_billed · s)
  | exportRead p => exact billed_request h fun _ => Billed.refl s
  | nominationRead p => exact billed_request h (judgeNominationRead_billed · s)
  | meterSet p => exact billed_request h (judgeMeterSet_billed · s)
  | meterKey p => exact billed_request h (judgeMeterKey_billed · s)
  | meterConfirm p => exact billed_request h (judgeMeterConfirm_billed · s)
  | meterRead p => exact billed_request h (judgeMeterRead_billed · s)
  | retireRead p => exact billed_request h (judgeRetireRead_billed · s)
  | accountAdd p => exact billed_request h (judgeAccountAdd_billed · s)
  | accountRemove p => exact billed_request h (judgeAccountRemove_billed · s)
  | accountSuspend p => exact billed_request h (judgeAccountSuspend_billed · s)
  | accountResume p => exact billed_request h (judgeAccountResume_billed · s)
  | accountTariff p => exact billed_request h (judgeAccountTariff_billed · s)
  | accountRead p => exact billed_request h fun _ => leaves_withAccount fun _ _ => Billed.refl s
  | directoryRead p => exact billed_request h fun _ => leaves_checkRange (Billed.refl s)
  | lookasidePurge p => exact billed_request h (judgeLookasidePurge_billed · s)
  | lookasideRead p => exact billed_request h fun _ => Billed.refl s
  | tariffSet p => exact billed_request h (judgeTariffSet_billed · s)
  | bandmapSet p => exact billed_request h (judgeBandmapSet_billed · s)
  | tariffRead p => exact billed_request h fun _ => Billed.refl s
  | suspenseRead p => exact billed_request h (judgeSuspenseRead_billed · s)
  | periodClose p => exact billed_request h (judgePeriodClose_billed · s)
  | statementFetch p => exact billed_request h (judgeStatementFetch_billed · s)
  | periodRead p => exact billed_request h fun _ => Billed.refl s
  | conditionRead p => exact billed_request h fun _ => Billed.refl s
  | conditionClear p => exact billed_request h fun _ => Billed.refl s
  | conditionRaise p => exact billed_request h (judgeConditionRaise_billed · s)
  | conditionRoute p => exact billed_request h (judgeConditionRoute_billed · s)
  | unknownKind kind p => exact billed_unknownKind (p := p) h
  | linkFrameBroken cause => exact billed_linkFrameBroken h
  | frameDiscarded bytes => cases h; exact billed_ite (relinked_discardFrame ..).billed
  | replySent => exact billed_replySent h
  | timebaseTick o => cases h; exact billed_tick o s
  | pointAgeExpiry sp o =>
    cases h
    split
    · exact billed_of_abu rfl
    · exact billed_tick o s
  | stepBoundary o => cases h; exact billed_ite (billed_tick o s)
  | timerExpiry n o => cases h; exact billed_ite (billed_tick o s)
  | pulseArrival ch => cases h; exact .refl s
  | eventLineChange l levels => cases h; exact billed_ite (reports_sampleLines levels s).billed
  | sensorRecord bytes => exact billed_sensorRecord h
  | sensorRecordBroken bytes cause => exact billed_sensorRecordBroken h
  | readingExpiry i o => cases h; exact billed_ite (billed_tick o s)
  | emissionStep => exact billed_emissionStep h
  | periodStart ch => exact billed_periodStart h
  | activeTimeEnd ch => exact billed_activeTimeEnd h
  | pairTick ch => cases h; exact billed_ite (.refl s)
  | moveEnd ch => cases h; exact billed_ite (.refl s)
  | pauseEnd ch => cases h; exact billed_ite (.refl s)
  | eventLineSample levels => cases h; exact (reports_sampleLines levels s).billed
  | linkStartByte => exact absurd rfl hc
  | sensorStartByte => cases h; exact billed_sensorByte ..

theorem collectByte_billed {b l s t} (h : collectByte b l s = .next t) : Billed s t := by
  unfold collectByte completeFrame at h
  dsimp only at h
  split at h
  · cases h
    exact (relinked_breakFrame ..).billed
  split at h
  · split at h
    · cases h
      exact (relinked_discardFrame ..).billed
    · rw [dispatchFrame_eq_exec] at h
      exact exec_billed_of_ne (requestOf_ne_linkStartByte _ _) h
  · cases h
    exact .refl s

/-- Every command is a chain of effects on the ABU. -/
theorem exec_billed {c : Instr} {s t : State} (h : exec c s = .next t) : Billed s t := by
  by_cases hc : c = .linkStartByte
  · subst hc
    have h : execLinkStartByte s = .next t := h
    unfold execLinkStartByte at h
    split at h
    · cases h
      exact (relinked_huntByte ..).billed
    · exact collectByte_billed h
  · exact exec_billed_of_ne hc h

/-- Every step is a chain of effects on the ABU. -/
theorem step_billed {s t : State} (h : step s = .next t) : Billed s t := by
  unfold step at h
  split at h
  · cases h
    exact .refl s
  · next rest _ => exact .trans (billed_of_abu (t := { s with pending := rest }) rfl) (exec_billed h)

end Sys2Proof.Machine
end

section
/-!
Booking and emission: to which holder a reading is booked (R155), and what emission finds at its cursor (R160).
-/
namespace Sys2Proof.Machine

/-! ## Booking -/

section
variable {r : Reading} {f : Finished} {s : State}

/-- The part after the key of a reading has been resolved, where it has one (R151, R155). -/
def resolvedFor (r : Reading) (s : State) : State :=
  { s with abu := { s.abu with
      lookaside := if r.key = 0 then s.abu.lookaside else (resolveKey r.key s.abu).2.lookaside } }

/-- A reading that has no account, or one that is suspended (R155). -/
def Unassigned (r : Reading) (a : Abu) : Prop :=
  r.key = 0 ∨ (resolveKey r.key a).1 = none ∨
    ∃ x : Resolution, (resolveKey r.key a).1 = some x ∧ a.directory[x.location].suspended = true

theorem resolvedFor_key (key : r.key ≠ 0) : resolvedFor r s = { s with abu := (resolveKey r.key s.abu).2 } := by
  unfold resolvedFor
  rw [if_neg key, ← resolveKey_eq]

theorem resolveKey_directory (key a) : (resolveKey key a).2.directory = a.directory := by rw [resolveKey_eq]

/-- A reading without an account in force is booked to the suspense of its meter (R157). -/
theorem bookReading_unassigned (h : Unassigned r s.abu) : bookReading r f s = bookSuspense r f (resolvedFor r s) := by
  unfold bookReading
  dsimp only
  split
  · next key =>
    unfold resolvedFor
    rw [if_pos key]
  · next key =>
    rw [resolvedFor_key key, resolveKey_directory]
    obtain key' | absent | ⟨x, found, suspended⟩ := h
    · exact absurd key' key
    · rw [absent]
    · rw [found]
      exact if_pos suspended

/-- A reading with an account in force is booked to it (R156). -/
theorem bookReading_assigned {x : Resolution} (key : r.key ≠ 0) (found : (resolveKey r.key s.abu).1 = some x)
    (active : s.abu.directory[x.location].suspended = false) :
    bookReading r f s = bookAccount x r f (resolvedFor r s) := by
  unfold bookReading
  dsimp only
  rw [if_neg key, resolvedFor_key key, resolveKey_directory, found]
  exact if_neg (by rw [active]; decide)

/-- A booking goes to the suspense of the meter or to an account (R155). -/
theorem bookReading_cases (r f s) : bookReading r f s = bookSuspense r f (resolvedFor r s) ∨
    ∃ x, bookReading r f s = bookAccount x r f (resolvedFor r s) := by
  by_cases h : Unassigned r s.abu
  · exact .inl (bookReading_unassigned h)
  · simp only [Unassigned, not_or, not_exists, not_and, Bool.not_eq_true] at h
    obtain ⟨key, present, active⟩ := h
    obtain ⟨x, found⟩ := Option.ne_none_iff_exists'.1 present
    exact .inr ⟨x, bookReading_assigned key found (active x found)⟩

end

/-! ## The place at the cursor -/

section
variable {a : Abu} {i : Fin 256} {m : Fin 16}

/-- The place at the cursor is entry `i`, and a statement of it is due (R160). -/
def AccountDue (a : Abu) (i : Fin 256) : Prop :=
  a.cursor = i.1 ∧ a.directory[i].valid = true ∧ 0 < a.directory[i].banks[a.active + 1].readings

/-- The place at the cursor is the suspense of meter `m`, and a statement of it is due (R160). -/
def SuspenseDue (a : Abu) (m : Fin 16) : Prop := a.cursor = 256 + m.1 ∧ 0 < a.suspense[m][a.active + 1].readings

/-- No statement of the place at the cursor is due. -/
def NoneDue (a : Abu) : Prop := (∀ i, ¬ AccountDue a i) ∧ ∀ m, ¬ SuspenseDue a m

/-- The statement of an account's closing bank (R160). -/
def accountStatement (a : Abu) (period : Nat) (i : Fin 256) : Statement :=
  let e := a.directory[i]
  let b := e.banks[a.active + 1]
  ⟨.account e.key e.tariff, period, b.recKJ, b.supKJ, b.charge, b.readings, b.estimated⟩

/-- The statement of the closing bank of a suspense (R160). -/
def suspenseStatement (a : Abu) (period : Nat) (m : Fin 16) : Statement :=
  let b := a.suspense[m][a.active + 1]
  ⟨.suspense m, period, b.recKJ, b.supKJ, 0, b.readings, b.estimated⟩

/-- The closing bank of an account cleared (R160). -/
def clearAccount (a : Abu) (i : Fin 256) : Abu :=
  { a with directory := put a.directory i { a.directory[i] with
      banks := put a.directory[i].banks (a.active + 1) Bank.zero } }

/-- The closing bank of a suspense cleared (R160). -/
def clearSuspense (a : Abu) (m : Fin 16) : Abu :=
  { a with suspense := put a.suspense m (put a.suspense[m] (a.active + 1) SuspenseBank.zero) }

theorem placeAt_account (due : AccountDue a i) (period) :
    placeAt a period = some (accountStatement a period i, clearAccount a i) := by
  obtain ⟨cursor, due⟩ := due
  have place : asFin 256 a.cursor = some i := asFin_eq_some.2 cursor
  unfold placeAt
  dsimp only
  rw [place]
  exact if_pos due

theorem placeAt_suspense (due : SuspenseDue a m) (period) :
    placeAt a period = some (suspenseStatement a period m, clearSuspense a m) := by
  obtain ⟨cursor, readings⟩ := due
  have account : asFin 256 a.cursor = none := asFin_none (by omega)
  have place : asFin 16 (a.cursor - 256) = some m := asFin_eq_some.2 (by omega)
  unfold placeAt
  dsimp only
  rw [account]
  dsimp only
  rw [place]
  exact if_pos readings

theorem placeAt_noneDue (h : NoneDue a) (period) : placeAt a period = none := by
  obtain ⟨accounts, suspenses⟩ := h
  unfold placeAt
  dsimp only
  split
  · next i hi => exact if_neg fun ⟨valid, readings⟩ => accounts i ⟨asFin_eq_some.1 hi, valid, readings⟩
  · split
    · next beyond _ m hm =>
      refine if_neg fun readings => suspenses m ⟨?_, readings⟩
      have place := asFin_eq_some.1 hm
      have far : ¬ a.cursor < 256 := fun near => by
        have found : asFin 256 a.cursor = some ⟨a.cursor, near⟩ := asFin_val (⟨a.cursor, near⟩ : Fin 256)
        rw [beyond] at found
        cases found
      omega
    · rfl

/-- Nothing is due at the cursor, or one statement is. -/
theorem due_cases (a) : NoneDue a ∨ (∃ i, AccountDue a i) ∨ ∃ m, SuspenseDue a m := by
  by_cases accounts : ∃ i, AccountDue a i
  · exact .inr (.inl accounts)
  by_cases suspenses : ∃ m, SuspenseDue a m
  · exact .inr (.inr suspenses)
  · exact .inl ⟨not_exists.1 accounts, not_exists.1 suspenses⟩

end

/-! ## Emission -/

section
variable {s : State} {t : Statement} {b : Abu}

/-- The ABU after the cursor has passed its place: at the last place the close ends (R160). -/
def passedPlace (a : Abu) : Abu :=
  if a.cursor = 271 then { a with cursor := 272, close := .idle, closing := none }
  else { a with cursor := a.cursor + 1 }

theorem advanceCursor_eq (inside : s.abu.cursor < 272) (period) : advanceCursor period s =
    { s with
      abu := passedPlace s.abu
      cnu := if s.abu.cursor = 271 then raiseCond condCloseDone period s.sck.pos s.cnu else s.cnu } := by
  unfold advanceCursor passedPlace
  by_cases last : s.abu.cursor = 271
  · rw [if_neg (by rw [last]; decide), if_pos last, if_pos last]
    rfl
  · have more : s.abu.cursor + 1 < Config.emissionPlaces := show s.abu.cursor + 1 < 272 by omega
    rw [if_pos more, if_neg last, if_neg last]

theorem emitPlace_noneDue (h : NoneDue s.abu) : emitPlace s = advanceCursor (s.abu.closing.getD 0) s := by
  unfold emitPlace
  dsimp only
  rw [placeAt_noneDue h]

theorem emitPlace_full (h : placeAt s.abu (s.abu.closing.getD 0) = some (t, b)) (full : 32 ≤ s.abu.statements.length) :
    emitPlace s = { s with abu := { s.abu with close := .paused } } := by
  unfold emitPlace
  dsimp only
  rw [h]
  exact if_pos full

theorem emitPlace_room (h : placeAt s.abu (s.abu.closing.getD 0) = some (t, b)) (room : s.abu.statements.length < 32) :
    emitPlace s = advanceCursor (s.abu.closing.getD 0)
      (appendStatement t { s with abu := { b with emitted := b.emitted + 1 } }) := by
  unfold emitPlace
  dsimp only
  rw [h]
  exact if_neg (Nat.not_le.2 room)

end
end Sys2Proof.Machine
end

section
/-!
The directory's invariant (R144, R146): no two valid entries hold one key, and each lies in the group that its H mark
names.
-/
namespace Sys2Proof.Machine

section
variable {d e : Vector DirEntry 256} {a b : Abu}

/-- Every valid entry of `e` was valid in `d`, with the same key and the same H mark. -/
def KeepsAccounts (d e : Vector DirEntry 256) : Prop :=
  ∀ i : Fin 256, e[i].valid = true → d[i].valid = true ∧ e[i].key = d[i].key ∧ e[i].secondary = d[i].secondary

theorem KeepsAccounts.refl (d) : KeepsAccounts d d := fun _ valid => ⟨valid, rfl, rfl⟩

theorem KeepsAccounts.sound (h : KeepsAccounts d e) (sound : DirectorySound d) : DirectorySound e := by
  obtain ⟨placed, distinct⟩ := sound
  refine ⟨fun i valid => ?_, fun i j hi hj same => ?_⟩
  · obtain ⟨valid', key, secondary⟩ := h i valid
    rw [key, secondary]
    exact placed i valid'
  · obtain ⟨hi', key, -⟩ := h i hi
    obtain ⟨hj', key', -⟩ := h j hj
    exact distinct i j hi' hj' (key.symm.trans (same.trans key'))

/-- One entry replaced by one that is no valid entry, or holds the same key at the same place. -/
theorem keepsAccounts_put {i : Fin 256} {x : DirEntry}
    (h : x.valid = true → d[i].valid = true ∧ x.key = d[i].key ∧ x.secondary = d[i].secondary) :
    KeepsAccounts d (put d i x) :=
  put_forall (P := fun k (y : DirEntry) => y.valid = true → d[k].valid = true ∧ y.key = d[k].key ∧
    y.secondary = d[k].secondary) (KeepsAccounts.refl d) h

/-- A directory where every entry stands but for its banks. -/
theorem keepsAccounts_banks {i : Fin 256} (banks : Vector Bank 2) : KeepsAccounts d (put d i { d[i] with banks }) :=
  keepsAccounts_put fun valid => ⟨valid, rfl, rfl⟩

/-- A new account is placed by its H mark, and no other entry holds its key (R146). -/
theorem directorySound_add {key tariff i h} (sound : DirectorySound d) (range : keyInRange key = true)
    (absent : lookup d key = none) (place : placeFor d key = some (i, h)) :
    DirectorySound (put d i (newAccount key h tariff)) := by
  obtain ⟨placed, distinct⟩ := sound
  obtain ⟨-, group⟩ := placeFor_place place
  have added : ∀ j : Fin 256, (j = i ∧ (put d i (newAccount key h tariff))[j] = newAccount key h tariff) ∨
      (j ≠ i ∧ (put d i (newAccount key h tariff))[j] = d[j]) := fun j => by
    by_cases hj : j = i
    · exact .inl ⟨hj, by rw [hj, put_getElem_self]⟩
    · exact .inr ⟨hj, put_getElem_ne _ _ (Ne.symm hj)⟩
  have other : ∀ j : Fin 256, d[j].valid = true → d[j].key ≠ key := fun j =>
    not_holds_of_lookup absent (placed j)
  refine ⟨fun j => ?_, fun j k => ?_⟩
  · obtain ⟨rfl, new⟩ | ⟨-, old⟩ := added j
    · rw [EntryPlaced, new]
      exact fun _ => ⟨range, group⟩
    · rw [EntryPlaced, old]
      exact placed j
  · obtain ⟨rfl, new⟩ | ⟨-, old⟩ := added j <;> obtain ⟨rfl, new'⟩ | ⟨-, old'⟩ := added k
    · exact fun _ _ _ => rfl
    · rw [new, old']
      exact fun _ valid same => absurd same.symm (other k valid)
    · rw [old, new']
      exact fun valid _ same => absurd same (other j valid)
    · rw [old, old']
      exact distinct j k

theorem resumeEmission_directory (a) : (resumeEmission a).directory = a.directory := by
  unfold resumeEmission
  repeat' split
  all_goals rfl

theorem keepsAccounts_bookReading (r f) (s : State) :
    KeepsAccounts s.abu.directory (bookReading r f s).abu.directory := by
  obtain h | ⟨x, h⟩ := bookReading_cases r f s
  · rw [h]
    exact .refl _
  · rw [h]
    exact keepsAccounts_banks _

theorem keepsAccounts_startClose (p) (s : State) :
    KeepsAccounts s.abu.directory (startClose p s).abu.directory := by
  intro i
  have carried : (startClose p s).abu.directory[i] = carryRem s.abu.active s.abu.directory[i] := each_getElem ..
  rw [carried]
  unfold carryRem
  split
  · exact fun valid => ⟨valid, rfl, rfl⟩
  · exact fun valid => ⟨valid, rfl, rfl⟩

theorem advanceCursor_directory (p) (s : State) : (advanceCursor p s).abu.directory = s.abu.directory := by
  unfold advanceCursor
  split <;> rfl

theorem keepsAccounts_emitPlace (s : State) : KeepsAccounts s.abu.directory (emitPlace s).abu.directory := by
  have emitted : ∀ t b, placeAt s.abu (s.abu.closing.getD 0) = some (t, b) →
      KeepsAccounts s.abu.directory b.directory → KeepsAccounts s.abu.directory (emitPlace s).abu.directory :=
    fun t b place kept => by
      by_cases full : 32 ≤ s.abu.statements.length
      · rw [emitPlace_full place full]
        exact .refl _
      · rw [emitPlace_room place (Nat.not_le.1 full), advanceCursor_directory]
        exact kept
  obtain h | ⟨i, due⟩ | ⟨m, due⟩ := due_cases s.abu
  · rw [emitPlace_noneDue h, advanceCursor_directory]
    exact .refl _
  · exact emitted _ _ (placeAt_account due _) (keepsAccounts_banks _)
  · exact emitted _ _ (placeAt_suspense due _) (.refl _)

theorem directorySound_cold : DirectorySound Abu.cold.directory := by
  have free : ∀ i : Fin 256, Abu.cold.directory[i].valid = false := fun i =>
    congrArg DirEntry.valid (Vector.getElem_replicate ..)
  exact ⟨fun i valid => absurd valid (by rw [free]; decide), fun i _ valid => absurd valid (by rw [free]; decide)⟩

/-- One effect keeps the directory sound. -/
theorem Bills.directorySound (h : Bills a b) (sound : DirectorySound a.directory) : DirectorySound b.directory := by
  cases h with
  | tables => exact sound
  | cold => exact directorySound_cold
  | add _ key tariff i h range absent place => exact directorySound_add sound range absent place
  | write _ i e kept =>
    refine (keepsAccounts_put fun valid => ?_).sound sound
    obtain ⟨valid', key, secondary, -⟩ := kept valid
    exact ⟨valid', key, secondary⟩
  | book r f s => exact (keepsAccounts_bookReading r f s).sound sound
  | mark => exact sound
  | flip p s => exact (keepsAccounts_startClose p s).sound sound
  | emit s => exact (keepsAccounts_emitPlace s).sound sound
  | resume =>
    rw [resumeEmission_directory]
    exact sound

end

/-- Settles O59: every step is a chain of effects on the ABU, of which only a new account brings a key into the
directory. -/
theorem directoryStaysSound : Obligations.DirectoryStaysSound := by
  unfold Obligations.DirectoryStaysSound
  intro s t h
  exact (step_billed h).keep (P := fun a => DirectorySound a.directory) fun _ _ e => e.directorySound

end Sys2Proof.Machine
end

section
/-!
The invariant of the banks (R143, R156, R159, R160): outside an emission the banks that are not active are empty, within
one those of the places passed are.
-/
namespace Sys2Proof.Machine

/-! ## The banks of one place -/

/-- Emission has still to judge place `k`. -/
def StillDue (a : Abu) (k : Nat) : Prop := emissionInProgress a = true ∧ a.cursor ≤ k

/-- The banks of a directory entry; the closing one holds readings only where its emission is still due. -/
def EntryBanks (active : Fin 2) (due : Prop) (e : DirEntry) : Prop :=
  e.valid = true → BankPlain e.banks[active] ∧ BankPlain e.banks[active + 1] ∧ e.banks[active + 1].rem = 0 ∧
    (e.banks[active + 1].readings ≠ 0 → due)

/-- The banks of a suspense, in the same way. -/
def SuspenseBanks (active : Fin 2) (due : Prop) (v : Vector SuspenseBank 2) : Prop :=
  (v[active + 1].readings = 0 → v[active + 1] = SuspenseBank.zero) ∧
  (v[active].readings = 0 → v[active] = SuspenseBank.zero) ∧ (v[active + 1].readings ≠ 0 → due)

/-- The banks are sound place by place. -/
theorem banksSound_iff {a : Abu} : BanksSound a ↔
    (∀ i : Fin 256, EntryBanks a.active (StillDue a i.1) a.directory[i]) ∧
    (∀ m : Fin 16, SuspenseBanks a.active (StillDue a (256 + m.1)) a.suspense[m]) ∧
    (emissionInProgress a = true → a.cursor < 272) := Iff.rfl

section
variable {active : Fin 2} {p q : Prop} {e : DirEntry} {v : Vector SuspenseBank 2}

theorem active_ne_closing (active : Fin 2) : active ≠ active + 1 := by revert active; decide
theorem closing_closing (active : Fin 2) : active + 1 + 1 = active := by revert active; decide
theorem getElem_closing {α : Type} (v : Vector α 2) (active : Fin 2) : v[active + 1 + 1] = v[active] := by
  simp only [closing_closing]

theorem EntryBanks.mono (h : EntryBanks active p e)
    (pq : e.valid = true → e.banks[active + 1].readings ≠ 0 → p → q) : EntryBanks active q e := fun valid => by
  obtain ⟨plain, plain', rem, due⟩ := h valid
  exact ⟨plain, plain', rem, fun held => pq valid held (due held)⟩

theorem SuspenseBanks.mono (h : SuspenseBanks active p v) (pq : v[active + 1].readings ≠ 0 → p → q) :
    SuspenseBanks active q v := by
  obtain ⟨closing, current, due⟩ := h
  exact ⟨closing, current, fun held => pq held (due held)⟩

theorem bankPlain_zero : BankPlain Bank.zero := by decide

/-- A bank that has taken a reading has its rem below one MWh and a reading count above 0 (R156). -/
theorem bankPlain_bookBank (prices band f b) : BankPlain (bookBank prices band f b) := by
  refine ⟨Nat.mod_lt _ (by decide), fun empty => ?_⟩
  have counted : (bookBank prices band f b).readings = min (b.readings + 1) 65535 := rfl
  omega

/-- A booking changes the active bank alone (R156). -/
theorem EntryBanks.book (h : EntryBanks active p e) (prices band f) : EntryBanks active p { e with
    banks := put e.banks active (bookBank prices band f e.banks[active]) } := by
  unfold EntryBanks
  dsimp only
  rw [put_getElem_self, put_getElem_ne _ _ (active_ne_closing active)]
  intro valid
  obtain ⟨-, plain', rem, due⟩ := h valid
  exact ⟨bankPlain_bookBank .., plain', rem, due⟩

theorem SuspenseBanks.book (h : SuspenseBanks active p v) (f) :
    SuspenseBanks active p (put v active (bookSuspenseBank f v[active])) := by
  unfold SuspenseBanks
  rw [put_getElem_self, put_getElem_ne _ _ (active_ne_closing active)]
  obtain ⟨closing, -, due⟩ := h
  refine ⟨closing, fun empty => ?_, due⟩
  have counted : (bookSuspenseBank f v[active]).readings = min (v[active].readings + 1) 65535 := rfl
  omega

/-- A flip makes the active bank the closing one, its rem carried to the new active bank (R159). -/
theorem EntryBanks.flip (h : EntryBanks active p e) (hq : q) : EntryBanks (active + 1) q (carryRem active e) := by
  unfold EntryBanks
  simp only [getElem_closing]
  unfold carryRem
  split
  · next valid =>
    obtain ⟨⟨rem, plain⟩, ⟨-, plain'⟩, -, -⟩ := h valid
    dsimp only
    rw [put_getElem_self, put_getElem_ne _ _ (active_ne_closing active), put_getElem_self]
    exact fun _ => ⟨⟨rem, plain'⟩, ⟨show 0 < 3600000 by decide, plain⟩, rfl, fun _ => hq⟩
  · next invalid => exact fun valid => absurd valid invalid

theorem SuspenseBanks.flip (h : SuspenseBanks active p v) (hq : q) : SuspenseBanks (active + 1) q v := by
  unfold SuspenseBanks
  simp only [getElem_closing]
  obtain ⟨closing, current, -⟩ := h
  exact ⟨current, closing, fun _ => hq⟩

/-- An emitted bank is cleared, and nothing of it is due any more (R160). -/
theorem EntryBanks.clear (h : EntryBanks active p e) : EntryBanks active q { e with
    banks := put e.banks (active + 1) Bank.zero } := by
  unfold EntryBanks
  dsimp only
  rw [put_getElem_self, put_getElem_ne _ _ (active_ne_closing active).symm]
  intro valid
  obtain ⟨plain, -, -, -⟩ := h valid
  exact ⟨plain, bankPlain_zero, rfl, fun held => absurd rfl held⟩

theorem SuspenseBanks.clear (h : SuspenseBanks active p v) :
    SuspenseBanks active q (put v (active + 1) SuspenseBank.zero) := by
  unfold SuspenseBanks
  rw [put_getElem_self, put_getElem_ne _ _ (active_ne_closing active).symm]
  obtain ⟨-, current, -⟩ := h
  exact ⟨fun _ => rfl, current, fun held => absurd rfl held⟩

end

/-! ## The banks of the ABU -/

section
variable {a b : Abu}

/-- The banks of every place, where nothing is due of the one at the cursor: what stands before the cursor's advance
(R160). -/
def PlacePassed (a : Abu) : Prop :=
  (∀ i : Fin 256, EntryBanks a.active (StillDue a i.1 ∧ a.cursor ≠ i.1) a.directory[i]) ∧
  ∀ m : Fin 16, SuspenseBanks a.active (StillDue a (256 + m.1) ∧ a.cursor ≠ 256 + m.1) a.suspense[m]

/-- The cursor's advance keeps the banks sound (R160). -/
theorem banksSound_passedPlace (inside : a.cursor < 272) (h : PlacePassed a) : BanksSound (passedPlace a) := by
  obtain ⟨accounts, suspenses⟩ := h
  unfold passedPlace
  split
  · next last =>
    have judged : ∀ k, k < 272 → ¬ (StillDue a k ∧ a.cursor ≠ k) := fun k hk ⟨⟨_, cursor⟩, other⟩ => by omega
    refine banksSound_iff.2 ⟨fun i => (accounts i).mono fun _ _ due => ?_, fun m => (suspenses m).mono fun _ due => ?_,
      nofun⟩
    · exact absurd due (judged _ (by omega))
    · exact absurd due (judged _ (by omega))
  · next more =>
    have later : ∀ k, StillDue a k ∧ a.cursor ≠ k → StillDue { a with cursor := a.cursor + 1 } k :=
      fun k ⟨⟨progress, cursor⟩, other⟩ => ⟨progress, show a.cursor + 1 ≤ k by omega⟩
    exact banksSound_iff.2 ⟨fun i => (accounts i).mono fun _ _ => later _, fun m => (suspenses m).mono fun _ => later _,
      fun _ => show a.cursor + 1 < 272 by omega⟩

theorem placePassed_noneDue (h : BanksSound a) (clear : NoneDue a) : PlacePassed a := by
  obtain ⟨accounts, suspenses, -⟩ := banksSound_iff.1 h
  refine ⟨fun i => (accounts i).mono fun valid held due => ⟨due, fun cursor => ?_⟩,
    fun m => (suspenses m).mono fun held due => ⟨due, fun cursor => ?_⟩⟩
  · exact clear.1 i ⟨cursor, valid, Nat.pos_of_ne_zero held⟩
  · exact clear.2 m ⟨cursor, Nat.pos_of_ne_zero held⟩

/-- A place other than the one at the cursor. -/
theorem place_ne {k n : Nat} (cursor : a.cursor = n) (other : n ≠ k) : a.cursor ≠ k := cursor.trans_ne other

theorem placePassed_clearAccount (h : BanksSound a) {i : Fin 256} (due : AccountDue a i) :
    PlacePassed (clearAccount a i) := by
  obtain ⟨accounts, suspenses, -⟩ := banksSound_iff.1 h
  obtain ⟨cursor, -, -⟩ := due
  refine ⟨fun k => ?_, fun m => (suspenses m).mono fun _ due => ⟨due, place_ne cursor (by omega)⟩⟩
  by_cases hk : i = k
  · subst hk
    have cleared : (clearAccount a i).directory[i] = _ := put_getElem_self ..
    rw [cleared]
    exact (accounts i).clear
  · have stands : (clearAccount a i).directory[k] = a.directory[k] := put_getElem_ne _ _ hk
    rw [stands]
    exact (accounts k).mono fun _ _ due => ⟨due, place_ne cursor fun same => hk (Fin.ext same)⟩

theorem placePassed_clearSuspense (h : BanksSound a) {m : Fin 16} (due : SuspenseDue a m) :
    PlacePassed (clearSuspense a m) := by
  obtain ⟨accounts, suspenses, -⟩ := banksSound_iff.1 h
  obtain ⟨cursor, -⟩ := due
  refine ⟨fun i => (accounts i).mono fun _ _ due => ⟨due, place_ne cursor (by omega)⟩, fun k => ?_⟩
  by_cases hk : m = k
  · subst hk
    have cleared : (clearSuspense a m).suspense[m] = _ := put_getElem_self ..
    rw [cleared]
    exact (suspenses m).clear
  · have stands : (clearSuspense a m).suspense[k] = a.suspense[k] := put_getElem_ne _ _ hk
    rw [stands]
    exact (suspenses k).mono fun _ due => ⟨due, place_ne cursor fun same => hk (Fin.ext (by omega))⟩

/-! ## Every effect -/

theorem banksSound_cold : BanksSound Abu.cold := by
  have entry : ∀ i : Fin 256, Abu.cold.directory[i] = DirEntry.cold := fun i => Vector.getElem_replicate ..
  have suspense : ∀ m : Fin 16, Abu.cold.suspense[m] = Vector.replicate 2 SuspenseBank.zero := fun m =>
    Vector.getElem_replicate ..
  refine banksSound_iff.2 ⟨fun i => ?_, fun m => ?_, nofun⟩
  · rw [entry]
    nofun
  · rw [suspense]
    exact ⟨fun _ => rfl, fun _ => rfl, fun held => absurd rfl held⟩

/-- An entry, or a suspense, replaced by one whose banks are sound. -/
theorem banksSound_setEntry (h : BanksSound a) {i : Fin 256} {e : DirEntry}
    (he : EntryBanks a.active (StillDue a i.1) e) : BanksSound { a with directory := put a.directory i e } := by
  obtain ⟨accounts, suspenses, inside⟩ := banksSound_iff.1 h
  exact banksSound_iff.2 ⟨put_forall (P := fun k (x : DirEntry) => EntryBanks a.active (StillDue a k.1) x) accounts he,
    suspenses, inside⟩

theorem banksSound_setSuspense (h : BanksSound a) {m : Fin 16} {v : Vector SuspenseBank 2}
    (hv : SuspenseBanks a.active (StillDue a (256 + m.1)) v) :
    BanksSound { a with suspense := put a.suspense m v } := by
  obtain ⟨accounts, suspenses, inside⟩ := banksSound_iff.1 h
  exact banksSound_iff.2 ⟨accounts, put_forall
    (P := fun k (x : Vector SuspenseBank 2) => SuspenseBanks a.active (StillDue a (256 + k.1)) x) suspenses hv, inside⟩

theorem banksSound_bookReading {r f} {s : State} (h : BanksSound s.abu) : BanksSound (bookReading r f s).abu := by
  have resolved : BanksSound (resolvedFor r s).abu := h
  obtain ⟨accounts, suspenses, -⟩ := banksSound_iff.1 h
  obtain booked | ⟨x, booked⟩ := bookReading_cases r f s
  · rw [booked]
    exact banksSound_setSuspense resolved ((suspenses r.meter).book f)
  · rw [booked]
    exact banksSound_setEntry resolved ((accounts x.location).book _ _ f)

theorem banksSound_startClose {s : State} (h : BanksSound s.abu) (p) : BanksSound (startClose p s).abu := by
  obtain ⟨accounts, suspenses, -⟩ := banksSound_iff.1 h
  have due : ∀ k, StillDue (startClose p s).abu k := fun k => ⟨rfl, Nat.zero_le k⟩
  refine banksSound_iff.2 ⟨fun i => ?_, fun m => (suspenses m).flip (due _), fun _ => show 0 < 272 by decide⟩
  have carried : (startClose p s).abu.directory[i] = carryRem s.abu.active s.abu.directory[i] := each_getElem ..
  rw [carried]
  exact (accounts i).flip (due _)

/-- A change of the close state within an emission, or outside one, changes nothing of what is due. -/
theorem banksSound_close (h : BanksSound a) {c : CloseState}
    (same : emissionInProgress { a with close := c } = emissionInProgress a) : BanksSound { a with close := c } := by
  obtain ⟨accounts, suspenses, inside⟩ := banksSound_iff.1 h
  have due : ∀ k, StillDue a k → StillDue { a with close := c } k := fun k ⟨progress, cursor⟩ =>
    ⟨same.trans progress, cursor⟩
  exact banksSound_iff.2 ⟨fun i => (accounts i).mono fun _ _ => due _, fun m => (suspenses m).mono fun _ => due _,
    fun progress => inside (same.symm.trans progress)⟩

theorem banksSound_emitPlace {s : State} (h : BanksSound s.abu) (emitting : s.abu.close = .emitting) :
    BanksSound (emitPlace s).abu := by
  have progress : emissionInProgress s.abu = true := emissionInProgress_iff.2 (.inl emitting)
  obtain ⟨-, -, inside⟩ := banksSound_iff.1 h
  have inside : s.abu.cursor < 272 := inside progress
  have emitted : ∀ t b, placeAt s.abu (s.abu.closing.getD 0) = some (t, b) → b.cursor = s.abu.cursor →
      PlacePassed b → BanksSound (emitPlace s).abu := fun t b place cursor passed => by
    by_cases full : 32 ≤ s.abu.statements.length
    · rw [emitPlace_full place full]
      exact banksSound_close h (show true = _ from progress.symm)
    · rw [emitPlace_room place (Nat.not_le.1 full), advanceCursor_eq (show b.cursor < 272 by omega)]
      exact banksSound_passedPlace (show b.cursor < 272 by omega) passed
  obtain clear | ⟨i, due⟩ | ⟨m, due⟩ := due_cases s.abu
  · rw [emitPlace_noneDue clear, advanceCursor_eq inside]
    exact banksSound_passedPlace inside (placePassed_noneDue h clear)
  · exact emitted _ _ (placeAt_account due _) rfl (placePassed_clearAccount h due)
  · exact emitted _ _ (placeAt_suspense due _) rfl (placePassed_clearSuspense h due)

theorem banksSound_resumeEmission (h : BanksSound a) : BanksSound (resumeEmission a) := by
  unfold resumeEmission
  split
  · next paused =>
    split
    · exact h
    · exact banksSound_close h (by rw [emissionInProgress_iff.2 (.inr paused)]; rfl)
  · exact h

/-- The banks of a new account are empty (R146). -/
theorem entryBanks_newAccount (active : Fin 2) (p : Prop) (key h tariff) :
    EntryBanks active p (newAccount key h tariff) := by
  have empty : ∀ j : Fin 2, (newAccount key h tariff).banks[j] = Bank.zero := fun _ => Vector.getElem_replicate ..
  unfold EntryBanks
  rw [empty, empty]
  exact fun _ => ⟨bankPlain_zero, bankPlain_zero, rfl, fun held => absurd rfl held⟩

/-- One effect keeps the banks sound. -/
theorem Bills.banksSound (e : Bills a b) (h : BanksSound a) : BanksSound b := by
  cases e with
  | tables => exact h
  | cold => exact banksSound_cold
  | add => exact banksSound_setEntry h (entryBanks_newAccount _ _ _ _ _)
  | write _ i e kept =>
    refine banksSound_setEntry h fun valid => ?_
    obtain ⟨valid', -, -, banks⟩ := kept valid
    rw [banks]
    exact (banksSound_iff.1 h).1 i valid'
  | book => exact banksSound_bookReading h
  | mark _ idle => exact banksSound_close h (by simp [emissionInProgress, idle])
  | flip p => exact banksSound_startClose h p
  | emit s emitting => exact banksSound_emitPlace h emitting
  | resume => exact banksSound_resumeEmission h

end

/-- Settles O60: every step is a chain of effects on the ABU; a booking fills the active bank, a flip opens its
emission, and the emission clears what it passes. -/
theorem banksStaySound : Obligations.BanksStaySound := by
  unfold Obligations.BanksStaySound
  intro s t h
  exact (step_billed h).keep (P := BanksSound) fun _ _ e => e.banksSound

end Sys2Proof.Machine
end

section
/-!
The requests that find, place and change accounts (R145 to R148).
-/
namespace Sys2Proof.Machine

section
variable {s : State} {key : Nat} {i : Fin 256}

theorem parse24_range {p k} (h : parse24 p = some k) : k ≤ 16777215 := by
  simp only [parse24, Option.bind_eq_bind, Option.bind_eq_some_iff, Prod.exists, u24_eq_some, ending_eq_some] at h
  obtain ⟨_, _, ⟨range, _⟩, rfl, _⟩ := h
  exact Nat.le_of_lt_succ range

theorem parse248_range {p f} (h : parse248 p = some f) : f.1 ≤ 16777215 := by
  simp only [parse248, Option.bind_eq_bind, Option.bind_eq_some_iff, Prod.exists, u24_eq_some, ending_eq_some] at h
  obtain ⟨_, _, ⟨range, _⟩, _, _, _, rfl, _⟩ := h
  exact Nat.le_of_lt_succ range

/-- A key other than 0 that has come in three bytes is in range (R144). -/
theorem keyInRange_of_ne (nonzero : key ≠ 0) (high : key ≤ 16777215) : keyInRange key = true :=
  decide_eq_true ⟨Nat.pos_of_ne_zero nonzero, high⟩

/-! ## ACCOUNT-ADD -/

theorem judgeAccountAdd_zero (tariff) : judgeAccountAdd (0, tariff) s = rangeItem 1 := rfl

/-- A key in range and a tariff: ACCOUNT-ADD is judged by the lookup and the place (R146). -/
theorem judgeAccountAdd_eq (range : keyInRange key = true) (tariff : Fin 8) : judgeAccountAdd (key, tariff.1) s =
    match lookup s.abu.directory key with
    | some _ => refused .duplicate
    | none =>
      match placeFor s.abu.directory key with
      | none => refused .full
      | some (i, h) => okWith (be 1 i.1 ++ markByte h) (setEntry i (newAccount key h tariff) s) := by
  unfold judgeAccountAdd
  dsimp only
  rw [range, asFin_val]
  rfl

theorem judgeAccountAdd_duplicate (range : keyInRange key = true) (tariff : Fin 8)
    (found : lookup s.abu.directory key ≠ none) : judgeAccountAdd (key, tariff.1) s = refused .duplicate := by
  obtain ⟨i, hi⟩ := Option.ne_none_iff_exists'.1 found
  rw [judgeAccountAdd_eq range, hi]

theorem judgeAccountAdd_full (range : keyInRange key = true) (tariff : Fin 8)
    (absent : lookup s.abu.directory key = none) (full : placeFor s.abu.directory key = none) :
    judgeAccountAdd (key, tariff.1) s = refused .full := by
  rw [judgeAccountAdd_eq range, absent, full]

theorem judgeAccountAdd_placed {h : Bool} (range : keyInRange key = true) (tariff : Fin 8)
    (absent : lookup s.abu.directory key = none) (place : placeFor s.abu.directory key = some (i, h)) :
    judgeAccountAdd (key, tariff.1) s =
      okWith (be 1 i.1 ++ markByte h) (setEntry i (newAccount key h tariff) s) := by
  rw [judgeAccountAdd_eq range, absent, place]

/-- The place of a new account, from what is free: the lowest entry of the primary group, or of the secondary group
where the primary one is taken (R146). -/
theorem placeFor_of_lowest {d : Vector DirEntry 256} {h : Bool} (free : d[i].valid = false)
    (lowest : ∀ j : Fin 256, j < i → i.1 / 4 = j.1 / 4 → d[j].valid = true)
    (group : if h then i.1 / 4 = 63 - primaryGroup key ∧ ∀ j : Fin 256, j.1 / 4 = primaryGroup key → d[j].valid = true
      else i.1 / 4 = primaryGroup key) : placeFor d key = some (i, h) := by
  rw [placeFor_eq_some]
  cases h with
  | false =>
    exact freeEntry_of_lowest (primaryGroup_lt key) group free fun j below hj =>
      lowest j below (Eq.trans group hj.symm)
  | true =>
    obtain ⟨group, taken⟩ := group
    exact ⟨(freeEntry_eq_none (primaryGroup_lt key)).2 taken, freeEntry_of_lowest (secondaryGroup_lt key) group free
      fun j below hj => lowest j below (group.trans hj.symm)⟩

theorem placeFor_none_of_taken {d : Vector DirEntry 256}
    (taken : ∀ j : Fin 256, j.1 / 4 = primaryGroup key ∨ j.1 / 4 = 63 - primaryGroup key → d[j].valid = true) :
    placeFor d key = none :=
  placeFor_eq_none.2 ⟨(freeEntry_eq_none (primaryGroup_lt key)).2 fun j hj => taken j (.inl hj),
    (freeEntry_eq_none (secondaryGroup_lt key)).2 fun j hj => taken j (.inr hj)⟩

/-! ## The requests that name an account -/

theorem withAccount_absent {f : Fin 256 → DirEntry → Answer} (range : keyInRange key = true)
    (absent : lookup s.abu.directory key = none) : withAccount key s f = refused .absent := by
  unfold withAccount
  rw [range, absent]
  rfl

theorem withAccount_found {f : Fin 256 → DirEntry → Answer} (range : keyInRange key = true)
    (found : lookup s.abu.directory key = some i) : withAccount key s f = f i s.abu.directory[i] := by
  unfold withAccount
  rw [range, found]
  rfl

theorem judgeAccountTariff_zero (tariff) : judgeAccountTariff (0, tariff) s = rangeItem 1 := rfl

theorem judgeAccountTariff_eq (range : keyInRange key = true) (tariff : Fin 8) :
    judgeAccountTariff (key, tariff.1) s =
      withAccount key s fun i e => okWith [] (setEntry i { e with tariff := tariff } s) := by
  unfold judgeAccountTariff
  dsimp only
  rw [range, asFin_val]
  rfl

theorem holdsReadings_iff {e : DirEntry} :
    holdsReadings e = true ↔ e.banks[(0 : Fin 2)].readings ≠ 0 ∨ e.banks[(1 : Fin 2)].readings ≠ 0 := by
  simp only [holdsReadings, Bool.or_eq_true, decide_eq_true_eq, Nat.pos_iff_ne_zero]

theorem judgeAccountRemove_held (range : keyInRange key = true) (found : lookup s.abu.directory key = some i)
    (held : holdsReadings s.abu.directory[i] = true) : judgeAccountRemove key s = refused .state :=
  (withAccount_found range found).trans (if_pos held)

theorem judgeAccountRemove_empty (range : keyInRange key = true) (found : lookup s.abu.directory key = some i)
    (empty : ¬ holdsReadings s.abu.directory[i] = true) :
    judgeAccountRemove key s = okWith [] (setEntry i { s.abu.directory[i] with valid := false } s) :=
  (withAccount_found range found).trans (if_neg empty)

end

/-- Settles O47: the lookup by the terms of a sound directory, ACCOUNT-ADD by the place that is free, the other requests
by the entry that the lookup finds. -/
theorem accountsKept : Obligations.AccountsKept := by
  unfold Obligations.AccountsKept
  intro s p heard d inGroup written
  refine ⟨fun sound key i => lookup_eq_some_iff sound, fun key tariff parsed => ?_, fun key parsed nonzero => ?_⟩
  · refine ⟨?_, fun nonzero found => ?_, fun nonzero absent => ⟨fun i h free lowest group => ?_, fun taken => ?_, ?_⟩,
      fun i nonzero found => ?_⟩
    · rintro rfl
      exact ⟨declines_of_refuse (by decide) heard parsed (judgeAccountAdd_zero _) rfl,
        declines_of_refuse (by decide) heard parsed (judgeAccountTariff_zero _) rfl⟩
    all_goals have range : keyInRange key = true := keyInRange_of_ne nonzero (parse248_range parsed)
    · exact declines_of_refuse (by decide) heard parsed (judgeAccountAdd_duplicate range tariff found) rfl
    · exact answers_of_done (by decide) heard parsed
        (judgeAccountAdd_placed range tariff absent (placeFor_of_lowest free lowest group)) rfl
    · exact declines_of_refuse (by decide) heard parsed
        (judgeAccountAdd_full range tariff absent (placeFor_none_of_taken taken)) rfl
    · exact declines_of_refuse (by decide) heard parsed
        ((judgeAccountTariff_eq range tariff).trans (withAccount_absent range absent)) rfl
    · exact answers_of_done (by decide) heard parsed
        ((judgeAccountTariff_eq range tariff).trans (withAccount_found range found)) rfl
  · have range : keyInRange key = true := keyInRange_of_ne nonzero (parse24_range parsed)
    refine ⟨fun absent => ⟨?_, ?_, ?_⟩, fun i found => ⟨fun held => ?_, fun empty empty' => ?_, ?_, ?_⟩⟩
    · exact declines_of_refuse (by decide) heard parsed (withAccount_absent range absent) rfl
    · exact declines_of_refuse (by decide) heard parsed (withAccount_absent range absent) rfl
    · exact declines_of_refuse (by decide) heard parsed (withAccount_absent range absent) rfl
    · exact declines_of_refuse (by decide) heard parsed
        (judgeAccountRemove_held range found (holdsReadings_iff.2 held)) rfl
    · have clear : ¬ holdsReadings d[i] = true := by
        rw [holdsReadings_iff, empty, empty']
        simp
      exact answers_of_done (by decide) heard parsed (judgeAccountRemove_empty range found clear) rfl
    · exact answers_of_done (by decide) heard parsed (withAccount_found range found) rfl
    · exact answers_of_done (by decide) heard parsed (withAccount_found range found) rfl

end Sys2Proof.Machine
end

section
/-!
TARIFF-SET, BANDMAP-SET and LOOKASIDE-PURGE (R152 to R154).
-/
namespace Sys2Proof.Machine

section
variable {s : State} {key : Nat}

/-! ## TARIFF-SET -/

/-- TARIFF-SET carries eight prices (R153). -/
theorem parseTariffSet_length {p f} (h : parseTariffSet p = some f) : f.prices.length = 8 := by
  simp only [parseTariffSet, Option.bind_eq_bind, Option.bind_eq_some_iff, Prod.exists, ending_eq_some] at h
  obtain ⟨_, _, _, _, _, many, rfl, _⟩ := h
  obtain ⟨-, length, -⟩ := (many_eq_some (enc := be 3) (ok := fun x => x < 16777216) fun _ _ _ => u24_eq_some).1 many
  exact length

/-- The prices that TARIFF-SET writes (R153). -/
def pricesOf (f : TariffSetFields) : Vector Nat 8 := Vector.ofFn fun i : Fin 8 => f.prices.getD i.1 0

theorem pricesOf_toList {f : TariffSetFields} (length : f.prices.length = 8) : (pricesOf f).toList = f.prices := by
  refine List.ext_getElem (by simp [length]) fun n h h' => ?_
  have written : (pricesOf f).toList[n] = f.prices.getD n 0 := by simp [pricesOf]
  rw [written, List.getD_eq_getElem _ _ h']

theorem judgeTariffSet_eq {f : TariffSetFields} {k : Fin 8} (tariff : f.tariff = k.1) : judgeTariffSet f s =
    okWith [] { s with abu := { s.abu with tariffs := put s.abu.tariffs k (pricesOf f) } } := by
  unfold judgeTariffSet
  rw [tariff, asFin_val]
  rfl

/-! ## BANDMAP-SET -/

/-- BANDMAP-SET carries as many bands as its count says (R154). -/
theorem parseBandmapSet_length {p f} (h : parseBandmapSet p = some f) : f.bands.length = f.count := by
  simp only [parseBandmapSet, Option.bind_eq_bind, Option.bind_eq_some_iff, Prod.exists, ending_eq_some] at h
  obtain ⟨_, _, _, _, _, _, _, _, many, rfl, _⟩ := h
  obtain ⟨-, length, -⟩ := (many_eq_some (enc := be 1) (ok := fun x => x < 256) fun _ _ _ => u8_eq_some).1 many
  exact length

/-- BANDMAP-SET on slots of the schedule is judged by its bands (R154). -/
theorem judgeBandmapSet_eq {f : BandmapSetFields} (first : f.first ≤ 95) (count : 1 ≤ f.count)
    (last : f.first + f.count ≤ 96) : judgeBandmapSet f s =
      if f.bands.any fun b => decide (3 < b) then rangeItem 3
      else okWith [] { s with abu := { s.abu with bandMap := writeBands f s.abu.bandMap } } := by
  unfold judgeBandmapSet
  rw [if_neg (by omega), if_neg (by omega)]

theorem writeBands_getElem (f : BandmapSetFields) (v : Vector (Fin 4) 96) (i : Fin 96) : (writeBands f v)[i] =
    if f.first ≤ i.1 then ((f.bands[i.1 - f.first]?).map fun b => Fin.ofNat 4 b).getD v[i] else v[i] :=
  each_getElem ..

/-- A slot that the request covers takes its band (R154). -/
theorem writeBands_covered {f : BandmapSetFields} (length : f.bands.length = f.count) (bands : ∀ b ∈ f.bands, b ≤ 3)
    {v : Vector (Fin 4) 96} {i : Fin 96} (low : f.first ≤ i.1) (high : i.1 < f.first + f.count) :
    f.bands[i.1 - f.first]? = some (writeBands f v)[i].1 := by
  have inside : i.1 - f.first < f.bands.length := by omega
  have small := bands _ (List.getElem_mem inside)
  rw [writeBands_getElem, if_pos low, List.getElem?_eq_getElem inside, Option.map_some, Option.getD_some,
    Fin.val_ofNat, Nat.mod_eq_of_lt (by omega)]

/-- A slot that it does not cover keeps its band. -/
theorem writeBands_beyond {f : BandmapSetFields} (length : f.bands.length = f.count) {v : Vector (Fin 4) 96}
    {i : Fin 96} (beyond : ¬ (f.first ≤ i.1 ∧ i.1 < f.first + f.count)) : (writeBands f v)[i] = v[i] := by
  rw [writeBands_getElem]
  split
  · rw [List.getElem?_eq_none (by omega)]
    rfl
  · rfl

/-! ## LOOKASIDE-PURGE -/

theorem mem_withoutKey {l : List LookEntry} {e : LookEntry} : e ∈ withoutKey l key ↔ e ∈ l ∧ e.key ≠ key := by
  simp [withoutKey]

theorem judgeLookasidePurge_all :
    judgeLookasidePurge 16777216 s = okWith [] { s with abu := { s.abu with lookaside := [] } } := rfl

theorem judgeLookasidePurge_range (h : key = 0 ∨ 16777216 < key) : judgeLookasidePurge key s = rangeItem 1 := by
  have beyond : (!keyInRange key) = true := by
    simp only [keyInRange, Bool.not_eq_true', decide_eq_false_iff_not]
    omega
  unfold judgeLookasidePurge
  rw [if_neg (by omega), if_pos beyond]

theorem judgeLookasidePurge_key (low : 1 ≤ key) (high : key ≤ 16777215) : judgeLookasidePurge key s =
    okWith [] { s with abu := { s.abu with lookaside := withoutKey s.abu.lookaside key } } := by
  have range : keyInRange key = true := decide_eq_true ⟨low, high⟩
  unfold judgeLookasidePurge
  rw [if_neg (by omega), range]
  rfl

end

/-- Settles O48: the prices and the bands by what the payload carries, the purge by the key. -/
theorem tariffsWritten : Obligations.TariffsWritten := by
  unfold Obligations.TariffsWritten
  intro s p heard
  refine ⟨fun f k parsed tariff => ?_, fun f parsed first count last => ⟨?_, fun bands => ?_⟩,
    fun key parsed => ⟨?_, fun range => ?_, fun low high => ?_⟩⟩
  · exact ⟨_, answers_of_done (by decide) heard parsed (judgeTariffSet_eq tariff) rfl,
      pricesOf_toList (parseTariffSet_length parsed)⟩
  · rintro ⟨b, mem, high⟩
    have any : (f.bands.any fun b => decide (3 < b)) = true := List.any_eq_true.2 ⟨b, mem, decide_eq_true high⟩
    exact declines_of_refuse (by decide) heard parsed ((judgeBandmapSet_eq first count last).trans (if_pos any)) rfl
  · have fits : ¬ (f.bands.any fun b => decide (3 < b)) = true := by
      rw [List.any_eq_true]
      rintro ⟨b, mem, high⟩
      exact Nat.not_lt.2 (bands b mem) (of_decide_eq_true high)
    have length := parseBandmapSet_length parsed
    exact ⟨_, answers_of_done (by decide) heard parsed ((judgeBandmapSet_eq first count last).trans (if_neg fits)) rfl,
      fun i => ⟨fun ⟨low, high⟩ => writeBands_covered length bands low high, writeBands_beyond length⟩⟩
  · rintro rfl
    exact answers_of_done (by decide) heard parsed judgeLookasidePurge_all rfl
  · exact declines_of_refuse (by decide) heard parsed (judgeLookasidePurge_range range) rfl
  · exact ⟨_, answers_of_done (by decide) heard parsed (judgeLookasidePurge_key low high) rfl,
      withoutKey_sublist _ _, fun e => mem_withoutKey⟩

end Sys2Proof.Machine
end

section
/-!
A booking: the resolution of its key through the lookaside, and what it makes of the bank of its holder (R151, R155 to
R157).
-/
namespace Sys2Proof.Machine

/-! ## The resolution -/

section
variable {key : Nat} {a : Abu} {e : LookEntry}

theorem tagCheck_iff {d : Vector DirEntry 256} :
    tagCheck d e = true ↔ d[e.location].valid = true ∧ d[e.location].key = e.key := by
  simp only [tagCheck, Bool.and_eq_true, decide_eq_true_eq]

theorem mem_key_of_find {l : List LookEntry} (found : (l.find? fun e => decide (e.key = key)) = some e) :
    e ∈ l ∧ e.key = key :=
  ⟨List.mem_of_find?_eq_some found, by simpa using List.find?_some found⟩

/-- A lookaside entry that passes the tag check resolves its key and becomes the most recently used (R151). -/
theorem resolveKey_hit (mem : e ∈ a.lookaside) (only : ∀ e' ∈ a.lookaside, e'.key = e.key → e' = e) (hk : e.key = key)
    (tag : tagCheck a.directory e = true) : resolveKey key a =
      (some { location := e.location, tariff := e.tariff },
        { a with lookaside := e :: withoutKey a.lookaside key }) := by
  have found : a.lookaside.find? (fun e => decide (e.key = key)) = some e := by
    cases h : a.lookaside.find? fun e => decide (e.key = key) with
    | none => exact absurd (decide_eq_true hk) (List.find?_eq_none.1 h e mem)
    | some e' =>
      obtain ⟨mem', hk'⟩ := mem_key_of_find h
      rw [only e' mem' (hk'.trans hk.symm)]
  unfold resolveKey
  rw [found]
  exact if_pos tag

/-- Where no lookaside entry of the key passes the tag check, the directory is searched, with the failed entry gone
(R151). -/
theorem resolveKey_miss (failed : ∀ e ∈ a.lookaside, e.key = key → ¬ tagCheck a.directory e = true) :
    resolveKey key a = resolveMiss key { a with lookaside := withoutKey a.lookaside key } := by
  unfold resolveKey
  split
  · next absent =>
    have all : withoutKey a.lookaside key = a.lookaside :=
      List.filter_eq_self.2 fun e he => by simpa using List.find?_eq_none.1 absent e he
    rw [all]
  · next e found =>
    obtain ⟨mem, hk⟩ := mem_key_of_find found
    exact if_neg (failed e mem hk)

theorem resolveMiss_fst (key a) : (resolveMiss key a).1 =
    (lookup a.directory key).map fun i => { location := i, tariff := a.directory[i].tariff } := by
  unfold resolveMiss
  cases lookup a.directory key <;> rfl

end

/-! ## The banks -/

/-- What a booking adds to the charge of a bank: the cost in 1/3,600,000 of the unit of charge, and the rem carried,
less what saturation takes (R156). -/
theorem bookBank_balances (prices : Vector Nat 8) (band : Fin 4) (f : Finished) (old : Bank) :
    let b := bookBank prices band f old
    let whole := old.charge * 3600000 + old.rem +
      (f.recovered * priceOf prices band false + f.supplementary * priceOf prices band true)
    b.charge * 3600000 + b.rem = whole ∨
      b.charge = 281474976710655 ∧ 281474976710655 * 3600000 + b.rem < whole := by
  intro b whole
  let num := chargeNumerator prices band f.recovered f.supplementary old.rem
  have charge : b.charge = min (old.charge + num / 3600000) 281474976710655 := rfl
  have rem : b.rem = num % 3600000 := rfl
  have sum : whole = old.charge * 3600000 + num := by
    simp only [whole, num, chargeNumerator]
    omega
  omega

section
variable {r : Reading} {f : Finished} {s : State} {x : Resolution}

theorem resolvedFor_lookaside (key : r.key ≠ 0) :
    (resolvedFor r s).abu.lookaside = (resolveKey r.key s.abu).2.lookaside := if_neg key

/-- What a booking to an account leaves: its bank, and the lookaside as the resolution leaves it (R151, R156). -/
theorem bookReading_account (key : r.key ≠ 0) (found : (resolveKey r.key s.abu).1 = some x)
    (active : s.abu.directory[x.location].suspended = false) : bookReading r f s =
      { s with abu := { s.abu with
          lookaside := (resolveKey r.key s.abu).2.lookaside
          directory := put s.abu.directory x.location { s.abu.directory[x.location] with
            banks := put s.abu.directory[x.location].banks s.abu.active
              (bookBank s.abu.tariffs[x.tariff] s.abu.bandMap[r.tag.slot] f
                s.abu.directory[x.location].banks[s.abu.active]) } } } := by
  rw [bookReading_assigned key found active, ← resolvedFor_lookaside key]
  rfl

end

/-- Settles O49: the resolution by what the lookaside holds, the booking by its holder. -/
theorem bookingsBalance : Obligations.BookingsBalance := by
  unfold Obligations.BookingsBalance
  intro s r f a t found top
  refine ⟨fun e mem only hk valid holds => ?_, fun failed => ?_, fun x key hx active => ?_, fun unassigned => ?_⟩
  · have hit := resolveKey_hit mem only hk (tagCheck_iff.2 ⟨valid, holds.trans hk.symm⟩)
    exact ⟨congrArg Prod.fst hit, congrArg (fun x : Option Resolution × Abu => x.2.lookaside) hit⟩
  · have miss : resolveKey r.key a = resolveMiss r.key { a with lookaside := withoutKey a.lookaside r.key } :=
      resolveKey_miss fun e mem hk tag => failed e mem hk (hk ▸ tagCheck_iff.1 tag)
    refine ⟨(congrArg Prod.fst miss).trans (resolveMiss_fst ..), ?_⟩
    rw [miss]
    unfold resolveMiss
    dsimp only
    cases lookup a.directory r.key <;> rfl
  · have balance := bookBank_balances a.tariffs[x.tariff] a.bandMap[r.tag.slot] f
      a.directory[x.location].banks[a.active]
    exact ⟨_, bookReading_account key hx active, Nat.mod_lt _ (by decide), rfl, rfl, rfl, rfl, balance⟩
  · have booked : t = bookSuspense r f (resolvedFor r s) := bookReading_unassigned unassigned
    rw [booked]
    exact ⟨rfl, rfl, raisedOnce_raiseCond _ _ _ _⟩

end Sys2Proof.Machine
end

section
/-!
PERIOD-CLOSE and the marker that retires at once (R158, R159).
-/
namespace Sys2Proof.Machine

section
variable {s : State}

theorem judgePeriodClose_busy (on : s.abu.close ≠ .idle) : judgePeriodClose () s = refused .busy := if_pos on

theorem judgePeriodClose_full (idle : s.abu.close = .idle) (full : 64 ≤ s.hmu.queue.length) :
    judgePeriodClose () s = refused .full :=
  (if_neg (not_not.2 idle)).trans (if_pos full)

/-- A close that begins puts its marker behind the queue, from which what stands at the head retires (R158). -/
theorem judgePeriodClose_marked (idle : s.abu.close = .idle) (room : s.hmu.queue.length < 64) :
    judgePeriodClose () s = okWith (be 2 s.abu.period) (retireRun (s.hmu.queue ++ [.marker s.abu.period])
      { s with abu := { s.abu with close := .marked } }) :=
  (if_neg (not_not.2 idle)).trans (if_neg (Nat.not_le.2 room))

/-- A marker that stands alone retires at once (R159). -/
theorem retireRun_marker (period : Nat) (empty : s.hmu.queue = []) :
    retireRun [.marker period] s = startClose period s := by
  have same : { s.hmu with queue := [] } = s.hmu := by rw [← empty]
  change { startClose period s with hmu := { s.hmu with queue := [] } } = startClose period s
  rw [same]
  rfl

/-- The banks of a valid entry at the flip: the rem moves to the new active bank (R159). -/
theorem carryRem_valid {active : Fin 2} {e : DirEntry} (valid : e.valid = true) :
    carryRem active e = { e with banks := (carryRem active e).banks } ∧
    (carryRem active e).banks[active] = { e.banks[active] with rem := 0 } ∧
    (carryRem active e).banks[active + 1] = { e.banks[active + 1] with rem := e.banks[active].rem } := by
  unfold carryRem
  rw [if_pos valid]
  dsimp only
  rw [put_getElem_self, put_getElem_ne _ _ (active_ne_closing active), put_getElem_self]
  exact ⟨rfl, rfl, rfl⟩

theorem carryRem_invalid {active : Fin 2} {e : DirEntry} (invalid : e.valid = false) : carryRem active e = e :=
  if_neg (by rw [invalid]; decide)

end

/-- Settles O50: the request by the close state and the queue; the marker by what stands before it. -/
theorem periodsClose : Obligations.PeriodsClose := by
  unfold Obligations.PeriodsClose
  intro s heard a
  have parsed : parseNone [] = some () := rfl
  refine ⟨fun on => ?_, fun idle full => ?_, fun r q idle queue waiting room => ?_, fun idle empty => ?_⟩
  · exact declines_of_refuse (by decide) heard parsed (judgePeriodClose_busy on) rfl
  · exact declines_of_refuse (by decide) heard parsed (judgePeriodClose_full idle full) rfl
  · have marked := judgePeriodClose_marked idle (by rw [queue]; exact Nat.succ_lt_succ room)
    rw [queue, retireRun_waiting (by simp [isWaiting, waiting])] at marked
    exact answers_of_done (by decide) heard parsed marked rfl
  · have marked := judgePeriodClose_marked idle (by rw [empty]; decide)
    have retired := retireRun_marker (s := { s with abu := { s.abu with close := .marked } }) s.abu.period empty
    rw [empty, List.nil_append, retired] at marked
    refine ⟨_, answers_of_done (by decide) heard parsed marked rfl, fun i => ?_⟩
    have carried : (each a.directory fun _ e => carryRem a.active e)[i] = carryRem a.active a.directory[i] :=
      each_getElem ..
    refine ⟨fun invalid => carried.trans (carryRem_invalid invalid), fun valid => ?_⟩
    dsimp only
    rw [carried]
    exact carryRem_valid valid

end Sys2Proof.Machine
end

section
/-!
Emission judges the place at its cursor (R160, R162).
-/
namespace Sys2Proof.Machine

section
variable {s : State} {period : Nat}

/-- What emission tells of a place: nothing, or the statement that it has queued, and after the last place the end of
the close (R160, R162). -/
def PlaceTold (last : Prop) (pos : Tag) (n : Option (Fin 32)) (period : Nat) (c d : Cnu) : Prop :=
  ∃ e : Cnu, (match n with | none => e = c | some n => OthersStand [n] c e ∧ e.records[n].active = true) ∧
    (last → RaisedOnce condCloseDone period pos e d) ∧ (¬ last → d = e)

theorem execEmissionStep_other (h : s.abu.close ≠ .emitting) : execEmissionStep s = .next s := by
  unfold execEmissionStep
  split
  · next emitting => exact absurd emitting h
  all_goals rfl

theorem execEmissionStep_emitting (h : s.abu.close = .emitting) : execEmissionStep s = .next (emitPlace s) := by
  unfold execEmissionStep
  rw [h]

/-- The cursor's advance raises CLOSE-DONE after the last place, and nothing before (R160). -/
theorem advanceCursor_raises (inside : s.abu.cursor < 272) :
    (s.abu.cursor = 271 → RaisedOnce condCloseDone period s.sck.pos s.cnu (advanceCursor period s).cnu) ∧
    (s.abu.cursor ≠ 271 → (advanceCursor period s).cnu = s.cnu) := by
  rw [advanceCursor_eq inside]
  dsimp only
  constructor
  · intro last
    rw [if_pos last]
    exact raisedOnce_raiseCond _ _ _ _
  · exact fun more => if_neg more

theorem advanceCursor_leaves (inside : s.abu.cursor < 272) :
    advanceCursor period s = { s with abu := passedPlace s.abu, cnu := (advanceCursor period s).cnu } := by
  rw [advanceCursor_eq inside]

/-- A place that gives no statement is passed (R160). -/
theorem emitPlace_passes (closing : s.abu.closing = some period) (inside : s.abu.cursor < 272) (h : NoneDue s.abu) :
    emitPlace s = { s with abu := passedPlace s.abu, cnu := (emitPlace s).cnu } ∧
    PlaceTold (s.abu.cursor = 271) s.sck.pos none period s.cnu (emitPlace s).cnu := by
  have emitted : emitPlace s = advanceCursor period s := by rw [emitPlace_noneDue h, closing, Option.getD_some]
  rw [emitted]
  exact ⟨advanceCursor_leaves inside, _, rfl, advanceCursor_raises inside⟩

/-- A statement is queued, and the place is passed (R160, R162). -/
theorem emitPlace_emits {t : Statement} {b : Abu} (closing : s.abu.closing = some period)
    (inside : s.abu.cursor < 272) (room : s.abu.statements.length < 32)
    (place : placeAt s.abu period = some (t, b)) (same : b.cursor = s.abu.cursor) :
    emitPlace s = { s with
      abu := passedPlace { b with emitted := b.emitted + 1, statements := b.statements ++ [t] }
      cnu := (emitPlace s).cnu } ∧
    PlaceTold (s.abu.cursor = 271) s.sck.pos (some condStatementReady) period s.cnu (emitPlace s).cnu := by
  have period' : s.abu.closing.getD 0 = period := by rw [closing, Option.getD_some]
  let queued := appendStatement t { s with abu := { b with emitted := b.emitted + 1 } }
  have emitted : emitPlace s = advanceCursor period queued := by
    have emitted := emitPlace_room (period'.symm ▸ place) room
    rwa [period'] at emitted
  have ready : OthersStand [condStatementReady] s.cnu queued.cnu ∧
      queued.cnu.records[condStatementReady].active = true :=
    ⟨followCond_others _ _ _ _ _, followCond_active _ _ _ _ _⟩
  have cursor : queued.abu.cursor = s.abu.cursor := same
  have within : queued.abu.cursor < 272 := by rwa [cursor]
  have raises := advanceCursor_raises (period := period) within
  rw [cursor] at raises
  rw [emitted]
  exact ⟨advanceCursor_leaves within, queued.cnu, ready, raises⟩

end

/-- Settles O51: the place at the cursor gives nothing, or a statement of an account or of a suspense, and the cursor
goes on unless the queue is full. -/
theorem emissionJudges : Obligations.EmissionJudges := by
  unfold Obligations.EmissionJudges
  intro s a closing last account suspense passed told
  refine ⟨execEmissionStep_other, fun period emitting closes inside => ?_⟩
  have step : exec .emissionStep s = .next (emitPlace s) := execEmissionStep_emitting emitting
  refine ⟨fun noAccount noSuspense => ?_, fun due full => ?_, fun i due room => ?_, fun m due room => ?_⟩
  · obtain ⟨leaves, e, h, told⟩ := emitPlace_passes closes inside ⟨noAccount, noSuspense⟩
    exact ⟨_, step, leaves, e, h, told⟩
  · rw [step]
    obtain ⟨i, due⟩ | ⟨m, due⟩ := due
    · rw [emitPlace_full (placeAt_account due _) full]
    · rw [emitPlace_full (placeAt_suspense due _) full]
  · obtain ⟨leaves, e, h, told⟩ := emitPlace_emits closes inside room (placeAt_account due period) rfl
    exact ⟨_, step, leaves, e, h, told⟩
  · obtain ⟨leaves, e, h, told⟩ := emitPlace_emits closes inside room (placeAt_suspense due period) rfl
    exact ⟨_, step, leaves, e, h, told⟩

end Sys2Proof.Machine
end

section
/-!
The payloads of requests: each is read exactly where it is the writing of its fields (R165, R168).
-/
namespace Sys2Proof.Machine

section
variable {p : List Byte}

/-! ## A field, and what is read behind it -/

/-- A payload that begins with a field is read where the field is and the rest of it is (R165). -/
theorem bind_eq_some_of_reads {α β : Type} {f : List Byte → Option (α × List Byte)} {enc : α → List Byte}
    {ok : α → Prop} (hf : ∀ l q x, f l = some (x, q) ↔ ok x ∧ l = enc x ++ q) {k : α × List Byte → Option β}
    {l : List Byte} {r : β} :
    (f l).bind k = some r ↔ ∃ x, ok x ∧ ∃ q, k (x, q) = some r ∧ l = enc x ++ q := by
  simp only [Option.bind_eq_some_iff, Prod.exists, hf]
  constructor
  · rintro ⟨x, q, ⟨hx, rfl⟩, hk⟩
    exact ⟨x, hx, q, hk, rfl⟩
  · rintro ⟨x, hx, q, hk, rfl⟩
    exact ⟨x, q, ⟨hx, rfl⟩, hk⟩

section
variable {β : Type} {c : Bool} {n : Nat} {l : List Byte} {r : β}

theorem u8_bind {k : Nat × List Byte → Option β} : (u8 l).bind k = some r ↔
    ∃ x, x < 256 ∧ ∃ q, k (x, q) = some r ∧ l = be 1 x ++ q :=
  bind_eq_some_of_reads fun _ _ _ => u8_eq_some

theorem u16_bind {k : Nat × List Byte → Option β} : (u16 l).bind k = some r ↔
    ∃ x, x < 65536 ∧ ∃ q, k (x, q) = some r ∧ l = be 2 x ++ q :=
  bind_eq_some_of_reads fun _ _ _ => u16_eq_some

theorem u24_bind {k : Nat × List Byte → Option β} : (u24 l).bind k = some r ↔
    ∃ x, x < 16777216 ∧ ∃ q, k (x, q) = some r ∧ l = be 3 x ++ q :=
  bind_eq_some_of_reads fun _ _ _ => u24_eq_some

theorem u32_bind {k : Nat × List Byte → Option β} : (u32 l).bind k = some r ↔
    ∃ x, x < 4294967296 ∧ ∃ q, k (x, q) = some r ∧ l = be 4 x ++ q :=
  bind_eq_some_of_reads fun _ _ _ => u32_eq_some

theorem i8_bind {k : Int × List Byte → Option β} : (i8 l).bind k = some r ↔
    ∃ x, (-128 ≤ x ∧ x ≤ 127) ∧ ∃ q, k (x, q) = some r ∧ l = beInt 1 x ++ q :=
  bind_eq_some_of_reads fun _ _ _ => i8_eq_some

theorem optional_u8_bind {k : Option Nat × List Byte → Option β} : (optional u8 l).bind k = some r ↔
    ∃ x, (∀ y ∈ x, y < 256) ∧ ∃ q, k (x, q) = some r ∧ l = encOpt (be 1) x ++ q :=
  bind_eq_some_of_reads fun _ _ _ => optional_eq_some fun _ _ _ => u8_eq_some

theorem dependent_u8_bind {k : Option Nat × List Byte → Option β} : (dependent c u8 l).bind k = some r ↔
    ∃ x, (x.isSome = c ∧ ∀ y ∈ x, y < 256) ∧ ∃ q, k (x, q) = some r ∧ l = encDep (be 1) x ++ q :=
  bind_eq_some_of_reads fun _ _ _ => (dependent_eq_some fun _ _ _ => u8_eq_some).trans and_assoc.symm

theorem dependent_u16_bind {k : Option Nat × List Byte → Option β} : (dependent c u16 l).bind k = some r ↔
    ∃ x, (x.isSome = c ∧ ∀ y ∈ x, y < 65536) ∧ ∃ q, k (x, q) = some r ∧ l = encDep (be 2) x ++ q :=
  bind_eq_some_of_reads fun _ _ _ => (dependent_eq_some fun _ _ _ => u16_eq_some).trans and_assoc.symm

theorem dependent_u24_bind {k : Option Nat × List Byte → Option β} : (dependent c u24 l).bind k = some r ↔
    ∃ x, (x.isSome = c ∧ ∀ y ∈ x, y < 16777216) ∧ ∃ q, k (x, q) = some r ∧ l = encDep (be 3) x ++ q :=
  bind_eq_some_of_reads fun _ _ _ => (dependent_eq_some fun _ _ _ => u24_eq_some).trans and_assoc.symm

theorem many_u8_bind {k : List Nat × List Byte → Option β} : (many u8 n l).bind k = some r ↔
    ∃ x, ((∀ y ∈ x, y < 256) ∧ x.length = n) ∧ ∃ q, k (x, q) = some r ∧ l = x.flatMap (be 1) ++ q :=
  bind_eq_some_of_reads fun _ _ _ => (many_eq_some fun _ _ _ => u8_eq_some).trans and_assoc.symm

theorem many_u24_bind {k : List Nat × List Byte → Option β} : (many u24 n l).bind k = some r ↔
    ∃ x, ((∀ y ∈ x, y < 16777216) ∧ x.length = n) ∧ ∃ q, k (x, q) = some r ∧ l = x.flatMap (be 3) ++ q :=
  bind_eq_some_of_reads fun _ _ _ => (many_eq_some fun _ _ _ => u24_eq_some).trans and_assoc.symm

end

theorem pairFields_eq_some {l q : List Byte} {f : PairFields} : pairFields l = some (f, q) ↔
    (f.ttr < 65536 ∧ f.deadband < 65536 ∧ f.reversal < 65536 ∧ f.minMove < 65536 ∧ f.seatRun < 65536) ∧
      l = encodePair f ++ q := by
  obtain ⟨ttr, deadband, reversal, minMove, seatRun⟩ := f
  simp [pairFields, encodePair, u16_bind, and_assoc]

theorem pairs_bind {β : Type} {c : Bool} {l : List Byte} {r : β} {k : Option PairFields × List Byte → Option β} :
    (dependent c pairFields l).bind k = some r ↔ ∃ x, (x.isSome = c ∧
      ∀ y ∈ x, y.ttr < 65536 ∧ y.deadband < 65536 ∧ y.reversal < 65536 ∧ y.minMove < 65536 ∧ y.seatRun < 65536) ∧
      ∃ q, k (x, q) = some r ∧ l = encDep encodePair x ++ q :=
  bind_eq_some_of_reads fun _ _ _ => (dependent_eq_some fun _ _ _ => pairFields_eq_some).trans and_assoc.symm

/-! ## Payloads of a few plain fields -/

theorem parse8_eq_some {a : Nat} : parse8 p = some a ↔ a < 256 ∧ p = be 1 a := by
  simp [parse8, u8_bind, ending_eq_some, and_assoc]

theorem parse88_eq_some {a b : Nat} : parse88 p = some (a, b) ↔ a < 256 ∧ b < 256 ∧ p = be 1 a ++ be 1 b := by
  simp [parse88, u8_bind, ending_eq_some, and_assoc]

theorem parse888_eq_some {a b c : Nat} : parse888 p = some (a, b, c) ↔
    a < 256 ∧ b < 256 ∧ c < 256 ∧ p = be 1 a ++ be 1 b ++ be 1 c := by
  simp [parse888, u8_bind, ending_eq_some, and_assoc]

theorem parse816_eq_some {a b : Nat} : parse816 p = some (a, b) ↔ a < 256 ∧ b < 65536 ∧ p = be 1 a ++ be 2 b := by
  simp [parse816, u8_bind, u16_bind, ending_eq_some, and_assoc]

theorem parse824_eq_some {a b : Nat} : parse824 p = some (a, b) ↔ a < 256 ∧ b < 16777216 ∧ p = be 1 a ++ be 3 b := by
  simp [parse824, u8_bind, u24_bind, ending_eq_some, and_assoc]

theorem parse24_eq_some {a : Nat} : parse24 p = some a ↔ a < 16777216 ∧ p = be 3 a := by
  simp [parse24, u24_bind, ending_eq_some, and_assoc]

theorem parse248_eq_some {a b : Nat} : parse248 p = some (a, b) ↔ a < 16777216 ∧ b < 256 ∧ p = be 3 a ++ be 1 b := by
  simp [parse248, u24_bind, u8_bind, ending_eq_some, and_assoc]

theorem parse32_eq_some {a : Nat} : parse32 p = some a ↔ a < 4294967296 ∧ p = be 4 a := by
  simp [parse32, u32_bind, ending_eq_some, and_assoc]

theorem parseMask_eq_some {m : BitVec 32} : parseMask p = some m ↔ p = be 4 m.toNat := by
  simp only [parseMask, Option.map_eq_some_iff, parse32_eq_some]
  constructor
  · rintro ⟨a, ⟨ha, rfl⟩, rfl⟩
    rw [BitVec.toNat_ofNat, Nat.mod_eq_of_lt ha]
  · rintro rfl
    exact ⟨m.toNat, ⟨m.isLt, rfl⟩, BitVec.ofNat_toNat 32 m⟩

theorem parseSigned_eq_some {t : Int} : parseSigned p = some t ↔ (-128 ≤ t ∧ t ≤ 127) ∧ p = beInt 1 t := by
  simp [parseSigned, i8_bind, ending_eq_some]

/-! ## Payloads of a structure of fields -/

theorem parseClockSet_eq_some {f : ClockSetFields} : parseClockSet p = some f ↔
    f.slotS < 65536 ∧ f.stepS < 256 ∧ f.frame < 65536 ∧ f.slot < 256 ∧ f.step < 65536 ∧ p = encodeClockSet f := by
  obtain ⟨slotS, stepS, frame, slot, step⟩ := f
  simp [parseClockSet, encodeClockSet, u8_bind, u16_bind, ending_eq_some, and_assoc]

theorem parseTimerSet_eq_some {f : TimerSetFields} : parseTimerSet p = some f ↔
    f.timer < 256 ∧ f.slot < 256 ∧ f.offset < 65536 ∧ f.again < 256 ∧ (∀ u ∈ f.unit, u < 256) ∧
      p = encodeTimerSet f := by
  obtain ⟨timer, slot, offset, again, unit⟩ := f
  simp [parseTimerSet, encodeTimerSet, u8_bind, u16_bind, optional_u8_bind, ending_eq_some, and_assoc]

theorem parseCaptureSet_eq_some {f : CaptureSetFields} : parseCaptureSet p = some f ↔
    f.unit < 256 ∧ f.trigger < 256 ∧ (∀ x ∈ f.line, x < 256) ∧ (∀ x ∈ f.edge, x < 256) ∧
      (∀ x ∈ f.snapshot, x < 256) ∧ f.mode < 256 ∧ f.line.isSome = triggerTakesLine f.trigger ∧
      f.edge.isSome = triggerTakesLine f.trigger ∧ p = encodeCaptureSet f := by
  obtain ⟨unit, trigger, line, edge, snapshot, mode⟩ := f
  simp only [parseCaptureSet, encodeCaptureSet, Option.bind_eq_bind, u8_bind, optional_u8_bind, dependent_u8_bind,
    ending_eq_some, Option.mem_def, CaptureSetFields.mk.injEq, and_assoc, exists_and_left, ↓existsAndEq,
    List.append_nil, List.append_assoc, true_and, and_congr_right_iff]
  tauto

theorem parsePulseSet_eq_some {f : PulseSetFields} : parsePulseSet p = some f ↔
    f.channel < 256 ∧ f.width < 256 ∧ f.role < 256 ∧ f.scale < 65536 ∧ f.limit < 16777216 ∧
      p = encodePulseSet f := by
  obtain ⟨channel, width, role, scale, limit⟩ := f
  simp [parsePulseSet, encodePulseSet, u8_bind, u16_bind, u24_bind, ending_eq_some, and_assoc]

theorem parsePointSet_eq_some {f : PointSetFields} : parsePointSet p = some f ↔
    f.point < 256 ∧ f.role < 256 ∧ f.holdAfter < 65536 ∧ f.failAfter < 65536 ∧ p = encodePointSet f := by
  obtain ⟨point, role, holdAfter, failAfter⟩ := f
  simp [parsePointSet, encodePointSet, u8_bind, u16_bind, ending_eq_some, and_assoc]

theorem parseGradeSet_eq_some {f : GradeSetFields} : parseGradeSet p = some f ↔
    f.grade < 256 ∧ f.use < 256 ∧ f.cv < 65536 ∧ f.agMax < 16777216 ∧ f.retain < 16777216 ∧
      f.flareCapacity < 16777216 ∧ (∀ x ∈ f.flareChannel, x < 256) ∧ p = encodeGradeSet f := by
  obtain ⟨grade, use, cv, agMax, retain, flareCapacity, flareChannel⟩ := f
  simp [parseGradeSet, encodeGradeSet, u8_bind, u16_bind, u24_bind, optional_u8_bind, ending_eq_some, and_assoc]

theorem parseHolderSet_eq_some {f : HolderSetFields} : parseHolderSet p = some f ↔
    f.grade < 256 ∧ f.target < 65536 ∧ f.gain < 65536 ∧ f.theta1 < 65536 ∧ f.theta2 < 65536 ∧ f.theta3 < 65536 ∧
      f.theta4 < 65536 ∧ f.hysteresis < 65536 ∧ p = encodeHolderSet f := by
  obtain ⟨grade, target, gain, theta1, theta2, theta3, theta4, hysteresis⟩ := f
  simp [parseHolderSet, encodeHolderSet, u8_bind, u16_bind, ending_eq_some, and_assoc]

theorem parseConsumerSet_eq_some {f : ConsumerSetFields} : parseConsumerSet p = some f ↔
    f.consumer < 256 ∧ f.kind < 256 ∧ f.tier < 256 ∧ f.mc < 16777216 ∧ f.xc < 16777216 ∧ f.dc < 16777216 ∧
      (∀ x ∈ f.main, x < 256) ∧ (∀ x ∈ f.supp, x < 256) ∧ (∀ x ∈ f.smax, x < 16777216) ∧ (∀ x ∈ f.weight, x < 256) ∧
      f.smax.isSome = f.supp.isSome ∧ f.weight.isSome = decide (f.kind = 1) ∧ p = encodeConsumerSet f := by
  obtain ⟨consumer, kind, tier, mc, xc, dc, main, supp, smax, weight⟩ := f
  simp only [parseConsumerSet, encodeConsumerSet, Option.bind_eq_bind, u8_bind, u24_bind, optional_u8_bind,
    dependent_u8_bind, dependent_u24_bind, ending_eq_some, Option.mem_def, ConsumerSetFields.mk.injEq, and_assoc,
    exists_and_left, ↓existsAndEq, List.append_nil, List.append_assoc, true_and, and_congr_right_iff]
  tauto

theorem parseDriveSet_eq_some {f : DriveSetFields} : parseDriveSet p = some f ↔
    f.channel < 256 ∧ f.mode < 256 ∧ f.baseTick < 256 ∧ (∀ x ∈ f.period, x < 65536) ∧ (∀ x ∈ f.wmin, x < 65536) ∧
      f.idle < 256 ∧ (∀ x ∈ f.line, x < 256) ∧ (∀ x ∈ f.polarity, x < 256) ∧ f.source < 256 ∧
      (∀ x ∈ f.pair, x.ttr < 65536 ∧ x.deadband < 65536 ∧ x.reversal < 65536 ∧ x.minMove < 65536 ∧
      x.seatRun < 65536) ∧ f.period.isSome = decide (f.mode ≠ 3) ∧ f.wmin.isSome = decide (f.mode = 1) ∧
      f.polarity.isSome = f.line.isSome ∧ f.pair.isSome = decide (f.mode = 3) ∧ p = encodeDriveSet f := by
  obtain ⟨channel, mode, baseTick, period, wmin, idle, line, polarity, source, pair⟩ := f
  simp only [parseDriveSet, encodeDriveSet, Option.bind_eq_bind, u8_bind, optional_u8_bind, dependent_u8_bind,
    dependent_u16_bind, pairs_bind, ending_eq_some, Option.mem_def, DriveSetFields.mk.injEq, and_assoc, exists_and_left,
    ↓existsAndEq, List.append_nil, List.append_assoc, true_and, ne_eq, decide_not, and_congr_right_iff]
  tauto

theorem parseExportSet_eq_some {f : ExportSetFields} : parseExportSet p = some f ↔
    f.eta < 65536 ∧ f.capacity < 16777216 ∧ f.tolerance < 65536 ∧ f.floorWh < 16777216 ∧ f.devLimit < 256 ∧
      f.recoveryPairs < 256 ∧ f.haltOnDev < 256 ∧ f.graceSlots < 256 ∧ (∀ x ∈ f.gridHold, x < 256) ∧
      p = encodeExportSet f := by
  obtain ⟨eta, capacity, tolerance, floorWh, devLimit, recoveryPairs, haltOnDev, graceSlots, gridHold⟩ := f
  simp [parseExportSet, encodeExportSet, u8_bind, u16_bind, u24_bind, optional_u8_bind, ending_eq_some, and_assoc]

theorem parseNominate_eq_some {f : NominateFields} : parseNominate p = some f ↔
    f.first < 256 ∧ f.count < 256 ∧ (∀ x ∈ f.entries, x < 16777216) ∧ f.entries.length = f.count ∧
      p = encodeNominate f := by
  obtain ⟨first, count, entries⟩ := f
  by_cases size : entries.length = count
  · subst size
    simp [parseNominate, encodeNominate, u8_bind, many_u24_bind, ending_eq_some, and_assoc]
  · simp [parseNominate, encodeNominate, u8_bind, many_u24_bind, ending_eq_some, and_assoc, size]

theorem parseMeterSet_eq_some {f : MeterSetFields} : parseMeterSet p = some f ↔
    f.meter < 256 ∧ f.use < 256 ∧ f.k < 65536 ∧ f.limit < 16777216 ∧ f.key < 16777216 ∧ p = encodeMeterSet f := by
  obtain ⟨meter, use, k, limit, key⟩ := f
  simp [parseMeterSet, encodeMeterSet, u8_bind, u16_bind, u24_bind, ending_eq_some, and_assoc]

theorem parseTariffSet_eq_some {f : TariffSetFields} : parseTariffSet p = some f ↔
    f.tariff < 256 ∧ (∀ x ∈ f.prices, x < 16777216) ∧ f.prices.length = 8 ∧ p = encodeTariffSet f := by
  obtain ⟨tariff, prices⟩ := f
  simp [parseTariffSet, encodeTariffSet, u8_bind, many_u24_bind, ending_eq_some, and_assoc]

theorem parseBandmapSet_eq_some {f : BandmapSetFields} : parseBandmapSet p = some f ↔
    f.first < 256 ∧ f.count < 256 ∧ (∀ x ∈ f.bands, x < 256) ∧ f.bands.length = f.count ∧
      p = encodeBandmapSet f := by
  obtain ⟨first, count, bands⟩ := f
  by_cases size : bands.length = count
  · subst size
    simp [parseBandmapSet, encodeBandmapSet, u8_bind, many_u8_bind, ending_eq_some, and_assoc]
  · simp [parseBandmapSet, encodeBandmapSet, u8_bind, many_u8_bind, ending_eq_some, and_assoc, size]

end

/-- Settles O4: the reading of each kind's payload, field by field. -/
theorem payloadsSpelled : Obligations.PayloadsSpelled := by
  unfold Obligations.PayloadsSpelled
  intro p b8 b16 b24
  exact ⟨fun _ => parse8_eq_some, fun _ _ => parse88_eq_some, fun _ _ _ => parse888_eq_some,
    fun _ _ => parse816_eq_some, fun _ _ => parse824_eq_some, fun _ => parse24_eq_some, fun _ _ => parse248_eq_some,
    fun _ => parse32_eq_some, fun _ => parseMask_eq_some, fun _ => parseSigned_eq_some,
    fun _ => parseClockSet_eq_some, fun _ => parseTimerSet_eq_some, fun _ => parseCaptureSet_eq_some,
    fun _ => parsePulseSet_eq_some, fun _ => parsePointSet_eq_some, fun _ => parseGradeSet_eq_some,
    fun _ => parseHolderSet_eq_some, fun _ => parseConsumerSet_eq_some, fun _ => parseDriveSet_eq_some,
    fun _ => parseExportSet_eq_some, fun _ => parseNominate_eq_some, fun _ => parseMeterSet_eq_some,
    fun _ => parseTariffSet_eq_some, fun _ => parseBandmapSet_eq_some⟩

end Sys2Proof.Machine
end

section
/-!
The frame of a request on the line reads as that request (Table 9-1, R166 to R168).
-/
namespace Sys2Proof.Machine

section
variable {c : Instr} {kind : Byte} {p : List Byte}

/-- A request of Table 9-6 is the command of its kind number, an unknown kind that of every other (R168). -/
theorem requestOf_requestFrame (fits : c.wellFormed = true) (frame : requestFrame c = some (kind, p)) :
    requestOf kind p = c := by
  cases c
  case unknownKind k q =>
    cases frame
    have unknown : kind.toNat = 0 ∨ Config.lastKind < kind.toNat := by
      simp only [Instr.wellFormed, kindUnknown, Bool.and_eq_true, decide_eq_true_eq] at fits
      exact fits.1
    unfold requestOf
    split
    · rfl
    · next k hk =>
      have beyond : requestTable[k]? = none := List.getElem?_eq_none (by
        show 70 ≤ k
        have last : Config.lastKind = 70 := rfl
        omega)
      rw [beyond]
  all_goals cases frame
  all_goals rfl

/-- The payload of a request frame has at most 1,022 bytes (Table 9-1). -/
theorem payload_length_le (fits : c.wellFormed = true) (frame : requestFrame c = some (kind, p)) :
    p.length ≤ 1022 := by
  have short : payloadFits p = true → p.length ≤ 1022 := of_decide_eq_true
  cases c
  case unknownKind k q =>
    cases frame
    simp only [Instr.wellFormed, Bool.and_eq_true] at fits
    exact short fits.2
  all_goals cases frame
  all_goals exact short fits

@[simp] theorem frameBody_length (kind : Byte) (p : List Byte) : (frameBody kind p).length = p.length + 3 := by
  simp [frameBody]; omega

@[simp] theorem wireFrame_length (kind : Byte) (p : List Byte) : (wireFrame kind p).length = p.length + 5 := by
  simp [wireFrame]

/-- What precedes the CRC of a frame on the line (Table 9-1). -/
theorem wireFrame_take (kind : Byte) (p : List Byte) :
    (wireFrame kind p).take ((wireFrame kind p).length - 2) = frameBody kind p :=
  List.take_left' (by simp)

theorem lenOf_wireFrame (h : p.length ≤ 1022) : lenOf ((wireFrame kind p).take 2) = some (p.length + 1) := by
  have two : (wireFrame kind p).take 2 = be 2 (p.length + 1) := by
    unfold wireFrame frameBody
    rw [List.append_assoc]
    exact List.take_left' (be_length ..)
  rw [two]
  simp only [be, List.nil_append, List.cons_append, lenOf, BitVec.toNat_ofNat, Option.some.injEq]
  omega

theorem isComplete_wireFrame (h : p.length ≤ 1022) : isComplete (wireFrame kind p) = true := by
  unfold isComplete
  rw [lenOf_wireFrame h]
  simp [lenPermitted]
  omega

theorem crcRight_wireFrame (kind : Byte) (p : List Byte) : crcRight (wireFrame kind p) = true := by
  unfold crcRight
  rw [wireFrame_take]
  exact decide_eq_true (List.drop_left' (by simp))

theorem kindOf_wireFrame (kind : Byte) (p : List Byte) : kindOf (wireFrame kind p) = kind := rfl

theorem payloadOf_wireFrame (kind : Byte) (p : List Byte) : payloadOf (wireFrame kind p) = p := by
  unfold payloadOf
  rw [wireFrame_take]
  rfl

theorem readFrame_wireFrame (h : p.length ≤ 1022) : readFrame (wireFrame kind p) = some (requestOf kind p) := by
  unfold readFrame
  rw [isComplete_wireFrame h, crcRight_wireFrame, kindOf_wireFrame, payloadOf_wireFrame]
  rfl

end

/-- Settles O3: the bytes of a frame on the line hold its LEN, its KIND, its payload and the CRC of all of them. -/
theorem framesRead : Obligations.FramesRead := by
  unfold Obligations.FramesRead
  intro c kind p fits frame
  have short := payload_length_le fits frame
  refine ⟨isComplete_wireFrame short, crcRight_wireFrame kind p, ?_⟩
  rw [readFrame_wireFrame short, requestOf_requestFrame fits frame]

end Sys2Proof.Machine
end

section
/-!
What the rule of each request answers, and that it leaves the commands that wait and the link (R168, R169).
-/
namespace Sys2Proof.Machine

/-! ## What leaves the commands that wait and the link alone -/

/-- The commands that wait and the link stand. -/
def Offline (s t : State) : Prop := t.pending = s.pending ∧ t.lkp = s.lkp

section
variable {s t u : State}

theorem Offline.refl (s : State) : Offline s s := ⟨rfl, rfl⟩
theorem Offline.trans (h : Offline s t) (k : Offline t u) : Offline s u := ⟨k.1.trans h.1, k.2.trans h.2⟩
theorem Ticks.offline (h : Ticks s t) : Offline s t := ⟨h.1, h.2.1⟩
theorem Retires.offline (h : Retires s t) : Offline s t := h.ticks.offline
theorem Exports.offline (h : Exports s t) : Offline s t := h.ticks.offline
theorem Captures.offline (h : Captures s t) : Offline s t := h.exports.offline
theorem Reports.offline : Reports s t → Offline s t := by rintro ⟨_, _, _, _, _, _, rfl⟩; exact ⟨rfl, rfl⟩
theorem Receives.offline : Receives s t → Offline s t := by rintro ⟨_, _, _, _, _, _, rfl⟩; exact ⟨rfl, rfl⟩

theorem offline_rebase (role ch s) : Offline s (rebase role ch s) := by cases role <;> exact ⟨rfl, rfl⟩

theorem offline_rebaseReaders (old ch s) : Offline s (rebaseReaders old ch s) := by
  unfold rebaseReaders
  dsimp only
  repeat' split
  · exact (offline_rebase ..).trans (offline_rebase ..)
  · exact offline_rebase ..
  · exact offline_rebase ..
  · exact .refl s

/-- A row that is an event under a condition, and leaves the state as it is where that fails. -/
theorem offline_ite {c : Prop} [Decidable c] (h : Offline s t) : Offline s (if c then t else s) := by
  split
  · exact h
  · exact .refl s

end

/-! ## What the rule of a request answers -/

/-- The answer of the rule that owns the request `c` with payload `p`: OK or CLAMPED with a state in which the commands
that wait and the link stand, of the link not the mode where `c` is MODE-START or MODE-STOP; or another code without a
payload but the item of a RANGE, of which MODE-START gives two bytes (R168, R169). -/
def Answer.Lawful (c : Instr) (p : List Byte) (s : State) : Answer → Prop
  | .done code _ t => (code = .ok ∨ code = .clamped) ∧ t.pending = s.pending ∧
      t.lkp = { s.lkp with mode := t.lkp.mode } ∧
      (c ≠ .modeStart p → c ≠ .modeStop p → t.lkp.mode = s.lkp.mode)
  | .refuse code q => code ∉ [ResultCode.ok, .clamped] ∧ (code ≠ .range → q = []) ∧
      (code = .range → q.length = 1 ∨ c = .modeStart p ∧ q.length = 2)

section
variable {c : Instr} {p q : List Byte} {s t : State} {a : Answer}

theorem lawful_done {code : ResultCode} (h : Offline s t) (hc : code = .ok ∨ code = .clamped) :
    (Answer.done code q t).Lawful c p s :=
  ⟨hc, h.1, by rw [h.2], fun _ _ => by rw [h.2]⟩

/-- Most rules answer OK with a state in which the link stands. -/
theorem lawful_okWith (h : Offline s t) : (okWith q t).Lawful c p s := lawful_done h (.inl rfl)

theorem lawful_item (b : Byte) : (Answer.refuse .range [b]).Lawful c p s :=
  ⟨by decide, fun h => absurd rfl h, fun _ => .inl rfl⟩

theorem lawful_rangeItem {k : Nat} : (rangeItem k).Lawful c p s := lawful_item _

theorem lawful_refused {code : ResultCode} (h : code ∉ [ResultCode.ok, .clamped, .range] := by decide) :
    (refused code).Lawful c p s :=
  ⟨fun m => h (by simp_all), fun _ => rfl, fun e => absurd e (by simp_all)⟩

theorem lawful_unlessRun (h : a.Lawful c p s) : (unlessRun s a).Lawful c p s := by
  unfold unlessRun
  split
  · exact lawful_refused
  · exact h

theorem lawful_checkRange {n m first count : Nat} (h : a.Lawful c p s) :
    (checkRange n m first count a).Lawful c p s := by
  unfold checkRange
  split
  · exact lawful_rangeItem
  split
  · exact lawful_rangeItem
  · exact h

theorem lawful_withAccount {key : Nat} {f : Fin 256 → DirEntry → Answer} (h : ∀ i e, (f i e).Lawful c p s) :
    (withAccount key s f).Lawful c p s := by
  unfold withAccount
  split
  · exact lawful_rangeItem
  split
  · exact lawful_refused
  · exact h ..

theorem lawful_nominationDone {clamped : Option Nat} (h : Offline s t) : (nominationDone q clamped t).Lawful c p s := by
  unfold nominationDone
  split
  · exact lawful_done h (.inr rfl)
  · exact lawful_okWith h

/-! ## Chapters 1 and 2 -/

theorem judgeClockSet_lawful (f) : (judgeClockSet f s).Lawful c p s := by
  refine lawful_unlessRun ?_
  repeat' split
  all_goals try exact lawful_rangeItem
  exact lawful_okWith ⟨rfl, rfl⟩

theorem judgeClockTrim_lawful (k) : (judgeClockTrim k s).Lawful c p s := by
  unfold judgeClockTrim
  split
  · exact lawful_refused
  · exact lawful_done ⟨rfl, rfl⟩ (by split <;> simp)

theorem judgeTimerSet_lawful (f) : (judgeTimerSet f s).Lawful c p s := by
  unfold judgeTimerSet
  repeat' split
  all_goals try exact lawful_rangeItem
  · exact lawful_refused
  · exact lawful_okWith ⟨rfl, rfl⟩

theorem judgeTimerDisarm_lawful (k) : (judgeTimerDisarm k s).Lawful c p s := by
  unfold judgeTimerDisarm
  split
  · exact lawful_rangeItem
  · exact lawful_okWith ⟨rfl, rfl⟩

theorem judgeCaptureSet_lawful (f) : (judgeCaptureSet f s).Lawful c p s := by
  unfold judgeCaptureSet
  repeat' split
  all_goals try exact lawful_rangeItem
  · exact lawful_refused
  · exact lawful_okWith ⟨rfl, rfl⟩

theorem judgeCaptureDisarm_lawful (k) : (judgeCaptureDisarm k s).Lawful c p s := by
  unfold judgeCaptureDisarm
  split
  · exact lawful_rangeItem
  · exact lawful_okWith ⟨rfl, rfl⟩

theorem judgeCaptureTrigger_lawful (k) : (judgeCaptureTrigger k s).Lawful c p s := by
  unfold judgeCaptureTrigger
  repeat' split
  · exact lawful_rangeItem
  · exact lawful_okWith (captures_triggerUnit ..).offline
  · exact lawful_refused

theorem judgeCaptureFetch_lawful (f) : (judgeCaptureFetch f s).Lawful c p s :=
  lawful_okWith (by split <;> exact ⟨rfl, rfl⟩)

theorem judgePulseSet_lawful (f) : (judgePulseSet f s).Lawful c p s := by
  refine lawful_unlessRun ?_
  repeat' split
  all_goals try exact lawful_rangeItem
  all_goals exact lawful_okWith (offline_rebaseReaders ..)

theorem judgeEventSet_lawful (f) : (judgeEventSet f s).Lawful c p s := by
  refine lawful_unlessRun ?_
  repeat' split
  all_goals try exact lawful_rangeItem
  exact lawful_okWith ⟨rfl, rfl⟩

theorem judgePointSet_lawful (f) : (judgePointSet f s).Lawful c p s := by
  refine lawful_unlessRun ?_
  repeat' split
  all_goals try exact lawful_rangeItem
  exact lawful_okWith ⟨rfl, rfl⟩

/-! ## Chapters 3 and 4 -/

theorem judgeGradeSet_lawful (f) : (judgeGradeSet f s).Lawful c p s := by
  refine lawful_unlessRun ?_
  repeat' split
  all_goals try exact lawful_rangeItem
  all_goals exact lawful_okWith ⟨rfl, rfl⟩

theorem judgeHolderSet_lawful (f) : (judgeHolderSet f s).Lawful c p s := by
  refine lawful_unlessRun ?_
  repeat' split
  all_goals try exact lawful_rangeItem
  exact lawful_okWith ⟨rfl, rfl⟩

theorem judgeGradeRead_lawful (k) : (judgeGradeRead k s).Lawful c p s := by
  unfold judgeGradeRead
  split
  · exact lawful_rangeItem
  · exact lawful_okWith (.refl s)

theorem judgeConsumerSet_lawful (f) : (judgeConsumerSet f s).Lawful c p s := by
  refine lawful_unlessRun ?_
  dsimp only
  repeat' split
  all_goals try exact lawful_rangeItem
  all_goals exact lawful_okWith ⟨rfl, rfl⟩

theorem judgeConsumerEnable_lawful (f) : (judgeConsumerEnable f s).Lawful c p s := by
  unfold judgeConsumerEnable
  dsimp only
  repeat' split
  all_goals try exact lawful_rangeItem
  exact lawful_okWith ⟨rfl, rfl⟩

theorem judgeRequestSet_lawful (f) : (judgeRequestSet f s).Lawful c p s := by
  unfold judgeRequestSet
  split
  · exact lawful_rangeItem
  dsimp only
  split
  · exact lawful_rangeItem
  · exact lawful_done ⟨rfl, rfl⟩ (by split <;> simp)

theorem judgeConsumerRead_lawful (k) : (judgeConsumerRead k s).Lawful c p s := by
  unfold judgeConsumerRead
  split
  · exact lawful_rangeItem
  · exact lawful_okWith (.refl s)

/-! ## Chapter 5 -/

theorem judgeDriveSet_lawful (f) : (judgeDriveSet f s).Lawful c p s := by
  unfold judgeDriveSet
  dsimp only
  repeat' split
  all_goals try exact lawful_rangeItem
  all_goals try exact lawful_refused
  exact lawful_okWith ⟨rfl, rfl⟩

theorem judgeDriveSetpoint_lawful (f) : (judgeDriveSetpoint f s).Lawful c p s := by
  unfold judgeDriveSetpoint
  split
  · exact lawful_rangeItem
  dsimp only
  split
  · exact lawful_refused
  · exact lawful_done ⟨rfl, rfl⟩ (by split <;> simp)

theorem judgeDriveStart_lawful (k) : (judgeDriveStart k s).Lawful c p s := by
  unfold judgeDriveStart
  dsimp only
  repeat' split
  · exact lawful_rangeItem
  · exact lawful_refused
  · exact lawful_refused
  · exact lawful_okWith ⟨rfl, rfl⟩

theorem judgeDriveStop_lawful (k) : (judgeDriveStop k s).Lawful c p s := by
  unfold judgeDriveStop
  repeat' split
  · exact lawful_rangeItem
  · exact lawful_refused
  · exact lawful_okWith ⟨rfl, rfl⟩

theorem judgeDrivePosition_lawful (f) : (judgeDrivePosition f s).Lawful c p s := by
  unfold judgeDrivePosition
  dsimp only
  repeat' split
  all_goals try exact lawful_rangeItem
  all_goals try exact lawful_refused
  exact lawful_okWith ⟨rfl, rfl⟩

/-! ## Chapter 6 -/

theorem judgeExportSet_lawful (f) : (judgeExportSet f s).Lawful c p s := by
  unfold judgeExportSet
  repeat' split
  all_goals try exact lawful_rangeItem
  all_goals try exact lawful_refused
  all_goals exact lawful_okWith ⟨rfl, rfl⟩

theorem judgeNominate_lawful (f) : (judgeNominate f s).Lawful c p s := by
  unfold judgeNominate
  repeat' split
  · exact lawful_rangeItem
  · exact lawful_rangeItem
  · exact lawful_nominationDone ⟨rfl, rfl⟩

theorem judgeNominateAmend_lawful (f) : (judgeNominateAmend f s).Lawful c p s := by
  unfold judgeNominateAmend
  repeat' split
  · exact lawful_refused
  · exact lawful_rangeItem
  · exact lawful_rangeItem
  · exact lawful_nominationDone ⟨rfl, rfl⟩

theorem judgeExportArm_lawful (f) : (judgeExportArm f s).Lawful c p s := by
  unfold judgeExportArm
  split
  · exact lawful_refused
  · exact lawful_okWith ((exports_changeExport ..).trans (exports_formRecord _)).offline

theorem judgeExportHalt_lawful (f) : (judgeExportHalt f s).Lawful c p s := by
  unfold judgeExportHalt
  split
  · exact lawful_refused
  · exact lawful_okWith ((exports_changeExport .halted 0 s.sck.pos s).trans
      ((exports_exs ..).trans (exports_formRecord _))).offline

theorem judgeExportRelease_lawful (f) : (judgeExportRelease f s).Lawful c p s := by
  unfold judgeExportRelease
  split
  · exact lawful_refused
  · exact lawful_okWith ((exports_changeExport .idle 0 s.sck.pos s).trans
      ((exports_exs ..).trans (exports_formRecord _))).offline

theorem judgeCurtail_lawful (f) : (judgeCurtail f s).Lawful c p s := by
  unfold judgeCurtail
  split
  · exact lawful_rangeItem
  split
  · exact lawful_rangeItem
  · exact lawful_okWith ⟨rfl, rfl⟩

theorem judgeExportLogFetch_lawful (f) : (judgeExportLogFetch f s).Lawful c p s :=
  lawful_okWith (by split <;> exact ⟨rfl, rfl⟩)

theorem judgeNominationRead_lawful (f) : (judgeNominationRead f s).Lawful c p s := by
  unfold judgeNominationRead
  split
  · exact lawful_item _
  · exact lawful_checkRange (lawful_okWith (.refl s))

/-! ## Chapter 7 -/

theorem judgeMeterSet_lawful (f) : (judgeMeterSet f s).Lawful c p s := by
  refine lawful_unlessRun ?_
  repeat' split
  all_goals try exact lawful_rangeItem
  exact lawful_okWith ⟨rfl, rfl⟩

theorem judgeMeterKey_lawful (f) : (judgeMeterKey f s).Lawful c p s := by
  unfold judgeMeterKey
  split
  · exact lawful_rangeItem
  · exact lawful_okWith ⟨rfl, rfl⟩

theorem judgeMeterConfirm_lawful (k) : (judgeMeterConfirm k s).Lawful c p s := by
  unfold judgeMeterConfirm
  split
  · exact lawful_rangeItem
  · exact lawful_okWith ⟨rfl, rfl⟩

theorem judgeMeterRead_lawful (k) : (judgeMeterRead k s).Lawful c p s := by
  unfold judgeMeterRead
  split
  · exact lawful_rangeItem
  · exact lawful_okWith (.refl s)

theorem judgeRetireRead_lawful (f) : (judgeRetireRead f s).Lawful c p s := by
  unfold judgeRetireRead
  split
  · exact lawful_rangeItem
  split
  · exact lawful_rangeItem
  · exact lawful_okWith (.refl s)

/-! ## Chapter 8 -/

theorem judgeAccountAdd_lawful (f) : (judgeAccountAdd f s).Lawful c p s := by
  unfold judgeAccountAdd
  repeat' split
  · exact lawful_rangeItem
  · exact lawful_rangeItem
  · exact lawful_refused
  · exact lawful_refused
  · exact lawful_okWith ⟨rfl, rfl⟩

theorem judgeAccountRemove_lawful (k) : (judgeAccountRemove k s).Lawful c p s := by
  refine lawful_withAccount fun i e => ?_
  split
  · exact lawful_refused
  · exact lawful_okWith ⟨rfl, rfl⟩

theorem judgeAccountSuspend_lawful (k) : (judgeAccountSuspend k s).Lawful c p s :=
  lawful_withAccount fun _ _ => lawful_okWith ⟨rfl, rfl⟩

theorem judgeAccountResume_lawful (k) : (judgeAccountResume k s).Lawful c p s :=
  lawful_withAccount fun _ _ => lawful_okWith ⟨rfl, rfl⟩

theorem judgeAccountTariff_lawful (f) : (judgeAccountTariff f s).Lawful c p s := by
  unfold judgeAccountTariff
  split
  · exact lawful_rangeItem
  split
  · exact lawful_rangeItem
  · exact lawful_withAccount fun _ _ => lawful_okWith ⟨rfl, rfl⟩

theorem judgeLookasidePurge_lawful (k) : (judgeLookasidePurge k s).Lawful c p s := by
  unfold judgeLookasidePurge
  split
  · exact lawful_okWith ⟨rfl, rfl⟩
  split
  · exact lawful_rangeItem
  · exact lawful_okWith ⟨rfl, rfl⟩

theorem judgeTariffSet_lawful (f) : (judgeTariffSet f s).Lawful c p s := by
  unfold judgeTariffSet
  split
  · exact lawful_rangeItem
  · exact lawful_okWith ⟨rfl, rfl⟩

theorem judgeBandmapSet_lawful (f) : (judgeBandmapSet f s).Lawful c p s := by
  unfold judgeBandmapSet
  repeat' split
  all_goals try exact lawful_rangeItem
  exact lawful_okWith ⟨rfl, rfl⟩

theorem judgeSuspenseRead_lawful (k) : (judgeSuspenseRead k s).Lawful c p s := by
  unfold judgeSuspenseRead
  split
  · exact lawful_rangeItem
  · exact lawful_okWith (.refl s)

theorem judgePeriodClose_lawful (f) : (judgePeriodClose f s).Lawful c p s := by
  unfold judgePeriodClose
  split
  · exact lawful_refused
  split
  · exact lawful_refused
  · exact lawful_okWith (.trans (t := { s with abu := { s.abu with close := .marked } }) ⟨rfl, rfl⟩
      (retires_retireRun ..).offline)

theorem judgeStatementFetch_lawful (f) : (judgeStatementFetch f s).Lawful c p s :=
  lawful_okWith (by split <;> exact ⟨rfl, rfl⟩)

/-! ## Chapters 9 and 10 -/

theorem modeStart_waits (s) : (modeStart s).pending = s.pending ∧ (modeStart s).lkp = { s.lkp with mode := .run } := by
  obtain ⟨x, u, l, r, d, frame⟩ := modeStart_frame s
  rw [frame]
  exact ⟨rfl, rfl⟩

theorem modeStop_waits (s) : (modeStop s).pending = s.pending ∧ (modeStop s).lkp = { s.lkp with mode := .setup } := by
  obtain ⟨u, l, r, m, a, d, frame⟩ := modeStop_frame s
  rw [frame]
  exact ⟨rfl, rfl⟩

theorem judgeModeStart_lawful (f) : (judgeModeStart f s).Lawful (.modeStart p) p s := by
  unfold judgeModeStart
  split
  · exact lawful_refused
  split
  · exact ⟨by decide, fun h => absurd rfl h, fun _ => .inr ⟨rfl, rfl⟩⟩
  · obtain ⟨pending, lkp⟩ := modeStart_waits s
    exact ⟨.inl rfl, pending, by rw [lkp], fun h => absurd rfl h⟩

theorem judgeModeStop_lawful (f) : (judgeModeStop f s).Lawful (.modeStop p) p s := by
  unfold judgeModeStop
  split
  · exact lawful_refused
  · obtain ⟨pending, lkp⟩ := modeStop_waits s
    exact ⟨.inl rfl, pending, by rw [lkp], fun _ h => absurd rfl h⟩

theorem judgeConditionRaise_lawful (f) : (judgeConditionRaise f s).Lawful c p s := by
  unfold judgeConditionRaise
  split
  · exact lawful_rangeItem
  · exact lawful_okWith ⟨rfl, rfl⟩

theorem judgeConditionRoute_lawful (f) : (judgeConditionRoute f s).Lawful c p s := by
  unfold judgeConditionRoute
  repeat' split
  all_goals try exact lawful_rangeItem
  exact lawful_okWith ⟨rfl, rfl⟩

end

end Sys2Proof.Machine
end

section
/-!
Every command completes and leaves the commands that wait; a request that is heard is answered with one reply, which
refuses or changes (R166 to R170).
-/
namespace Sys2Proof.Machine

/-! ## The rule that owns a request -/

/-- Request `c` is a frame of this kind with payload `p`; its payload is read by `parse` and judged by `judge`. -/
structure Owned {α : Type} (c : Instr) (kind : Byte) (p : List Byte) (parse : List Byte → Option α)
    (judge : α → State → Answer) : Prop where
  known : kind.toNat < 128
  size : sizePermitted c = (parse p).isSome
  meaning : ∀ s, exec c s = request kind parse judge p s
  lawful : ∀ f s, (judge f s).Lawful c p s

/-- Some rule owns the request `c` of this kind with payload `p`. -/
def HasOwner (c : Instr) (kind : Byte) (p : List Byte) : Prop :=
  ∃ (α : Type) (parse : List Byte → Option α) (judge : α → State → Answer), Owned c kind p parse judge

section
variable {c : Instr} {kind : Byte} {p : List Byte} {s t : State}

/-- A rule that gives a request its meaning owns it, where its answers are lawful. -/
theorem hasOwner_of {α : Type} {parse : List Byte → Option α} (judge : α → State → Answer)
    (meaning : ∀ s, exec c s = request kind parse judge p s) (size : sizePermitted c = (parse p).isSome)
    (known : kind.toNat < 128) (lawful : ∀ f s, (judge f s).Lawful c p s) : HasOwner c kind p :=
  ⟨α, parse, judge, known, size, meaning, lawful⟩

/-- Every request of Table 9-6 has an owner; the other frames are of unknown kinds (R168). -/
theorem hasOwner_of_requestFrame (frame : requestFrame c = some (kind, p)) :
    c = .unknownKind kind p ∨ HasOwner c kind p := by
  cases c
  case unknownKind k q => cases frame; exact .inl rfl
  all_goals cases frame
  all_goals refine .inr ?_
  case identify => exact hasOwner_of judgeIdentify (fun _ => rfl) rfl (by decide) fun _ s => lawful_okWith (.refl s)
  case status => exact hasOwner_of judgeStatus (fun _ => rfl) rfl (by decide) fun _ s => lawful_okWith (.refl s)
  case modeStart => exact hasOwner_of judgeModeStart (fun _ => rfl) rfl (by decide) fun f _ => judgeModeStart_lawful f
  case modeStop => exact hasOwner_of judgeModeStop (fun _ => rfl) rfl (by decide) fun f _ => judgeModeStop_lawful f
  case restart => exact hasOwner_of judgeRestart (fun _ => rfl) rfl (by decide) fun _ s => lawful_okWith (.refl s)
  case clockSet => exact hasOwner_of judgeClockSet (fun _ => rfl) rfl (by decide) fun f _ => judgeClockSet_lawful f
  case clockTrim => exact hasOwner_of judgeClockTrim (fun _ => rfl) rfl (by decide) fun f _ => judgeClockTrim_lawful f
  case clockRead => exact hasOwner_of judgeClockRead (fun _ => rfl) rfl (by decide) fun _ s => lawful_okWith (.refl s)
  case timerSet => exact hasOwner_of judgeTimerSet (fun _ => rfl) rfl (by decide) fun f _ => judgeTimerSet_lawful f
  case timerDisarm =>
    exact hasOwner_of judgeTimerDisarm (fun _ => rfl) rfl (by decide) fun f _ => judgeTimerDisarm_lawful f
  case captureSet =>
    exact hasOwner_of judgeCaptureSet (fun _ => rfl) rfl (by decide) fun f _ => judgeCaptureSet_lawful f
  case captureDisarm =>
    exact hasOwner_of judgeCaptureDisarm (fun _ => rfl) rfl (by decide) fun f _ => judgeCaptureDisarm_lawful f
  case captureTrigger =>
    exact hasOwner_of judgeCaptureTrigger (fun _ => rfl) rfl (by decide) fun f _ => judgeCaptureTrigger_lawful f
  case captureFetch =>
    exact hasOwner_of judgeCaptureFetch (fun _ => rfl) rfl (by decide) fun f _ => judgeCaptureFetch_lawful f
  case pulseSet => exact hasOwner_of judgePulseSet (fun _ => rfl) rfl (by decide) fun f _ => judgePulseSet_lawful f
  case pulseRead =>
    exact hasOwner_of judgePulseRead (fun _ => rfl) rfl (by decide) fun _ s =>
      lawful_checkRange (lawful_okWith (.refl s))
  case eventSet => exact hasOwner_of judgeEventSet (fun _ => rfl) rfl (by decide) fun f _ => judgeEventSet_lawful f
  case eventRead => exact hasOwner_of judgeEventRead (fun _ => rfl) rfl (by decide) fun _ s => lawful_okWith (.refl s)
  case pointSet => exact hasOwner_of judgePointSet (fun _ => rfl) rfl (by decide) fun f _ => judgePointSet_lawful f
  case pointRead =>
    exact hasOwner_of judgePointRead (fun _ => rfl) rfl (by decide) fun _ s =>
      lawful_checkRange (lawful_okWith (.refl s))
  case gradeSet => exact hasOwner_of judgeGradeSet (fun _ => rfl) rfl (by decide) fun f _ => judgeGradeSet_lawful f
  case holderSet => exact hasOwner_of judgeHolderSet (fun _ => rfl) rfl (by decide) fun f _ => judgeHolderSet_lawful f
  case gradeRead => exact hasOwner_of judgeGradeRead (fun _ => rfl) rfl (by decide) fun f _ => judgeGradeRead_lawful f
  case consumerSet =>
    exact hasOwner_of judgeConsumerSet (fun _ => rfl) rfl (by decide) fun f _ => judgeConsumerSet_lawful f
  case consumerEnable =>
    exact hasOwner_of judgeConsumerEnable (fun _ => rfl) rfl (by decide) fun f _ => judgeConsumerEnable_lawful f
  case requestSet =>
    exact hasOwner_of judgeRequestSet (fun _ => rfl) rfl (by decide) fun f _ => judgeRequestSet_lawful f
  case consumerRead =>
    exact hasOwner_of judgeConsumerRead (fun _ => rfl) rfl (by decide) fun f _ => judgeConsumerRead_lawful f
  case stepRead => exact hasOwner_of judgeStepRead (fun _ => rfl) rfl (by decide) fun _ s => lawful_okWith (.refl s)
  case driveSet => exact hasOwner_of judgeDriveSet (fun _ => rfl) rfl (by decide) fun f _ => judgeDriveSet_lawful f
  case driveSetpoint =>
    exact hasOwner_of judgeDriveSetpoint (fun _ => rfl) rfl (by decide) fun f _ => judgeDriveSetpoint_lawful f
  case driveStart =>
    exact hasOwner_of judgeDriveStart (fun _ => rfl) rfl (by decide) fun f _ => judgeDriveStart_lawful f
  case driveStop => exact hasOwner_of judgeDriveStop (fun _ => rfl) rfl (by decide) fun f _ => judgeDriveStop_lawful f
  case drivePosition =>
    exact hasOwner_of judgeDrivePosition (fun _ => rfl) rfl (by decide) fun f _ => judgeDrivePosition_lawful f
  case driveRead =>
    exact hasOwner_of judgeDriveRead (fun _ => rfl) rfl (by decide) fun _ s =>
      lawful_checkRange (lawful_okWith (.refl s))
  case exportSet => exact hasOwner_of judgeExportSet (fun _ => rfl) rfl (by decide) fun f _ => judgeExportSet_lawful f
  case nominate => exact hasOwner_of judgeNominate (fun _ => rfl) rfl (by decide) fun f _ => judgeNominate_lawful f
  case nominateCancel =>
    exact hasOwner_of judgeNominateCancel (fun _ => rfl) rfl (by decide) fun _ _ => lawful_okWith ⟨rfl, rfl⟩
  case nominateAmend =>
    exact hasOwner_of judgeNominateAmend (fun _ => rfl) rfl (by decide) fun f _ => judgeNominateAmend_lawful f
  case exportArm => exact hasOwner_of judgeExportArm (fun _ => rfl) rfl (by decide) fun f _ => judgeExportArm_lawful f
  case exportHalt =>
    exact hasOwner_of judgeExportHalt (fun _ => rfl) rfl (by decide) fun f _ => judgeExportHalt_lawful f
  case exportRelease =>
    exact hasOwner_of judgeExportRelease (fun _ => rfl) rfl (by decide) fun f _ => judgeExportRelease_lawful f
  case curtail => exact hasOwner_of judgeCurtail (fun _ => rfl) rfl (by decide) fun f _ => judgeCurtail_lawful f
  case exportLogFetch =>
    exact hasOwner_of judgeExportLogFetch (fun _ => rfl) rfl (by decide) fun f _ => judgeExportLogFetch_lawful f
  case exportRead =>
    exact hasOwner_of judgeExportRead (fun _ => rfl) rfl (by decide) fun _ s => lawful_okWith (.refl s)
  case nominationRead =>
    exact hasOwner_of judgeNominationRead (fun _ => rfl) rfl (by decide) fun f _ => judgeNominationRead_lawful f
  case meterSet => exact hasOwner_of judgeMeterSet (fun _ => rfl) rfl (by decide) fun f _ => judgeMeterSet_lawful f
  case meterKey => exact hasOwner_of judgeMeterKey (fun _ => rfl) rfl (by decide) fun f _ => judgeMeterKey_lawful f
  case meterConfirm =>
    exact hasOwner_of judgeMeterConfirm (fun _ => rfl) rfl (by decide) fun f _ => judgeMeterConfirm_lawful f
  case meterRead => exact hasOwner_of judgeMeterRead (fun _ => rfl) rfl (by decide) fun f _ => judgeMeterRead_lawful f
  case retireRead =>
    exact hasOwner_of judgeRetireRead (fun _ => rfl) rfl (by decide) fun f _ => judgeRetireRead_lawful f
  case accountAdd =>
    exact hasOwner_of judgeAccountAdd (fun _ => rfl) rfl (by decide) fun f _ => judgeAccountAdd_lawful f
  case accountRemove =>
    exact hasOwner_of judgeAccountRemove (fun _ => rfl) rfl (by decide) fun f _ => judgeAccountRemove_lawful f
  case accountSuspend =>
    exact hasOwner_of judgeAccountSuspend (fun _ => rfl) rfl (by decide) fun f _ => judgeAccountSuspend_lawful f
  case accountResume =>
    exact hasOwner_of judgeAccountResume (fun _ => rfl) rfl (by decide) fun f _ => judgeAccountResume_lawful f
  case accountTariff =>
    exact hasOwner_of judgeAccountTariff (fun _ => rfl) rfl (by decide) fun f _ => judgeAccountTariff_lawful f
  case accountRead =>
    exact hasOwner_of judgeAccountRead (fun _ => rfl) rfl (by decide) fun _ s =>
      lawful_withAccount fun _ _ => lawful_okWith (.refl s)
  case directoryRead =>
    exact hasOwner_of judgeDirectoryRead (fun _ => rfl) rfl (by decide) fun _ s =>
      lawful_checkRange (lawful_okWith (.refl s))
  case lookasidePurge =>
    exact hasOwner_of judgeLookasidePurge (fun _ => rfl) rfl (by decide) fun f _ => judgeLookasidePurge_lawful f
  case lookasideRead =>
    exact hasOwner_of judgeLookasideRead (fun _ => rfl) rfl (by decide) fun _ s => lawful_okWith (.refl s)
  case tariffSet => exact hasOwner_of judgeTariffSet (fun _ => rfl) rfl (by decide) fun f _ => judgeTariffSet_lawful f
  case bandmapSet =>
    exact hasOwner_of judgeBandmapSet (fun _ => rfl) rfl (by decide) fun f _ => judgeBandmapSet_lawful f
  case tariffRead =>
    exact hasOwner_of judgeTariffRead (fun _ => rfl) rfl (by decide) fun _ s => lawful_okWith (.refl s)
  case suspenseRead =>
    exact hasOwner_of judgeSuspenseRead (fun _ => rfl) rfl (by decide) fun f _ => judgeSuspenseRead_lawful f
  case periodClose =>
    exact hasOwner_of judgePeriodClose (fun _ => rfl) rfl (by decide) fun f _ => judgePeriodClose_lawful f
  case statementFetch =>
    exact hasOwner_of judgeStatementFetch (fun _ => rfl) rfl (by decide) fun f _ => judgeStatementFetch_lawful f
  case periodRead =>
    exact hasOwner_of judgePeriodRead (fun _ => rfl) rfl (by decide) fun _ s => lawful_okWith (.refl s)
  case conditionRead =>
    exact hasOwner_of judgeConditionRead (fun _ => rfl) rfl (by decide) fun _ s => lawful_okWith (.refl s)
  case conditionClear =>
    exact hasOwner_of judgeConditionClear (fun _ => rfl) rfl (by decide) fun _ _ => lawful_okWith ⟨rfl, rfl⟩
  case conditionRaise =>
    exact hasOwner_of judgeConditionRaise (fun _ => rfl) rfl (by decide) fun f _ => judgeConditionRaise_lawful f
  case conditionRoute =>
    exact hasOwner_of judgeConditionRoute (fun _ => rfl) rfl (by decide) fun f _ => judgeConditionRoute_lawful f

/-! ## Requests -/

/-- The outcome is a next state, in which the commands that wait stand as they stood in `s`. -/
def Completes (s : State) (o : Host.Outcome State Fault Refusal) : Prop := ∃ t, o = .next t ∧ t.pending = s.pending

theorem completes_next (h : t.pending = s.pending) : Completes s (.next t) := ⟨t, rfl, h⟩

theorem Offline.completes (h : Offline s t) : Completes s (.next t) := completes_next h.1

/-- An owned request completes with the commands that wait as they stood. -/
theorem hasOwner_completes (owner : HasOwner c kind p) (s : State) : Completes s (exec c s) := by
  obtain ⟨α, parse, judge, owned⟩ := owner
  rw [owned.meaning]
  unfold request
  split
  · exact completes_next rfl
  split
  · exact completes_next rfl
  · next f _ =>
    have lawful := owned.lawful f s
    cases hj : judge f s with
    | done code q t =>
      rw [hj] at lawful
      obtain ⟨-, pending, -⟩ := lawful
      exact completes_next pending
    | refuse code q => exact completes_next rfl

theorem execUnknownKind_completes (kind : Byte) (p : List Byte) (s : State) :
    Completes s (execUnknownKind kind p s) := by
  unfold execUnknownKind
  split
  · exact completes_next rfl
  split
  · exact completes_next rfl
  · exact completes_next rfl

theorem request_completes (frame : requestFrame c = some (kind, p)) (s : State) : Completes s (exec c s) := by
  obtain rfl | owner := hasOwner_of_requestFrame frame
  · exact execUnknownKind_completes kind p s
  · exact hasOwner_completes owner s

/-- What a frame spells is a request (R168). -/
theorem requestFrame_requestOf (kind : Byte) (p : List Byte) :
    ∃ k q, requestFrame (requestOf kind p) = some (k, q) := by
  have table : ∀ c ∈ requestTable, ∃ k q, requestFrame (c p) = some (k, q) := by
    simp [requestTable, requestFrame]
  unfold requestOf
  split
  · exact ⟨_, _, rfl⟩
  split
  · next hc => exact table _ (List.mem_of_getElem? hc)
  · exact ⟨_, _, rfl⟩

/-! ## Events -/

theorem Relinked.completes (h : Relinked s t) : Completes s (.next t) := by
  obtain ⟨_, _, rfl, _⟩ := h
  exact completes_next rfl

theorem collectByte_completes (b : Byte) (l : List Byte) (s : State) : Completes s (collectByte b l s) := by
  unfold collectByte completeFrame
  dsimp only
  split
  · exact completes_next rfl
  split
  · split
    · exact (relinked_discardFrame ..).completes
    · obtain ⟨k, q, frame⟩ := requestFrame_requestOf (kindOf (l ++ [b])) (payloadOf (l ++ [b]))
      rw [dispatchFrame_eq_exec]
      exact request_completes frame s
  · exact completes_next rfl

theorem execLinkStartByte_completes (s : State) : Completes s (execLinkStartByte s) := by
  unfold execLinkStartByte
  split
  · exact (relinked_huntByte ..).completes
  · exact collectByte_completes ..

theorem warmReset_pending (s : State) : (warmReset s).pending = s.pending := by
  unfold warmReset
  dsimp only
  split
  · exact (modeStop_waits s).1
  · exact (retires_flushQueue s).offline.1

theorem execSensorRecord_completes (bytes : List Byte) (s : State) : Completes s (execSensorRecord bytes s) := by
  unfold execSensorRecord
  split
  · exact ((receives_setSensor ..).trans (receives_sensorBytes ..)).offline.completes
  · exact (receives_sensorBytes ..).offline.completes

theorem execSensorRecordBroken_completes (bytes : List Byte) (cause : SensorBreak) (s : State) :
    Completes s (execSensorRecordBroken bytes cause s) := by
  have broken := (receives_sensorBytes bytes s).trans (receives_breakRecord _)
  unfold execSensorRecordBroken
  dsimp only
  split
  · exact broken.offline.completes
  · refine completes_next ?_
    split
    · exact (broken.trans (receives_sensorByte ..)).offline.1
    · exact broken.offline.1

theorem execEmissionStep_completes (s : State) : Completes s (execEmissionStep s) := by
  unfold execEmissionStep
  split
  · obtain ⟨a, d, emitted⟩ := emitPlace_frame s
    exact completes_next (by rw [emitted])
  all_goals exact completes_next rfl

theorem execPeriodStart_completes (ch : Fin 16) (s : State) : Completes s (execPeriodStart ch s) := by
  unfold execPeriodStart
  dsimp only
  split <;> exact completes_next rfl

theorem execActiveTimeEnd_completes (ch : Fin 16) (s : State) : Completes s (execActiveTimeEnd ch s) := by
  unfold execActiveTimeEnd
  dsimp only
  split <;> exact completes_next rfl

theorem offline_tickPair (ch s) : Offline s (tickPair ch s) := ⟨rfl, rfl⟩

theorem event_completes (event : requestFrame c = none) (s : State) : Completes s (exec c s) := by
  have ticks (o : TickOrder) : Offline s (tick o s) := (ticks_tick o s).offline
  cases c
  case coldReset lsel levels => exact completes_next rfl
  case warmReset => exact completes_next (warmReset_pending s)
  case linkFrameBroken cause =>
    show Completes s (execLinkFrameBroken cause s)
    unfold execLinkFrameBroken
    split
    · exact completes_next rfl
    · exact (relinked_breakBy ..).completes
  case frameDiscarded bytes =>
    show Completes s (execFrameDiscarded bytes s)
    unfold execFrameDiscarded
    dsimp only
    split
    · exact (relinked_discardFrame ..).completes
    · exact completes_next rfl
  case replySent =>
    refine completes_next ?_
    split
    · exact warmReset_pending s
    · rfl
  case timebaseTick o => exact (ticks o).completes
  case pointAgeExpiry sp o =>
    refine completes_next ?_
    split
    · rfl
    · exact (ticks o).1
  case stepBoundary o => exact (offline_ite (ticks o)).completes
  case timerExpiry n o => exact (offline_ite (ticks o)).completes
  case pulseArrival ch => exact completes_next rfl
  case eventLineChange l levels => exact (offline_ite (reports_sampleLines levels s).offline).completes
  case sensorRecord bytes => exact execSensorRecord_completes bytes s
  case sensorRecordBroken bytes cause => exact execSensorRecordBroken_completes bytes cause s
  case readingExpiry i o => exact (offline_ite (ticks o)).completes
  case emissionStep => exact execEmissionStep_completes s
  case periodStart ch => exact execPeriodStart_completes ch s
  case activeTimeEnd ch => exact execActiveTimeEnd_completes ch s
  case pairTick ch => exact (offline_ite (offline_tickPair ch s)).completes
  case moveEnd ch => exact (offline_ite (offline_tickPair ch s)).completes
  case pauseEnd ch => exact (offline_ite (offline_tickPair ch s)).completes
  case eventLineSample levels => exact (reports_sampleLines levels s).offline.completes
  case linkStartByte => exact execLinkStartByte_completes s
  case sensorStartByte => exact (receives_sensorByte ..).offline.completes
  all_goals cases event

end

/-- Settles O2: a request by the rule that owns it, an event by what it can touch. -/
theorem everyCommandCompletes : Obligations.EveryCommandCompletes := by
  unfold Obligations.EveryCommandCompletes
  intro c s
  cases frame : requestFrame c with
  | none => exact event_completes frame s
  | some x => exact request_completes frame s

/-! ## Refusals -/

section
variable {c : Instr} {kind : Byte} {p : List Byte} {s t : State}

/-- What a request that is heard leaves: one reply of its kind, and behind a refusal nothing else (R168, R169). -/
def Replies (c : Instr) (p : List Byte) (kind : Byte) (s t : State) : Prop :=
  ∃ (code : ResultCode) (payload : List Byte),
    t.lkp = replied (replyKind kind) code payload { s.lkp with mode := t.lkp.mode } ∧
    (code ≠ .ok → code ≠ .clamped → t = { s with lkp := replied (replyKind kind) code payload s.lkp }) ∧
    (code ∉ [ResultCode.ok, .clamped, .range] → payload = []) ∧
    (code = .range → payload.length = 1 ∨ c = .modeStart p ∧ payload.length = 2) ∧
    (c ≠ .modeStart p → c ≠ .modeStop p → t.lkp.mode = s.lkp.mode)

/-- A refusal leaves the reply alone (R169). -/
theorem replies_refusal {code : ResultCode} {q : List Byte} (payload : code ≠ .range → q = [])
    (items : code = .range → q.length = 1 ∨ c = .modeStart p ∧ q.length = 2) :
    Replies c p kind s (s.answer kind code q) :=
  ⟨code, q, rfl, fun _ _ => rfl, fun h => payload fun e => h (by simp [e]), items, fun _ _ => rfl⟩

/-- The answer of a lawful rule is such a reply. -/
theorem replies_of_lawful {a : Answer} (lawful : a.Lawful c p s) : Replies c p kind s (reply kind a s) := by
  cases a with
  | done code q t =>
    obtain ⟨done, -, link, mode⟩ := lawful
    refine ⟨code, q, ?_, ?_, ?_, ?_, mode⟩
    · rw [reply_done, State.answer_lkp, link]
    · rintro notOk notClamped
      exact absurd done (not_or.2 ⟨notOk, notClamped⟩)
    · intro other
      obtain rfl | rfl := done <;> simp at other
    · rintro rfl
      obtain h | h := done <;> cases h
  | refuse code q =>
    obtain ⟨-, payload, items⟩ := lawful
    exact replies_refusal payload items

theorem hasOwner_replies (owner : HasOwner c kind p) (heard : Heard s) (h : exec c s = .next t) :
    Replies c p kind s t := by
  obtain ⟨α, parse, judge, owned⟩ := owner
  rw [owned.meaning] at h
  cases hp : parse p with
  | none =>
    rw [request_length heard hp] at h
    cases h
    exact replies_refusal (fun _ => rfl) nofun
  | some f =>
    rw [request_judged heard hp] at h
    cases h
    exact replies_of_lawful (owned.lawful f s)

theorem kindKnown_of_kindUnknown (h : kindUnknown kind = true) : kindKnown kind = false := by
  simp only [kindUnknown, kindKnown, decide_eq_true_eq, decide_eq_false_iff_not] at h ⊢
  omega

/-- An unknown kind is answered UNKNOWN (R168). -/
theorem execUnknownKind_heard (unknown : kindUnknown kind = true) (heard : Heard s) (p : List Byte) :
    exec (.unknownKind kind p) s = .next (s.answer kind .unknown []) := by
  show execUnknownKind kind p s = _
  unfold execUnknownKind
  rw [kindKnown_of_kindUnknown unknown, heard]
  rfl

end

/-- Settles O5: an owned request by the answer of its rule, an unknown kind by UNKNOWN. -/
theorem refusalsChangeNothing : Obligations.RefusalsChangeNothing := by
  unfold Obligations.RefusalsChangeNothing
  intro s t c kind p fits frame heard h
  have replies : Replies c p kind s t := by
    obtain rfl | owner := hasOwner_of_requestFrame frame
    · have unknown : kindUnknown kind = true := (Bool.and_eq_true_iff.1 fits).1
      rw [execUnknownKind_heard unknown heard] at h
      cases h
      exact replies_refusal (fun _ => rfl) nofun
    · exact hasOwner_replies owner heard h
  obtain ⟨code, payload, link, refusal, empty, items, mode⟩ := replies
  exact ⟨code, payload, link, replyKind_known, refusal, empty, items, mode⟩

/-! ## Sizes and locks -/

section
variable {c : Instr} {kind : Byte} {p : List Byte} {s : State}

theorem declines_unknown (unknown : kindUnknown kind = true) (heard : Heard s) (p : List Byte) :
    Declines (.unknownKind kind p) s (replyKind kind) .unknown [] := execUnknownKind_heard unknown heard p

/-- A payload of a wrong size is answered LENGTH by every owned request (R168). -/
theorem declines_length (frame : requestFrame c = some (kind, p)) (size : sizePermitted c = false) (heard : Heard s) :
    Declines c s (kind + 0x80) .length [] := by
  obtain rfl | ⟨α, parse, judge, owned⟩ := hasOwner_of_requestFrame frame
  · cases size
  · have unread : parse p = none := by
      rw [← Option.isNone_iff_eq_none, ← Option.not_isSome, ← owned.size, size]
      rfl
    unfold Declines Answers
    rw [owned.meaning, request_length heard unread, ← replyKind_known owned.known]
    rfl

/-- A configuration request of a permitted size is answered LOCKED in RUN, whatever its fields (R170). -/
theorem declines_locked {α : Type} {parse : List Byte → Option α} (judge : α → State → Answer)
    (locked : ∀ f, judge f s = refused .locked) (known : kind.toNat < 128) (heard : Heard s)
    (size : (parse p).isSome = true) (meaning : exec c s = request kind parse judge p s) :
    Declines c s (kind + 0x80) .locked [] := by
  obtain ⟨f, hp⟩ := Option.isSome_iff_exists.1 size
  exact declines_of_refuse ⟨known, rfl⟩ heard hp (locked f) meaning

end

/-- Settles O6: UNKNOWN and LENGTH by how a request is taken, LOCKED by the guard of the eight rules. -/
theorem sizesAndLocksJudged : Obligations.SizesAndLocksJudged := by
  unfold Obligations.SizesAndLocksJudged
  intro s heard
  refine ⟨fun kind p unknown => ⟨replyKind kind, replyKind_known, declines_unknown unknown heard p⟩,
    fun c kind p frame size => declines_length frame size heard, fun p run c configures size => ?_⟩
  simp only [List.mem_cons, List.not_mem_nil, or_false] at configures
  obtain rfl | rfl | rfl | rfl | rfl | rfl | rfl | rfl := configures
  · exact ⟨0x0F, rfl, declines_locked judgePulseSet (fun _ => unlessRun_run run) (by decide) heard size rfl⟩
  · exact ⟨0x11, rfl, declines_locked judgeEventSet (fun _ => unlessRun_run run) (by decide) heard size rfl⟩
  · exact ⟨0x13, rfl, declines_locked judgePointSet (fun _ => unlessRun_run run) (by decide) heard size rfl⟩
  · exact ⟨0x15, rfl, declines_locked judgeGradeSet (fun _ => unlessRun_run run) (by decide) heard size rfl⟩
  · exact ⟨0x16, rfl, declines_locked judgeHolderSet (fun _ => unlessRun_run run) (by decide) heard size rfl⟩
  · exact ⟨0x18, rfl, declines_locked judgeConsumerSet (fun _ => unlessRun_run run) (by decide) heard size rfl⟩
  · exact ⟨0x2E, rfl, declines_locked judgeMeterSet (fun _ => unlessRun_run run) (by decide) heard size rfl⟩
  · exact ⟨0x06, rfl, declines_locked judgeClockSet (fun _ => unlessRun_run run) (by decide) heard size rfl⟩

end Sys2Proof.Machine
end

section
/-!
What a byte of E7H, a broken frame and a discarded frame do to the receiver and to the conditions (R166, R167).
-/
namespace Sys2Proof.Machine

section
variable {s : State} {l f : List Byte} {b : Byte} {kind : Byte} {c : Instr} {p : List Byte}

/-! ## Frames lost -/

/-- Command `c` loses the frame that is received: the receiver and the overrun mark are left as given, and condition `n`
is raised once with this source (R166, R167). -/
def Loses (c : Instr) (s : State) (n : Fin 32) (source : Nat) (rx : Receiver) (mark : Bool) : Prop :=
  ∃ d : Cnu, exec c s = .next { s with lkp := { s.lkp with rx := rx, overrun := mark }, cnu := d } ∧
    RaisedOnce n source s.sck.pos s.cnu d

theorem loses_overrun (h : exec c s = .next (overrunFrame kind s)) :
    Loses c s condLinkOverrun kind.toNat .hunting false :=
  ⟨_, h, raisedOnce_raiseCond ..⟩

theorem loses_broken {cause : Nat} (h : exec c s = .next (breakFrame cause s)) :
    Loses c s condLinkFrame cause .hunting false :=
  ⟨_, h, raisedOnce_raiseCond ..⟩

/-! ## What the bytes of a frame say -/

theorem lenPermitted_iff {n : Nat} : lenPermitted n = true ↔ 1 ≤ n ∧ n ≤ 1023 := by simp [lenPermitted]

/-- A complete frame is longer than its LEN, which is not judged again with its last byte. -/
theorem lenOf_complete (h : isComplete f = true) : lenOf f = none := by
  match f with
  | [] => rfl
  | [_] => rfl
  | [hi, lo] =>
    simp only [isComplete, List.take, lenOf, Bool.and_eq_true, decide_eq_true_eq, List.length_cons,
      List.length_nil] at h
    omega
  | _ :: _ :: _ :: _ => rfl

/-- The second byte makes LEN a number (R166). -/
theorem lenOf_second (hi : Byte) : lenOf ([hi] ++ [b]) = some (hi.toNat * 256 + b.toNat) := rfl

/-- E7H as the second byte of LEN is permitted after a first byte of 3 or less (Table 9-1). -/
theorem lenOf_start_permitted (short : l.length ≠ 1 ∨ ∃ hi : Byte, l = [hi] ∧ hi.toNat ≤ 3) (len : Nat)
    (h : lenOf (l ++ [0xE7]) = some len) : lenPermitted len = true := by
  match l with
  | [] => cases h
  | [hi] =>
    have low : hi.toNat ≤ 3 := by
      obtain other | ⟨k, e, low⟩ := short
      · exact absurd rfl other
      · cases e; exact low
    rw [lenOf_second] at h
    cases h
    rw [lenPermitted_iff]
    have start : (0xE7 : Byte).toNat = 231 := rfl
    omega
  | [_, _] => cases h
  | _ :: _ :: _ :: _ => cases h

theorem isComplete_readFrame (h : readFrame f = some c) : isComplete f = true ∧ crcRight f = true ∧
    requestOf (kindOf f) (payloadOf f) = c := by
  unfold readFrame at h
  split at h
  · next sound =>
    cases h
    obtain ⟨complete, crc⟩ := Bool.and_eq_true_iff.1 sound
    exact ⟨complete, crc, rfl⟩
  · cases h

/-! ## A byte of E7H -/

theorem linkOverrun_collecting (rx : s.lkp.rx = .collecting l) : linkOverrun s.lkp = s.lkp.overrun := by
  unfold linkOverrun
  rw [rx]

theorem exec_linkStartByte_hunting (rx : s.lkp.rx = .hunting) : exec .linkStartByte s =
    .next { s with lkp := { s.lkp with rx := .collecting [], overrun := s.lkp.answer } } := by
  show execLinkStartByte s = _
  unfold execLinkStartByte
  rw [rx]
  rfl

theorem exec_linkStartByte_collecting (rx : s.lkp.rx = .collecting l) :
    exec .linkStartByte s = collectByte 0xE7 l s := by
  show execLinkStartByte s = _
  unfold execLinkStartByte
  rw [rx]
  rfl

/-- Where E7H completes a frame, the frame is judged at once (R166). -/
theorem exec_linkStartByte_complete (rx : s.lkp.rx = .collecting l) (complete : isComplete (l ++ [0xE7]) = true) :
    exec .linkStartByte s = completeFrame (l ++ [0xE7]) s := by
  rw [exec_linkStartByte_collecting rx]
  refine collectByte_complete (fun len h => ?_) complete
  rw [lenOf_complete complete] at h
  cases h

/-- A first byte of LEN above 3 makes a LEN above 1,023 with E7H. -/
theorem lenOf_start_broken {hi : Byte} (high : 4 ≤ hi.toNat) :
    ∃ len, lenOf ([hi] ++ [0xE7]) = some len ∧ lenPermitted len = false := by
  refine ⟨_, lenOf_second hi, ?_⟩
  rw [← Bool.not_eq_true, lenPermitted_iff]
  omega

/-! ## Broken and discarded frames -/

theorem exec_linkFrameBroken_hunting (rx : s.lkp.rx = .hunting) (cause : LinkBreak) :
    exec (.linkFrameBroken cause) s = .next s := by
  show execLinkFrameBroken cause s = _
  unfold execLinkFrameBroken
  rw [rx]

theorem exec_linkFrameBroken_collecting (rx : s.lkp.rx = .collecting l) (cause : LinkBreak) :
    exec (.linkFrameBroken cause) s = .next (breakBy cause l s) := by
  show execLinkFrameBroken cause s = _
  unfold execLinkFrameBroken
  rw [rx]

/-- The byte that ends a gap begins a frame where it is E7H with its stop bit (R166; log entry 8). -/
theorem loses_gap_start (rx : s.lkp.rx = .collecting l) :
    Loses (.linkFrameBroken (.gap 0xE7 true)) s condLinkFrame 3 (.collecting []) s.lkp.answer :=
  ⟨_, exec_linkFrameBroken_collecting rx _, raisedOnce_raiseCond ..⟩

/-- Any other byte that ends a gap leaves the receiver HUNTING (R166). -/
theorem loses_gap_other {stopBit : Bool} (rx : s.lkp.rx = .collecting l) (other : stopBit = false ∨ b ≠ 0xE7) :
    Loses (.linkFrameBroken (.gap b stopBit)) s condLinkFrame 3 .hunting false := by
  refine loses_broken ((exec_linkFrameBroken_collecting rx _).trans (congrArg _ ?_))
  unfold breakBy
  dsimp only
  split
  · next stop =>
    have notStart : b ≠ Config.linkStart := other.resolve_left (by rw [stop]; decide)
    unfold huntByte
    rw [if_neg notStart]
  · rfl

/-- A LEN that is not permitted, while LEN is being collected (R166). -/
theorem loses_badLen {len : BitVec 16} (rx : s.lkp.rx = .collecting l) (early : l.length < 2)
    (bad : len.toNat = 0 ∨ 1023 < len.toNat) :
    Loses (.linkFrameBroken (.badLen len)) s condLinkFrame 2 .hunting false := by
  refine loses_broken ((exec_linkFrameBroken_collecting rx _).trans (congrArg _ (if_pos ⟨early, ?_⟩)))
  rw [← Bool.not_eq_true, lenPermitted_iff]
  omega

/-- A LEN that is permitted, or one that is complete already, breaks nothing (log entry 8). -/
theorem exec_badLen_other {len : BitVec 16} (rx : s.lkp.rx = .collecting l)
    (other : 2 ≤ l.length ∨ 1 ≤ len.toNat ∧ len.toNat ≤ 1023) :
    exec (.linkFrameBroken (.badLen len)) s = .next s := by
  refine (exec_linkFrameBroken_collecting rx _).trans (congrArg _ (if_neg ?_))
  rintro ⟨early, bad⟩
  rw [← Bool.not_eq_true, lenPermitted_iff] at bad
  omega

theorem exec_frameDiscarded_complete {bytes : List Byte} (complete : isComplete (frameBytes bytes s.lkp) = true) :
    exec (.frameDiscarded bytes) s = .next (discardFrame (frameBytes bytes s.lkp) s) :=
  congrArg _ (if_pos complete)

theorem discardFrame_overrun (overrun : linkOverrun s.lkp = true) (f : List Byte) :
    discardFrame f s = overrunFrame (kindOf f) s := if_pos overrun

theorem discardFrame_heard (heard : Heard s) (f : List Byte) :
    discardFrame f s = if crcRight f then s else breakFrame 1 s := if_neg (by rw [heard]; decide)

/-- A frame that is not complete, or is sound and heard, is not discarded (log entry 8). -/
theorem exec_frameDiscarded_other {bytes : List Byte}
    (other : isComplete (frameBytes bytes s.lkp) = false ∨ Heard s ∧ crcRight (frameBytes bytes s.lkp) = true) :
    exec (.frameDiscarded bytes) s = .next s := by
  cases complete : isComplete (frameBytes bytes s.lkp) with
  | false => exact congrArg _ (if_neg (by rw [complete]; decide))
  | true =>
    obtain incomplete | ⟨heard, crc⟩ := other
    · rw [complete] at incomplete
      cases incomplete
    · rw [exec_frameDiscarded_complete complete, discardFrame_heard heard, if_pos crc]

/-! ## Requests -/

/-- A request frame with the overrun mark is discarded before anything of it is judged (R167). -/
theorem exec_request_overrun (fits : c.wellFormed = true) (frame : requestFrame c = some (kind, p))
    (overrun : linkOverrun s.lkp = true) : exec c s = .next (overrunFrame kind s) := by
  obtain rfl | ⟨α, parse, judge, owned⟩ := hasOwner_of_requestFrame frame
  · have unknown : kindUnknown kind = true := (Bool.and_eq_true_iff.1 fits).1
    show execUnknownKind kind p s = _
    unfold execUnknownKind
    rw [kindKnown_of_kindUnknown unknown, overrun]
    rfl
  · rw [owned.meaning, request_overrun overrun]

end

/-- Settles O7: a byte by what it makes of the bytes collected, a broken and a discarded frame by its cause. -/
theorem linkReceives : Obligations.LinkReceives := by
  unfold Obligations.LinkReceives
  intro s lost
  refine ⟨fun rx => ⟨exec_linkStartByte_hunting rx, exec_linkFrameBroken_hunting rx⟩, fun l rx => ?_,
    fun l len rx other => exec_badLen_other rx other, fun bytes => ⟨fun complete overrun => ?_,
      fun complete heard wrong => ?_, exec_frameDiscarded_other⟩,
    fun c kind p fits frame overrun => loses_overrun (exec_request_overrun fits frame overrun)⟩
  · have mark := linkOverrun_collecting rx
    refine ⟨fun short incomplete => ?_, fun complete overrun => ?_, fun complete heard wrong => ?_,
      fun c reads heard => ?_, fun hi first high => ?_, loses_broken (exec_linkFrameBroken_collecting rx _),
      fun b stopBit => ⟨?_, loses_gap_other rx⟩, fun len early bad => loses_badLen rx early bad⟩
    · rw [exec_linkStartByte_collecting rx, collectByte_collects (lenOf_start_permitted short) incomplete]
    · exact loses_overrun ((exec_linkStartByte_complete rx complete).trans (completeFrame_overrun (mark.trans overrun)))
    · exact loses_broken
        ((exec_linkStartByte_complete rx complete).trans (completeFrame_badCrc (mark.trans heard) wrong))
    · obtain ⟨complete, crc, spells⟩ := isComplete_readFrame reads
      rw [exec_linkStartByte_complete rx complete, completeFrame_sound (mark.trans heard) crc, spells]
    · subst first
      obtain ⟨len, second, broken⟩ := lenOf_start_broken high
      exact loses_broken ((exec_linkStartByte_collecting rx).trans (collectByte_badLen second broken))
    · rintro rfl rfl
      exact loses_gap_start rx
  · exact loses_overrun ((exec_frameDiscarded_complete complete).trans (congrArg _ (discardFrame_overrun overrun _)))
  · refine loses_broken ((exec_frameDiscarded_complete complete).trans (congrArg _ ?_))
    rw [discardFrame_heard heard, if_neg (by rw [wrong]; decide)]

end Sys2Proof.Machine
end

section
/-!
The step, IDENTIFY, and the state right after reset (R168, R174, R175).
-/
namespace Sys2Proof.Machine

/-! ## The step -/

section
variable {c : DriveChannel}

theorem dividerTick_idle (h : c.state ≠ .running) : dividerTick c = c := if_pos h

theorem dividerTick_within (running : c.state = .running) (within : c.divider + 1 < c.baseTick) :
    dividerTick c = { c with divider := c.divider + 1 } := by
  unfold dividerTick
  rw [if_neg (not_not.2 running), if_pos within]

/-- The end of a base tick moves the tick in period, short of the events that have commands of their own (R90). -/
theorem dividerTick_ends (running : c.state = .running) (ends : c.baseTick ≤ c.divider + 1) :
    dividerTick c =
      if c.mode ≠ .raise ∧ ¬ (c.tick + 1 = activeTime c ∨ c.period.getD 0 ≤ c.tick + 1) then
        { c with divider := 0, tick := c.tick + 1 }
      else c := by
  unfold dividerTick
  rw [if_neg (not_not.2 running), if_neg (Nat.not_lt.2 ends)]
  have next : (c.tick < activeTime c ∧ activeTime c ≤ c.tick + 1) ↔ c.tick + 1 = activeTime c := by omega
  have stays : (c.mode = .raise ∨ c.period.getD 0 ≤ c.tick + 1 ∨ c.tick < activeTime c ∧ activeTime c ≤ c.tick + 1) ↔
      ¬ (c.mode ≠ .raise ∧ ¬ (c.tick + 1 = activeTime c ∨ c.period.getD 0 ≤ c.tick + 1)) := by
    rw [next]
    tauto
  by_cases moves : c.mode ≠ .raise ∧ ¬ (c.tick + 1 = activeTime c ∨ c.period.getD 0 ≤ c.tick + 1)
  · rw [if_pos moves, if_neg fun h => stays.1 h moves]
  · rw [if_neg moves, if_pos (stays.2 moves)]

theorem step_idle {s : State} (h : s.pending = []) : step s = .next (idleMs s) := by
  unfold step
  rw [h]

end

/-- Settles O1: the front command by the definition of the step, the idle millisecond by its divider ticks. -/
theorem stepRunsFront : Obligations.StepRunsFront := by
  unfold Obligations.StepRunsFront
  refine ⟨fun s c q => rfl, fun s empty =>
    ⟨each s.dcu.channels fun _ c => dividerTick c, step_idle empty, fun ch => ?_⟩⟩
  intro c event
  rw [each_getElem]
  exact ⟨dividerTick_idle, dividerTick_within, dividerTick_ends⟩

/-! ## IDENTIFY -/

/-- The four bytes of IDENTIFY: part code 0216H, revision 1, the LSEL bits (R175). -/
theorem identifyPayload_eq (l : Lkp) : identifyPayload l = [0x02, 0x16, 0x01, l.lsel.setWidth 8] := by
  have lsel : BitVec.ofNat 8 l.lsel.toNat = l.lsel.setWidth 8 := BitVec.ofNat_toNat 8 l.lsel
  unfold identifyPayload
  rw [← lsel]
  rfl

theorem parseNone_ne_nil {p : List Byte} (h : p ≠ []) : parseNone p = none := by
  cases p with
  | nil => exact absurd rfl h
  | cons b p => rfl

/-- Settles O10: IDENTIFY answers its four bytes, and LENGTH where it carries a field. -/
theorem identifyAnswers : Obligations.IdentifyAnswers := by
  unfold Obligations.IdentifyAnswers
  intro s heard
  refine ⟨?_, fun p carries => ?_⟩
  · rw [← identifyPayload_eq]
    exact answers_of_done (kind := 0x01) (by decide) heard (p := []) (f := ()) (parse := parseNone)
      (judge := judgeIdentify) rfl rfl rfl
  · refine declines_length (kind := 0x01) (p := p) rfl ?_ heard
    show (parseNone p).isSome = false
    rw [parseNone_ne_nil carries]
    rfl

/-! ## The state right after reset -/

/-- A condition begins inactive, with no count and the alarm class of Table 10-1 (R174, R177). -/
theorem reset_record (n : Fin 32) : State.reset.cnu.records[n] = CondRecord.cold n := Vector.getElem_ofFn _

theorem reset_inactive (n : Fin 32) : State.reset.cnu.records[n].active = false := by rw [reset_record]; rfl

/-- An output that no active record drives is deasserted, as reset leaves it (R181). -/
theorem deasserted_iff {out : Bool} {drives : CondRecord → Prop} (h : out = false) :
    out = true ↔ ∃ n : Fin 32, State.reset.cnu.records[n].active = true ∧ drives State.reset.cnu.records[n] := by
  constructor
  · intro asserted
    rw [h] at asserted
    cases asserted
  · rintro ⟨n, active, -⟩
    rw [reset_inactive] at active
    cases active

theorem conditionsSound_reset : ConditionsSound State.reset := by
  refine ⟨⟨deasserted_iff (drives := (·.route = .a)) rfl, deasserted_iff (drives := (·.route = .b)) rfl,
    deasserted_iff (drives := (·.alarm = true)) rfl⟩, fun n => ?_⟩
  rw [reset_record]
  exact ⟨fun _ => rfl, Nat.zero_le _⟩

/-- A LEVEL condition whose cause does not hold after reset follows it (R178). -/
theorem quiet_iff {n : Fin 32} {cause : Prop} (h : ¬ cause) :
    State.reset.cnu.records[n].active = true ↔ cause := by
  rw [reset_inactive]
  exact ⟨fun active => absurd active (by decide), fun holds => absurd holds h⟩

theorem levelsFollow_reset : LevelsFollow State.reset := by
  have points (sp : Fin 32) : State.reset.fiu.points[sp].role = .unassigned :=
    replicate_forall (P := fun p : SamplePoint => p.role = .unassigned) rfl sp
  have grades (g : Fin 3) : State.reset.gbu.grades[g].used = false :=
    replicate_forall (P := fun e : GradeEntry => e.used = false) rfl g
  have consumers (n : Fin 12) : State.reset.gbu.consumers[n].state = .out :=
    replicate_forall (P := fun c : Consumer => c.state = .out) rfl n
  have noPoint {quality : Quality} :
      ¬ ∃ sp : Fin 32, State.reset.fiu.points[sp].role ≠ .unassigned ∧ State.reset.fiu.points[sp].quality = quality :=
    fun ⟨sp, bound, _⟩ => bound (points sp)
  have noGrade {band : Band} :
      ¬ ∃ g : Fin 3, State.reset.gbu.grades[g].used = true ∧ State.reset.gbu.grades[g].band = band :=
    fun ⟨g, used, _⟩ => by rw [grades] at used; cases used
  have noConsumer : ¬ ∃ n : Fin 12, State.reset.gbu.consumers[n].state = .blocked :=
    fun ⟨n, blocked⟩ => by rw [consumers] at blocked; cases blocked
  exact ⟨⟨quiet_iff noPoint, quiet_iff noPoint, quiet_iff (not_not.2 rfl), quiet_iff (not_not.2 rfl),
      quiet_iff (not_not.2 rfl)⟩,
    ⟨quiet_iff noGrade, quiet_iff noGrade, quiet_iff noConsumer⟩,
    ⟨quiet_iff nofun, quiet_iff nofun, quiet_iff nofun, quiet_iff fun starved => starved.2 rfl⟩⟩

/-- Settles O53: the cold state has the properties of each block. -/
theorem resetSound : Obligations.ResetSound := by
  unfold Obligations.ResetSound
  exact ⟨conditionsSound_reset, levelsFollow_reset, clockSound_cold _ _ _, drivesSound_iff.2 (driven_cold _ _),
    registersSound_iff.2 (registers_cold _ _), queuesSound_cold _ _ _, directorySound_cold, banksSound_cold⟩

end Sys2Proof.Machine
end
